-- ==== Sys2Proof/Word.lean ====
section
/-! DEFINITION. The word types of the ZL420: a word of the exchange memory is 16 bits (00_scope.md, Conventions). -/

namespace Sys2Proof

/-- A word of the exchange memory. -/
abbrev Word := BitVec 16

/-- A byte on the base link, the pen link or the host port. -/
abbrev Byte := BitVec 8

/-- A value of the time base (R1). -/
abbrev Time := BitVec 32

end Sys2Proof
end

