-- ==== Sys2Proof/Syntax.lean ====
section
/-! DEFINITION. The commands of the ZL420: one constructor for each row of spec/opcode_table.json, with the operands that
the row's rules name. A command is what reaches the part from outside, or the end of something the part has under way. -/

namespace Sys2Proof

/-- The four filtered inputs (section 1.3). -/
inductive Input where
  | lidh | foldh | penh | bpres
  deriving DecidableEq, Repr

/-- The nine notice classes (section 11.1). -/
inductive NoticeClass where
  | advice | posture | orientation | keys | base | pen | charge | fault | request
  deriving DecidableEq, Repr

/-- What one try of a configuration step reads (R4): the identity byte, and whether the range reads back as written. -/
structure ConfigTry where
  identity : Byte
  rangeHeld : Bool
  deriving DecidableEq, Repr

/-- What one attempt at a sample reads (R7): the identity byte, whether data-ready came within 2 ms, and the axes. -/
structure SampleTry where
  identity : Byte
  ready : Bool
  x : Word
  y : Word
  z : Word
  deriving DecidableEq, Repr

/-- A character received on BRX (R53): its majority value, its two flags, and whether it was complete in an earlier link state than
the one in which its frame ends. The receiver flags noise only on characters complete while it listens (log entry 33). -/
structure RxChar where
  byte : Byte
  framingError : Bool
  noise : Bool
  earlier : Bool
  deriving DecidableEq, Repr

/-- The characters of a frame that the receiver flags noise (R53): those complete while it listened in an earlier link state than the
one in which the frame ends, and those complete in that one (log entry 33). -/
structure NoiseCount where
  earlier : Nat
  present : Nat
  deriving DecidableEq, Repr

/-- One transition of a KEYS frame (13.8): a key code and its flags, bit 0 set for a release. -/
structure KeyEvent where
  code : Byte
  flags : Byte
  deriving DecidableEq, Repr

/-- The commands. `noise` operands count the characters of the frame that R53 flags noise, by the
link state in which each was complete; `seq` is the sequence number
in the low four bits of HEAD (R54). -/
inductive Instr where
  /-- FULL_RESET (R160). -/
  | fullReset
  /-- SOFT_RESET (R159). -/
  | softReset
  /-- RESET_WORK_END (R5). -/
  | resetWorkEnd
  /-- TB_TICK (R1). -/
  | tbTick
  /-- CONFIGURATION_STEP_END (R4): what the two tries read; the second counts only when the first failed. -/
  | configurationStepEnd (first second : ConfigTry)
  /-- SAMPLE_DUE (R6). -/
  | sampleDue
  /-- SAMPLE_ARRIVAL (R7): what the attempt and its retry read; the retry counts only when the attempt failed. -/
  | sampleArrival (attempt retry : SampleTry)
  /-- FAULT_ATTEMPT_DUE (R11). -/
  | faultAttemptDue
  /-- FAULT_ATTEMPT_END (R11): the configuration step's tries, then the sample's attempt and retry. -/
  | faultAttemptEnd (first second : ConfigTry) (attempt retry : SampleTry)
  /-- FILTERED_LEVEL_CHANGE (R13): the input and the level (true for high) its pin has held for 100 µs. -/
  | filteredLevelChange (input : Input) (high : Bool)
  /-- DEBOUNCE_EXPIRY (R14). -/
  | debounceExpiry (input : Input)
  /-- HOLD_TIMER_EXPIRY (R30). -/
  | holdTimerExpiry
  /-- POSTURE_DWELL_EXPIRY (R43). -/
  | postureDwellExpiry
  /-- ORIENTATION_DWELL_EXPIRY (R50). -/
  | orientationDwellExpiry
  /-- LINE_BREAK_RECEIVED (R53): `noise` counts the noisy characters of a frame in reception. -/
  | lineBreakReceived (noise : NoiseCount)
  /-- FRAME_GAP_TIMEOUT (R54). -/
  | frameGapTimeout (noise : NoiseCount)
  /-- FRAME_DISCARD (R54): the characters of the frame as received, HEAD first. -/
  | frameDiscard (chars : List RxChar)
  /-- HELLO (R64). -/
  | hello (noise : NoiseCount) (seq : BitVec 4) (cls revision : Byte) (accessory : BitVec 32)
  /-- KEYS (R66). -/
  | keys (noise : NoiseCount) (seq : BitVec 4) (events : List KeyEvent) (heldCount : Byte)
  /-- MOTION (R66). -/
  | motion (noise : NoiseCount) (seq : BitVec 4) (x y z : Word) (counter : Byte)
  /-- STATUS (R57): flags bit 0 lost-settings, bit 1 quiet (13.8). -/
  | status (noise : NoiseCount) (seq : BitVec 4) (mode flags : Byte) (draw : Word) (held : List Byte)
  /-- REPLY (R57). -/
  | reply (noise : NoiseCount) (seq : BitVec 4) (attrId : Word) (result value : Byte)
  /-- EXCHANGE_SENT (R60). -/
  | exchangeSent
  /-- REPLY_TIMER_EXPIRY (R60). -/
  | replyTimerExpiry
  /-- POWER_GOOD_EXPIRY (R64). -/
  | powerGoodExpiry
  /-- LINE_RESET_END (R64). -/
  | lineResetEnd
  /-- ACTIVATE_TIME_EXPIRY (R64). -/
  | activateTimeExpiry
  /-- HELLO_TIMER_EXPIRY (R64). -/
  | helloTimerExpiry
  /-- STALL_IDLE_EXPIRY (R67). -/
  | stallIdleExpiry
  /-- MINIMUM_HIBERNATE_EXPIRY (R70). -/
  | minimumHibernateExpiry
  /-- WAKE_BREAK_END (R70). -/
  | wakeBreakEnd
  /-- BASE_RETRY (R74). -/
  | baseRetry
  /-- PROFILE_SNAPSHOT_END (R81). -/
  | profileSnapshotEnd
  /-- BASE_ATTRIBUTE (R88). -/
  | baseAttribute
  /-- PROFILE_RELOAD (R89). -/
  | profileReload
  /-- SETTLING_EXPIRY (R110). -/
  | settlingExpiry
  /-- WINDOW_DUE (R113). -/
  | windowDue
  /-- QUIET_END (R103). -/
  | quietEnd
  /-- BREAK_END (R103). -/
  | breakEnd
  /-- POLL_SENT (R103). -/
  | pollSent
  /-- SYNC_START (R104). -/
  | syncStart
  /-- SYNC_WAIT_EXPIRY (R104). -/
  | syncWaitExpiry
  /-- SYNC_MEASURE_TIMEOUT (R104). -/
  | syncMeasureTimeout
  /-- SYNC_RECEIVED (R104): the measured bit time in tenths of a microsecond, the character decoded at it, and whether its
  stop bit read high. -/
  | syncReceived (bitTime : Nat) (char : Byte) (stopHigh : Bool)
  /-- REPORT_START (R105). -/
  | reportStart
  /-- REPORT_WAIT_EXPIRY (R105). -/
  | reportWaitExpiry
  /-- REPORT_GAP_TIMEOUT (R105). -/
  | reportGapTimeout
  /-- REPORT (R105): whether any character had a framing error, and the twelve characters by field (13.9). -/
  | report (framingError : Bool) (penId : BitVec 32) (battery : Word) (temperature soc : Byte) (requested : Word)
      (flags check : Byte)
  /-- GRANT_SENT (R106). -/
  | grantSent
  /-- PRECHARGE_EXPIRY (R112). -/
  | prechargeExpiry
  /-- OVERCURRENT (R131): the measured current in mA that stayed for 1 ms (R130). -/
  | overcurrent (measured : BitVec 10)
  /-- COOLDOWN_EXPIRY (R133). -/
  | cooldownExpiry
  /-- FAULT_HISTORY_EXPIRY (R132). -/
  | faultHistoryExpiry
  /-- PEN_CONTROL_STOP (R134). -/
  | penControlStop
  /-- PEN_CONTROL_RESUME (R134). -/
  | penControlResume
  /-- PEN_CONTROL_CLEAR_LOCKOUT (R134). -/
  | penControlClearLockout
  /-- PEN_CONTROL_BAD_ARG (R119). -/
  | penControlBadArg
  /-- SET_HOST_STATE (R138). -/
  | setHostState
  /-- INACTIVITY_EXPIRY (R143). -/
  | inactivityExpiry
  /-- GRACE_EXPIRY (R145). -/
  | graceExpiry
  /-- RECORD_PUBLICATION_END (R176). -/
  | recordPublicationEnd (cls : NoticeClass)
  /-- WAKE_PULSE_END (R184). -/
  | wakePulseEnd
  /-- WAKE_REPEAT_EXPIRY (R184). -/
  | wakeRepeatExpiry
  /-- ACKNOWLEDGE (R181): a host read of the ACKNOWLEDGE word. -/
  | acknowledge
  /-- TAKE (R182): a host write of the TAKE word. -/
  | take (value : Word)
  /-- END_SERVICE (R183): a host write of the END_SERVICE word. -/
  | endService (value : Word)
  /-- ATTENTION (R163): a host write of the ATTENTION word. -/
  | attention (value : Word)
  /-- SLOT_COMPLETION_END (R165). -/
  | slotCompletionEnd
  /-- XM_WORD_WRITE (R156): a host write of one word. -/
  | xmWordWrite (address value : Word)
  /-- READ (R151): the words fetched from a start address. -/
  | read (address : Word) (count : Nat)
  /-- WRITE (R152): the words written from a start address. -/
  | write (address : Word) (words : List Word)
  /-- UPDATE (R153): the new word, or none where HCS rises before it is complete. -/
  | update (address expected : Word) (new : Option Word)
  /-- PORT_READ (R155). -/
  | portRead (index : Byte)
  /-- UNKNOWN_COMMAND (R150): the command byte. The byte of SOFT RESET stands here when further bits follow it (R159). -/
  | unknownCommand (byte : Byte)
  /-- TRANSACTION_END (R154): HCS rises. -/
  | transactionEnd
  /-- APPLY_SETTINGS (R170). -/
  | applySettings
  /-- SETTINGS_SNAPSHOT_END (R170). -/
  | settingsSnapshotEnd
  /-- LOCK_SETTINGS (R169). -/
  | lockSettings
  /-- TIME_CAPTURE (R167). -/
  | timeCapture
  /-- COUNTERS_READ (R168). -/
  | countersRead
  /-- COUNTERS_READ_AND_CLEAR (R168). -/
  | countersReadAndClear
  /-- COUNTERS_BAD_ARG (R168). -/
  | countersBadArg
  /-- BAD_KIND (R167). -/
  | badKind
  /-- REFRESH (R185). -/
  | refresh
  /-- RESETN_RELEASE (R160): whether HCS is already low when RESETN rises. -/
  | resetnRelease (hcsLow : Bool)
  /-- PROFILE_RESULT_WRITE_END (R84). -/
  | profileResultWriteEnd
  /-- SETTINGS_WRITE_BACK_END (R172). -/
  | settingsWriteBackEnd
  deriving DecidableEq, Repr

end Sys2Proof
end

