-- ==== Sys2Proof/Config.lean ====
section
/-! DEFINITION. What an implementation fixes and the free values. -/

namespace Sys2Proof

/-- The pen current in mA that the overcurrent monitor measures at the n-th reading it is asked for (R130, R135): an analog
quantity that the spec gives only a range, 0..1023. A FREE VALUE (log entry 3): nothing constrains it. -/
opaque Config.measuredCurrent : Nat → BitVec 10

/-- HMISO is driven while HCS, low as RESETN rose, stays low: no transaction is in progress then (R160), and R150 says what HMISO
does within a transaction and with HCS high. A FREE VALUE (log entry 56): nothing constrains it. -/
opaque Config.hmisoDrivenWaiting : Bool

end Sys2Proof
end

