-- ==== Sys2Proof/Machine/State.lean ====
section
/-! DEFINITION. The state of the ZL420 as plain data, block by block as the chapters' state tables give it, and the state
right after a full reset. -/

namespace Sys2Proof.Machine

/-! ### Shared shapes -/

/-- A running timer: its start and its duration in milliseconds (R2). A cancelled timer is `none`. -/
structure Timer where
  start : Time
  dur : Nat
  deriving DecidableEq, Repr

/-- One value for each filtered input. -/
structure PerInput (α : Type) where
  lidh : α
  foldh : α
  penh : α
  bpres : α
  deriving DecidableEq, Repr

/-- One value for each notice class. -/
structure PerClass (α : Type) where
  advice : α
  posture : α
  orientation : α
  keys : α
  base : α
  pen : α
  charge : α
  fault : α
  request : α
  deriving DecidableEq, Repr

/-- The exchange memory above the control words: pairs of a word address and the word there, addresses strictly rising, none
equal to what an unlisted address reads as (Machine/Ops.lean, `resetWord`). -/
abbrev Memory := List (Nat × Word)

/-! ### Settings (13.3) -/

/-- An accelerometer axis. -/
inductive Axis where
  | x | y | z
  deriving DecidableEq, Repr

/-- The source of one of the manual's axes: a sensor axis and a sign (2.1). -/
structure AxisSource where
  axis : Axis
  minus : Bool
  deriving DecidableEq, Repr

/-- A mounting map (2.1). -/
structure MountingMap where
  x : AxisSource
  y : AxisSource
  z : AxisSource
  deriving DecidableEq, Repr

/-- The three settings of a notice class (11.1). -/
structure ClassSetting where
  priority : Nat
  mask : Bool
  wake : Bool
  deriving DecidableEq, Repr

/-- The in-force settings, one value for each setting of 13.3. -/
structure Settings where
  lidMap : MountingMap
  baseMap : MountingMap
  projectionFloor : Nat
  motionTolerance : Nat
  smoothingShift : Nat
  snapThreshold : Nat
  snapCount : Nat
  b1 : Nat
  b2 : Nat
  b3 : Nat
  b4 : Nat
  hysteresis : Nat
  postureDwell : Nat
  suppressionMask : BitVec 8
  orientationDwell : Nat
  orientationHysteresis : Nat
  tiltFloor : Nat
  rotateMask : BitVec 8
  orientationLock : Bool
  activeHigh : PerInput Bool
  stallIdle : Nat
  minHibernate : Nat
  activateTime : Nat
  lineReset : Nat
  helloTimeout : Nat
  helloAttempts : Nat
  replyTimeout : Nat
  replyAttempts : Nat
  classMask : BitVec 8
  chargePeriod : Nat
  toppedPeriod : Nat
  prechargeCurrent : Nat
  prechargeTime : Nat
  rechargeThreshold : Nat
  ceiling : Nat
  tDerate : Nat
  tResume : Nat
  tStop : Nat
  bRunning : Nat
  bSleeping : Nat
  bOff : Nat
  closeSleep : Bool
  closeGrace : Nat
  inactivityTime : Nat
  penWake : Bool
  pickupWake : Bool
  pickupThreshold : Nat
  keepAwake : Bool
  wakeRetry : Nat
  classes : PerClass ClassSetting
  deriving DecidableEq, Repr

/-- The identity mounting map, 0x0210. -/
def identityMap : MountingMap := ⟨⟨.x, false⟩, ⟨.y, false⟩, ⟨.z, false⟩⟩

/-- The default settings (13.3, 11.1). -/
def Settings.default : Settings where
  lidMap := identityMap
  baseMap := identityMap
  projectionFloor := 2048
  motionTolerance := 16
  smoothingShift := 2
  snapThreshold := 30
  snapCount := 3
  b1 := 20
  b2 := 170
  b3 := 190
  b4 := 330
  hysteresis := 4
  postureDwell := 300
  suppressionMask := 0x72#8
  orientationDwell := 500
  orientationHysteresis := 2
  tiltFloor := 1536
  rotateMask := 0xF0#8
  orientationLock := false
  activeHigh := ⟨false, false, false, false⟩
  stallIdle := 200
  minHibernate := 100
  activateTime := 2
  lineReset := 2
  helloTimeout := 50
  helloAttempts := 3
  replyTimeout := 20
  replyAttempts := 2
  classMask := 0x1E#8
  chargePeriod := 500
  toppedPeriod := 4000
  prechargeCurrent := 20
  prechargeTime := 60
  rechargeThreshold := 95
  ceiling := 300
  tDerate := 40
  tResume := 45
  tStop := 50
  bRunning := 4500
  bSleeping := 2500
  bOff := 1500
  closeSleep := true
  closeGrace := 2000
  inactivityTime := 60
  penWake := true
  pickupWake := true
  pickupThreshold := 400
  keepAwake := false
  wakeRetry := 1000
  classes := ⟨⟨2, false, true⟩, ⟨4, false, false⟩, ⟨6, false, false⟩, ⟨3, false, false⟩, ⟨3, false, false⟩,
    ⟨5, false, false⟩, ⟨7, false, false⟩, ⟨1, false, true⟩, ⟨5, false, false⟩⟩

/-! ### Sensor port and inputs (chapter 1) -/

/-- PART_STATE (R5). -/
inductive PartState where
  | starting | ready | degraded
  deriving DecidableEq, Repr

/-- The host state (8.1). -/
inductive HostState where
  | running | sleeping | off
  deriving DecidableEq, Repr

/-- The health of the lid accelerometer (table 1.2). -/
inductive Health where
  | configuring | healthy | faulted
  deriving DecidableEq, Repr

/-- The sampling rate (table 1.2): 10 ms, 80 ms, or stopped. -/
inductive Rate where
  | fast | slow | stopped
  deriving DecidableEq, Repr

/-- What SP has in flight: a configuration step with its start, or a sample or FAULTED attempt with its due time. -/
inductive Flight where
  | none
  | config (start : Time)
  | sample (due : Time)
  | attempt (due : Time)
  deriving DecidableEq, Repr

/-- The sensor port (table 1.2). -/
structure Sp where
  health : Health
  failureRun : Nat
  goodRun : Nat
  rate : Rate
  nextDue : Option Time
  lastDue : Option Time
  fresh : Bool
  flight : Flight
  deriving DecidableEq, Repr

/-- One filtered input (R13, R14): its filtered level, its debounced state (active or present) and its debounce timer. -/
structure InputState where
  level : Bool
  debounced : Bool
  timer : Option Timer
  deriving DecidableEq, Repr

/-! ### Angle engine (chapter 2) -/

/-- The validity of the angle (table 2.2). -/
inductive Validity where
  | valid | held | unknown
  deriving DecidableEq, Repr

/-- The reason beside the validity (table 2.2). -/
inductive Reason where
  | none | noBase | staleBase | motion | projection | sensorFault | mounting
  deriving DecidableEq, Repr

/-- The angle engine (table 2.2). `published` none is 0xFFFF. -/
structure Ae where
  validity : Validity
  reason : Reason
  f : Nat
  snap : Nat
  published : Option Nat
  hold : Option Timer
  base : Option (Int × Int)
  deriving DecidableEq, Repr

/-! ### Posture and orientation (chapter 3) -/

/-- The eight postures (section 3.1). -/
inductive Posture where
  | unknown | closed | laptop | flat | tent | stand | tablet | detached
  deriving DecidableEq, Repr

/-- The zones (R36), with NONE. -/
inductive Zone where
  | none | seam | opened | flat | folded
  deriving DecidableEq, Repr

/-- The seam side (section 3.2). -/
inductive SeamSide where
  | near | far
  deriving DecidableEq, Repr

/-- What PC stores of an AE delivery (R35). -/
structure StoredDelivery where
  angle : Option Nat
  validity : Validity
  reason : Reason
  base : Option (Int × Int)
  deriving DecidableEq, Repr

/-- What decides whether POSTURE is offered (R45). -/
structure OfferedPosture where
  posture : Posture
  zone : Zone
  seam : SeamSide
  suppression : Bool
  unknown : Bool
  deriving DecidableEq, Repr

/-- The posture classifier (table 3.1). -/
structure Pc where
  zone : Zone
  seam : SeamSide
  stored : StoredDelivery
  candidate : Posture
  dwell : Option Timer
  published : Posture
  suppression : Bool
  disagreement : Bool
  hallDisagreement : Nat
  offered : OfferedPosture
  deriving DecidableEq, Repr

/-- The rotations (section 3.7). -/
inductive Rotation where
  | rot0 | rot90 | rot180 | rot270
  deriving DecidableEq, Repr

/-- The hold of the orientation tracker (R51). -/
inductive Hold where
  | none | posture | lock
  deriving DecidableEq, Repr

/-- The orientation tracker (table 3.7). -/
structure Ot where
  rotation : Rotation
  hold : Hold
  candidate : Option Rotation
  dwell : Option Timer
  tilted : Bool
  posture : Posture
  time : Time
  deriving DecidableEq, Repr

/-! ### Base link (chapter 4) -/

/-- The twelve link states (section 4.5). -/
inductive Link where
  | detached | powering | resetting | activating | identifying | refused | profiling | active | stall | hibernate
  | waking | fault
  deriving DecidableEq, Repr

/-- The modes of the link. -/
inductive LinkMode where
  | active | stall | hibernate
  deriving DecidableEq, Repr

/-- An attribute write or read to the base (R83, R88). -/
structure AttrOp where
  write : Bool
  id : BitVec 12
  value : Byte
  deriving DecidableEq, Repr

/-- An exchange taken from the queue (R57): a MODE carries the quiet flag it was sent with (R77). -/
inductive Exchange where
  | mode (m : LinkMode) (quiet : Bool)
  | query
  | attr (op : AttrOp)
  deriving DecidableEq, Repr

/-- A transmission in progress on BTX (R55). `live` is clear once a change of link state or an answer has left it without
further effect. -/
inductive Tx where
  | frame (bytes : List Byte) (live : Bool)
  | lineReset (timer : Timer) (live : Bool)
  | wakeBreak (live : Bool)
  deriving DecidableEq, Repr

/-- A line condition ordered and waiting for the line (R55). -/
inductive LineOrder where
  | lineReset | wakeBreak
  deriving DecidableEq, Repr

/-- A HELLO frame (4.2). -/
structure Hello where
  seq : BitVec 4
  cls : Byte
  revision : Byte
  accessory : BitVec 32
  deriving DecidableEq, Repr

/-- The identity of the base from the HELLO taken (R64). -/
structure BaseIdent where
  cls : Byte
  revision : Byte
  accessory : BitVec 32
  deriving DecidableEq, Repr

/-- The latest STATUS taken (R76, R78); `mode` none is UNKNOWN_MODE (R56). -/
structure BaseStatus where
  draw : Nat
  mode : Option LinkMode
  quiet : Bool
  lost : Bool
  deriving DecidableEq, Repr

/-- The latest base sample (R21, R66), raw. -/
structure BaseSample where
  x : Word
  y : Word
  z : Word
  counter : Byte
  time : Time
  deriving DecidableEq, Repr

/-- The base link (chapter 4). -/
structure Bl where
  link : Link
  tx : Option Tx
  lineOrder : Option LineOrder
  txSeq : BitVec 4
  expSeq : Option (BitVec 4)
  qMode : Option LinkMode
  qQuery : Bool
  qAttr : Option AttrOp
  exch : Option Exchange
  attempts : Nat
  replyTimer : Option Timer
  powerTimer : Option Timer
  activateTimer : Option Timer
  helloTimer : Option Timer
  stallTimer : Option Timer
  minHibTimer : Option Timer
  heldHello : Option Hello
  helloAttempts : Nat
  ovReply : Option Nat
  ovStall : Option Nat
  ident : Option BaseIdent
  status : Option BaseStatus
  target : LinkMode
  pendingWake : Bool
  quiet : Bool
  reservation : Nat
  sample : Option BaseSample
  absent : Bool
  framing : Nat
  check : Nat
  noise : Nat
  lost : Nat
  noReply : Nat
  deriving DecidableEq, Repr

/-! ### Requests (chapter 10) -/

/-- An accepted request: its slot, the kind and argument words read at acceptance (nothing can change them until the answer,
R156), and the acceptance time (R163). -/
structure Request where
  slot : Nat
  kind : Word
  args : List Word
  time : Time
  deriving DecidableEq, Repr

/-- A completion that RQ writes into a slot (R165): DONE or FAILED, the result code and the result data. -/
structure Completion where
  slot : Nat
  done : Bool
  code : Word
  data : List Word
  deriving DecidableEq, Repr

/-- The request dispatcher (10.2, 10.3): one queue for each owner, oldest first, and the completions being written. -/
structure Rq where
  attention : BitVec 8
  badAttention : Nat
  sl : List Request
  sa : List Request
  pw : List Request
  bl : List Request
  cc : List Request
  rq : List Request
  nu : List Request
  completions : List Completion
  deriving DecidableEq, Repr

/-- SL's held operation (R170, R172): the snapshot, or the write-back of the fields' words (area offset and word) with the
settings it brings into force and the result code. -/
inductive SlOp where
  | idle
  | snapshot
  | writeBack (words : List (Nat × Word)) (settings : Settings) (code : Word)
  deriving DecidableEq, Repr

/-- The settings loader (10.5). -/
structure Sl where
  inForce : Settings
  lock : Bool
  current : Option Request
  op : SlOp
  deriving DecidableEq, Repr

/-! ### Profile walker and key tracker (chapter 5) -/

/-- The walk in progress (table 5.1). -/
inductive Walk where
  | none | attach | reload
  deriving DecidableEq, Repr

/-- PW's held operation (R81, R84). -/
inductive PwOp where
  | idle | snapshot | resultWrite
  deriving DecidableEq, Repr

/-- How a walk ends (R84, R85, R89): complete, a BASE entry unanswered, the link gone, or a new entry into PROFILING. -/
inductive WalkEnd where
  | complete | noReply | notAttached | superseded
  deriving DecidableEq, Repr

/-- The result of an entry (section 5.1). -/
inductive EntryResult where
  | notRun | ok | error | noReply | skipped
  deriving DecidableEq, Repr

/-- The origin of PW's exchange in flight (table 5.1). -/
inductive Origin where
  | walkEntry | request
  deriving DecidableEq, Repr

/-- The state of PW's current request (R86). -/
inductive ReqPhase where
  | waiting | running
  deriving DecidableEq, Repr

/-- The counts of a walk (section 5.1). -/
structure WalkCounts where
  succeeded : Nat
  errored : Nat
  notRun : Nat
  deriving DecidableEq, Repr

/-- The profile walker (table 5.1). `waiting` holds the attach walks that entries into PROFILING have started while a held operation
of PW was running, oldest first, each with its end where it has ended already (R85, log entry 38). -/
structure Pw where
  walk : Walk
  op : PwOp
  ending : Option WalkEnd
  waiting : List (Option WalkEnd)
  snapshot : Option (List (Word × Word))
  position : Nat
  results : List EntryResult
  inFlight : Option Origin
  current : Option (Request × ReqPhase)
  wakeAsked : Bool
  counts : WalkCounts
  deriving DecidableEq, Repr

/-- A transition of the key queue (table 5.4). -/
structure Transition where
  code : Nat
  release : Bool
  synthesized : Bool
  time : Word
  deriving DecidableEq, Repr

/-- The key tracker (table 5.4). The sets P (`held`), D (`down`) and I (`ignored`) are lists without repeats in ascending
code order. -/
structure Kt where
  held : List Nat
  down : List Nat
  ignored : List Nat
  queue : List Transition
  suppression : Bool
  dropped : Nat
  resync : Bool
  droppedPresses : Nat
  invalidCodes : Nat
  deriving DecidableEq, Repr

/-! ### Pen link and charge controller (chapters 6 and 7) -/

/-- The phases of a talk window (section 6.2). -/
inductive Phase where
  | idle | quiet | breaking | poll | waitSync | sync | waitReport | report | grant
  deriving DecidableEq, Repr

/-- The session states (section 6.4). -/
inductive Session where
  | absent | settling | waking | precharge | charging | topped | paused | cooldown | lockout | silent
  deriving DecidableEq, Repr

/-- The pen's latest report (R105). -/
structure PenReport where
  battery : Nat
  temperature : Int
  soc : Nat
  requested : Nat
  full : Bool
  fault : Bool
  deriving DecidableEq, Repr

/-- What an accepted REPORT makes of its window's end (R106, R113, R131). -/
inductive WindowOutcome where
  | session (st : Session)
  | penFault
  deriving DecidableEq, Repr

/-- The pen link (table 6.2), with what the window in progress carries to its end. -/
structure Pn where
  phase : Phase
  bitTime : Option Nat
  failures : Nat
  penId : Option (BitVec 32)
  report : Option PenReport
  syncErrors : Nat
  badFrames : Nat
  failedWindows : Nat
  restore : Nat
  granted : Nat
  outcome : Option WindowOutcome
  grantFrame : List Byte
  deriving DecidableEq, Repr

/-- The pause causes (R114). -/
structure Causes where
  thermal : Bool
  budget : Bool
  host : Bool
  deriving DecidableEq, Repr

/-- The kinds of charge fault (R131). -/
inductive ChargeFault where
  | none | overcurrent | penReported
  deriving DecidableEq, Repr

/-- The charge controller: the session (table 6.4) and the grant and budget side (table 7.1). `guard` holds the TB value at
which the contact guard turned on. `readings` is the model's own: the index of the next free reading of the current. -/
structure Cc where
  session : Session
  causes : Causes
  setpoint : Nat
  wakingWindows : Nat
  prechargeRounds : Nat
  windowTimer : Option Timer
  stateTimer : Option Timer
  windowDue : Bool
  guard : Option Time
  prechargeGrant : Nat
  budget : Nat
  reservation : Nat
  budgetLimit : Nat
  thermalLimit : Option Nat
  grant : Nat
  history : Option Timer
  lastFault : ChargeFault
  measured : Nat
  readings : Nat
  deriving DecidableEq, Repr

/-! ### Sleep advisor (chapter 8) -/

/-- The advisor states (8.1). -/
inductive Advisor where
  | active | idle | closePending | sleepAdvised | watching
  deriving DecidableEq, Repr

/-- The sleep advisor (table 8.1). -/
structure Sa where
  hostState : HostState
  advisor : Advisor
  posture : Posture
  dimmed : Bool
  inactivity : Option Timer
  grace : Option Timer
  previous : Option (Int × Int × Int)
  deriving DecidableEq, Repr

/-! ### Host port (chapter 9) -/

/-- The outcome of a word access (R154). -/
inductive Access where
  | ok | retry | prot | range
  deriving DecidableEq, Repr

/-- The direction of a transaction (R150). An UPDATE whose new word is not yet complete carries its expected word (R153). -/
inductive TransKind where
  | read | write
  | update (expected : Word)
  | other
  deriving DecidableEq, Repr

/-- A transaction in progress: its direction, its address counter, its most severe outcome so far, and the ranges (first
address and length) that held operations begun during it keep from it (R158). -/
structure Trans where
  kind : TransKind
  next : Nat
  worst : Access
  held : List (Nat × Nat)
  deriving DecidableEq, Repr

/-- The host port (chapter 9). `out` holds the words returned on HMISO in the present or the last transaction. -/
structure Hp where
  blocked : Bool
  trans : Option Trans
  status : Access
  out : List Word
  deriving DecidableEq, Repr

/-- The condition of the line HMISO (R150): high-impedance, driven high with no data to send, or carrying a returned word. -/
inductive Hmiso where
  | highImpedance
  | high
  | data (w : Word)
  deriving DecidableEq, Repr

/-- The reset's work on XM (R160, R161): the words its end writes into the settings area (area offset and word) and whether
the soft-reset apply refused the area (R173). -/
structure ResetWork where
  writes : List (Nat × Word)
  rejected : Bool
  deriving DecidableEq, Repr

/-! ### Notice unit (chapter 11) -/

/-- The seven faults (11.1). -/
inductive FaultName where
  | sensorFault | linkFault | baseRefused | penSilent | penCooldown | penLockout | settingsRejected
  deriving DecidableEq, Repr

/-- A set of faults, bit n as 13.5 numbers them. -/
abbrev FaultSet := BitVec 7

/-- Advice kinds (R149). -/
inductive AdviceKind where
  | dim | undim | sleep | cancelSleep | wake
  deriving DecidableEq, Repr

/-- The content of an ADVICE offer (R149). -/
structure AdviceContent where
  kind : AdviceKind
  causes : BitVec 6
  posture : Posture
  hostState : HostState
  advisor : Advisor
  dimmed : Bool
  deriving DecidableEq, Repr

/-- The content of a POSTURE offer (R45). -/
structure PostureContent where
  posture : Posture
  candidate : Posture
  suppression : Bool
  angle : Option Nat
  validity : Validity
  reason : Reason
  seam : SeamSide
  zone : Zone
  deriving DecidableEq, Repr

/-- The content of an ORIENTATION offer (R52). -/
structure OrientationContent where
  rotation : Rotation
  hold : Hold
  posture : Posture
  tilted : Bool
  deriving DecidableEq, Repr

/-- The content of a BASE offer (R78). -/
structure BaseContent where
  link : Link
  events : BitVec 12
  ident : Option BaseIdent
  reservation : Nat
  status : Option BaseStatus
  quietOrdered : Bool
  motionCounter : Option Byte
  counts : WalkCounts
  deriving DecidableEq, Repr

/-- The content of a PEN offer (R120). -/
structure PenContent where
  present : Bool
  session : Session
  causes : Causes
  penId : Option (BitVec 32)
  report : Option PenReport
  deriving DecidableEq, Repr

/-- The content of a CHARGE offer (R135). -/
structure ChargeContent where
  grant : Nat
  setpoint : Nat
  measured : Nat
  budget : Nat
  reservation : Nat
  budgetLimit : Nat
  thermalLimit : Option Nat
  report : Option PenReport
  causes : Causes
  lastFault : ChargeFault
  deriving DecidableEq, Repr

/-- The content of an offer. KEYS carries none: its transitions wait in the key queue (R178). FAULT carries its event set; the
active fault set and the last fault code are NU's own. -/
inductive Content where
  | advice (c : AdviceContent)
  | posture (c : PostureContent)
  | orientation (c : OrientationContent)
  | keys
  | base (c : BaseContent)
  | pen (c : PenContent)
  | charge (c : ChargeContent)
  | fault (events : FaultSet)
  | request (slots : BitVec 8)
  deriving DecidableEq, Repr

/-- An offer to NU (11.2): content, or a change of the active fault set with the fault that joins and those that leave. -/
inductive Offer where
  | content (c : Content)
  | faults (join : Option FaultName) (leave : FaultSet)
  deriving DecidableEq, Repr

/-- The state of a class (11.1). -/
inductive ClassState where
  | idle | pending | inService
  deriving DecidableEq, Repr

/-- One notice class (table 11.1). `publishing` holds the 48 words that its publication writes. -/
structure ClassCell where
  state : ClassState
  publishing : Option (List Word)
  shadow : Option Content
  coalesce : Nat
  seq : Word
  deriving DecidableEq, Repr

/-- The notice unit (table 11.1). `writing` lists the classes that are publishing, in the order in which their publications
started: the first one's record is being written, and the others wait for it (R158, log entry 57). -/
structure Nu where
  classes : PerClass ClassCell
  writing : List NoticeClass
  serviceLevel : Nat
  attn : Bool
  faults : FaultSet
  lastFault : Option FaultName
  wake : Option Time
  wakeTimer : Option Timer
  hostState : HostState
  badService : Nat
  deferred : List Offer
  deriving DecidableEq, Repr

/-! ### The whole part -/

/-- Everything but the words of XM and the queue of commands. -/
structure Part where
  tb : Time
  resetLow : Bool
  resetWork : Option ResetWork
  partState : PartState
  sp : Sp
  inp : PerInput InputState
  ae : Ae
  pc : Pc
  ot : Ot
  bl : Bl
  pw : Pw
  kt : Kt
  pn : Pn
  cc : Cc
  sa : Sa
  hp : Hp
  rq : Rq
  sl : Sl
  nu : Nu
  deriving DecidableEq, Repr

/-- The state of the machine: the part, the words of XM above the control words, and the commands waiting, oldest first. -/
structure State where
  part : Part
  xm : Memory
  pending : List Instr
  deriving DecidableEq, Repr

/-- Why the machine stops with a fault. No constructor: no rule of the spec lets a command stop the part. -/
inductive Fault where
  deriving DecidableEq, Repr

/-- Why a command is refused. -/
inductive Refusal where
  /-- Raised by an arm of `exec` that has no meaning yet; no arm of this model raises it. Safe. -/
  | notModelled (mnemonic : String)
  deriving DecidableEq, Repr

/-! ### Reset values -/

/-- Table 1.2; sampling starts when the configuration step ends, and the step starts when the reset ends (R4, R12). -/
def Sp.reset : Sp := ⟨.configuring, 0, 0, .fast, none, none, true, .none⟩

/-- R16, for a pin whose level stands as given. -/
def InputState.reset (level : Bool) : InputState := ⟨level, false, none⟩

/-- Table 2.2 (R19). -/
def Ae.reset : Ae := ⟨.unknown, .none, 0, 0, none, none, none⟩

/-- Table 3.1 (R34). -/
def Pc.reset : Pc where
  zone := .none
  seam := .near
  stored := ⟨none, .unknown, .none, none⟩
  candidate := .unknown
  dwell := none
  published := .detached
  suppression := false
  disagreement := false
  hallDisagreement := 0
  offered := ⟨.detached, .none, .near, false, true⟩

/-- Table 3.7 (R47), with the hold that the starting settings give. -/
def Ot.reset (s : Settings) : Ot where
  rotation := .rot0
  hold := if s.orientationLock then .lock else if s.rotateMask.getLsbD 7 then .none else .posture
  candidate := none
  dwell := none
  tilted := false
  posture := .detached
  time := 0#32

/-- R63. -/
def Bl.reset : Bl where
  link := .detached
  tx := none
  lineOrder := none
  txSeq := 0#4
  expSeq := none
  qMode := none
  qQuery := false
  qAttr := none
  exch := none
  attempts := 0
  replyTimer := none
  powerTimer := none
  activateTimer := none
  helloTimer := none
  stallTimer := none
  minHibTimer := none
  heldHello := none
  helloAttempts := 0
  ovReply := none
  ovStall := none
  ident := none
  status := none
  target := .active
  pendingWake := false
  quiet := false
  reservation := 0
  sample := none
  absent := false
  framing := 0
  check := 0
  noise := 0
  lost := 0
  noReply := 0

/-- Table 5.1 (R80). -/
def Pw.reset : Pw where
  walk := .none
  op := .idle
  ending := none
  waiting := []
  snapshot := none
  position := 0
  results := List.replicate 32 .notRun
  inFlight := none
  current := none
  wakeAsked := false
  counts := ⟨0, 0, 0⟩

/-- Table 5.4 (R91). -/
def Kt.reset : Kt := ⟨[], [], [], [], false, 0, false, 0, 0⟩

/-- Table 6.2 (R102). -/
def Pn.reset : Pn where
  phase := .idle
  bitTime := none
  failures := 0
  penId := none
  report := none
  syncErrors := 0
  badFrames := 0
  failedWindows := 0
  restore := 0
  granted := 0
  outcome := none
  grantFrame := []

/-- The pen current that a budget of b mW leaves beside a reservation of r mW (R123). -/
def budgetLimitOf (b r : Nat) : Nat := min 500 ((b - r) / 5 / 10 * 10)

/-- Tables 6.4 and 7.1 (R109, R121), under the starting settings. -/
def Cc.reset (s : Settings) : Cc where
  session := .absent
  causes := ⟨false, false, false⟩
  setpoint := 0
  wakingWindows := 0
  prechargeRounds := 0
  windowTimer := none
  stateTimer := none
  windowDue := false
  guard := none
  prechargeGrant := 0
  budget := s.bRunning
  reservation := 0
  budgetLimit := budgetLimitOf s.bRunning 0
  thermalLimit := none
  grant := 0
  history := none
  lastFault := .none
  measured := 0
  readings := 0

/-- Table 8.1 (R137); the inactivity timer starts at the end of the reset. -/
def Sa.reset : Sa := ⟨.running, .active, .detached, false, none, none, none⟩

/-- R160: no transaction, PORT STATUS OK. -/
def Hp.reset : Hp := ⟨false, none, .ok, []⟩

/-- R166: every queue empty. -/
def Rq.reset : Rq := ⟨0#8, 0, [], [], [], [], [], [], [], []⟩

/-- Table 10.5, with the starting settings. -/
def Sl.reset (s : Settings) : Sl := ⟨s, false, none, .idle⟩

/-- A class after a reset (table 11.1). -/
def ClassCell.reset : ClassCell := ⟨.idle, none, none, 0, 0#16⟩

/-- Table 11.1 (R174). -/
def Nu.reset : Nu where
  classes := ⟨.reset, .reset, .reset, .reset, .reset, .reset, .reset, .reset, .reset⟩
  writing := []
  serviceLevel := 8
  attn := false
  faults := 0#7
  lastFault := none
  wake := none
  wakeTimer := none
  hostState := .running
  badService := 0
  deferred := []

/-- Every block at its reset values, with the pins' levels, the starting settings and the reset's work on XM as given; RESETN
low or not. -/
def Part.reset (levels : PerInput Bool) (s : Settings) (work : ResetWork) (low : Bool) : Part where
  tb := 0#32
  resetLow := low
  resetWork := some work
  partState := .starting
  sp := .reset
  inp := ⟨.reset levels.lidh, .reset levels.foldh, .reset levels.penh, .reset levels.bpres⟩
  ae := .reset
  pc := .reset
  ot := .reset s
  bl := .reset
  pw := .reset
  kt := .reset
  pn := .reset
  cc := .reset s
  sa := .reset
  hp := .reset
  rq := .reset
  sl := .reset s
  nu := .reset

/-- The machine right after a full reset has ended (R160): RESETN has risen with HCS high, every pin at its inactive level,
the sensor configuration step in flight (R4), the inactivity timer started (R137) and the reset's work on XM running. XM holds
the full reset's contents, so no cell is listed. -/
def State.reset : State where
  part :=
    { Part.reset ⟨true, true, true, true⟩ Settings.default ⟨[], false⟩ false with
      sp := { Sp.reset with flight := .config 0#32 }
      sa := { Sa.reset with inactivity := some ⟨0#32, 60000⟩ } }
  xm := []
  pending := []

end Sys2Proof.Machine
end

