-- ==== Sys2Proof/Machine/Ops.lean ====
section
/-! DEFINITION. Shared operations: timers, saturating counters, per-input and per-class fields, codes (13.2 to 13.9), the words
of the exchange memory, and held operations. -/

namespace Sys2Proof.Machine

/-! ### Time (R1, R2) -/

/-- A timer has reached its end: the TB values elapsed since its start, modulo 2^32, are at least its duration (R2). -/
def Timer.due (t : Timer) (now : Time) : Bool := decide (t.dur ≤ (now - t.start).toNat)

/-- The timer runs and has reached its end. -/
def timerDue (t : Option Timer) (now : Time) : Bool :=
  match t with
  | some t => t.due now
  | none => false

/-- A timer of `d` milliseconds started now. -/
def startTimer (now : Time) (d : Nat) : Option Timer := some ⟨now, d⟩

/-- A TB value has been reached: it is not in the coming half of the wrap (R2: no duration is above 2^31 ms). One that was past
when it was set counts as reached (log entry 35). -/
def reached (now due : Time) : Bool := decide ((now - due).toNat < 2147483648)

/-- The TB value `d` milliseconds after `t`. -/
def later (t : Time) (d : Nat) : Time := t + BitVec.ofNat 32 d

/-! ### Numbers -/

/-- A counter that saturates at 65535 (00_scope.md, Conventions) after `k` more events. -/
def bump (n k : Nat) : Nat := min (n + k) 65535

/-- A word from a number; numbers the part writes into words are below 65536. -/
def word (n : Nat) : Word := BitVec.ofNat 16 n

/-- A word from a flag. -/
def flagWord (b : Bool) : Word := if b then 1#16 else 0#16

/-- The high and low words of a 32-bit value; a value that spans two words stands high word first (chapter 13). -/
def hiWord (t : BitVec 32) : Word := t.extractLsb' 16 16

/-- The low word of a 32-bit value. -/
def loWord (t : BitVec 32) : Word := t.extractLsb' 0 16

/-- Clamped into lo..hi. -/
def clampNat (lo hi n : Nat) : Nat := if n < lo then lo else if hi < n then hi else n

/-! ### Inputs and classes -/

/-- The value of one input. -/
def PerInput.get {α : Type} (v : PerInput α) : Input → α
  | .lidh => v.lidh
  | .foldh => v.foldh
  | .penh => v.penh
  | .bpres => v.bpres

/-- The value of one input replaced. -/
def PerInput.set {α : Type} (v : PerInput α) (i : Input) (x : α) : PerInput α :=
  match i with
  | .lidh => { v with lidh := x }
  | .foldh => { v with foldh := x }
  | .penh => { v with penh := x }
  | .bpres => { v with bpres := x }

/-- The value of one class. -/
def PerClass.get {α : Type} (v : PerClass α) : NoticeClass → α
  | .advice => v.advice
  | .posture => v.posture
  | .orientation => v.orientation
  | .keys => v.keys
  | .base => v.base
  | .pen => v.pen
  | .charge => v.charge
  | .fault => v.fault
  | .request => v.request

/-- The value of one class replaced. -/
def PerClass.set {α : Type} (v : PerClass α) (c : NoticeClass) (x : α) : PerClass α :=
  match c with
  | .advice => { v with advice := x }
  | .posture => { v with posture := x }
  | .orientation => { v with orientation := x }
  | .keys => { v with keys := x }
  | .base => { v with base := x }
  | .pen => { v with pen := x }
  | .charge => { v with charge := x }
  | .fault => { v with fault := x }
  | .request => { v with request := x }

/-- The classes in ascending number (11.1). -/
def allClasses : List NoticeClass :=
  [.advice, .posture, .orientation, .keys, .base, .pen, .charge, .fault, .request]

/-! ### Codes (chapter 13) -/

/-- Class numbers (11.1). -/
def classNumber : NoticeClass → Nat
  | .advice => 0
  | .posture => 1
  | .orientation => 2
  | .keys => 3
  | .base => 4
  | .pen => 5
  | .charge => 6
  | .fault => 7
  | .request => 8

/-- The class that a TAKE or END_SERVICE value names, the whole word being the number (13.2). -/
def classOfWord (w : Word) : Option NoticeClass := allClasses[w.toNat]?

/-- Posture codes (13.3). -/
def Posture.code : Posture → Nat
  | .unknown => 0
  | .closed => 1
  | .laptop => 2
  | .flat => 3
  | .tent => 4
  | .stand => 5
  | .tablet => 6
  | .detached => 7

/-- Membership of a posture set word (13.3): bit n for posture code n. -/
def inPostureSet (m : BitVec 8) (p : Posture) : Bool := m.getLsbD p.code

/-- HOST_STATE codes (13.2). -/
def HostState.code : HostState → Nat
  | .running => 1
  | .sleeping => 2
  | .off => 3

/-- PART_STATE codes (13.2). -/
def PartState.code : PartState → Nat
  | .starting => 1
  | .ready => 2
  | .degraded => 3

/-- READY of PORT STATUS (R5). -/
def PartState.isReady : PartState → Bool
  | .starting => false
  | .ready => true
  | .degraded => true

/-- Class state codes (13.2). -/
def ClassState.code : ClassState → Nat
  | .idle => 0
  | .pending => 1
  | .inService => 2

/-- Bit numbers of the faults (13.5, FAULT word 5). -/
def FaultName.bit : FaultName → Nat
  | .sensorFault => 0
  | .linkFault => 1
  | .baseRefused => 2
  | .penSilent => 3
  | .penCooldown => 4
  | .penLockout => 5
  | .settingsRejected => 6

/-- The set of one fault. -/
def FaultName.set (f : FaultName) : FaultSet := 1#7 <<< f.bit

/-- Link state codes (13.5, BASE word 5). -/
def Link.code : Link → Nat
  | .detached => 0
  | .powering => 1
  | .resetting => 2
  | .activating => 3
  | .identifying => 4
  | .refused => 5
  | .profiling => 6
  | .active => 7
  | .stall => 8
  | .hibernate => 9
  | .waking => 10
  | .fault => 11

/-- Mode codes (13.8). -/
def LinkMode.code : LinkMode → Nat
  | .active => 1
  | .stall => 2
  | .hibernate => 3

/-- The mode a STATUS names; any other value is UNKNOWN_MODE (R56). -/
def modeOfByte (b : Byte) : Option LinkMode :=
  if b = 1#8 then some .active else if b = 2#8 then some .stall else if b = 3#8 then some .hibernate else none

/-- Session state codes (13.5, PEN word 6). -/
def Session.code : Session → Nat
  | .absent => 0
  | .settling => 1
  | .waking => 2
  | .precharge => 3
  | .charging => 4
  | .topped => 5
  | .paused => 6
  | .cooldown => 7
  | .lockout => 8
  | .silent => 9

/-- VBASE_EN is off in DETACHED, REFUSED and FAULT, and on in every other link state (R75). -/
def Bl.vbaseEn (b : Bl) : Bool :=
  match b.link with
  | .detached | .refused | .fault => false
  | _ => true

/-! ### The words of XM (13.1, R160) -/

/-- The default settings words, by area offset (13.3); the other words of the area are 0. -/
def settingsDefaults : List (Nat × Nat) :=
  [(0x00, 0x0210), (0x01, 0x0210), (0x02, 2048), (0x03, 16), (0x04, 2), (0x05, 30), (0x06, 3),
   (0x08, 20), (0x09, 170), (0x0A, 190), (0x0B, 330), (0x0C, 4), (0x0D, 300), (0x0E, 0x0072),
   (0x10, 500), (0x11, 2), (0x12, 1536), (0x13, 0x00F0)]
  ++ [(0x20, 200), (0x21, 100), (0x22, 2), (0x23, 2), (0x24, 50), (0x25, 3), (0x26, 20), (0x27, 2), (0x28, 0x001E),
   (0x30, 500), (0x31, 4000), (0x32, 20), (0x33, 60), (0x34, 95), (0x35, 300), (0x36, 40), (0x37, 45), (0x38, 50),
   (0x3C, 4500), (0x3D, 2500), (0x3E, 1500)]
  ++ [(0x40, 1), (0x41, 2000), (0x42, 60), (0x43, 1), (0x44, 1), (0x45, 400), (0x47, 1000),
   (0x50, 2), (0x52, 1), (0x53, 4), (0x56, 6), (0x59, 3), (0x5C, 3), (0x5F, 5), (0x62, 7), (0x65, 1), (0x67, 1), (0x68, 5)]

/-- The default word at an offset of the settings area. -/
def settingsDefault (off : Nat) : Word :=
  match settingsDefaults.find? (fun r => r.1 == off) with
  | some r => word r.2
  | none => 0#16

/-- What a word of XM that no cell lists reads as: its content after a full reset (R160). -/
def resetWord (a : Nat) : Word := if 0x20 ≤ a ∧ a < 0x100 then settingsDefault (a - 0x20) else 0#16

/-- The word at an address. -/
def Memory.read : Memory → Nat → Word
  | [], a => resetWord a
  | (b, w) :: m, a => if a = b then w else Memory.read m a

/-- The memory without a cell for an address. -/
def Memory.erase : Memory → Nat → Memory
  | [], _ => []
  | (b, w) :: m, a => if a = b then m else (b, w) :: Memory.erase m a

/-- The memory with a cell for an address, in its place. -/
def Memory.insert : Memory → Nat → Word → Memory
  | [], a, v => [(a, v)]
  | (b, w) :: m, a, v =>
    if a = b then (a, v) :: m
    else if a < b then (a, v) :: (b, w) :: m
    else (b, w) :: Memory.insert m a v

/-- The addresses that cells may list: XM above the control words (13.1). -/
def cellAddress (a : Nat) : Bool := 0x20 ≤ a && a < 0x800

/-- A word written at an address, keeping the canonical form; nothing outside the cells' addresses. -/
def Memory.write (m : Memory) (a : Nat) (v : Word) : Memory :=
  if cellAddress a then (if v = resetWord a then m.erase a else m.insert a v) else m

/-- Words written from an address on. -/
def Memory.writeAll : Memory → Nat → List Word → Memory
  | m, _, [] => m
  | m, a, w :: ws => Memory.writeAll (m.write a w) (a + 1) ws

/-- Words written at their offsets from a base address. -/
def Memory.writeAt : Memory → Nat → List (Nat × Word) → Memory
  | m, _, [] => m
  | m, base, (off, w) :: ws => Memory.writeAt (m.write (base + off) w) base ws

/-- The words at `n` addresses from an address on. -/
def Memory.readAll (m : Memory) : Nat → Nat → List Word
  | _, 0 => []
  | a, n + 1 => m.read a :: Memory.readAll m (a + 1) n

/-- No listed address is at or below `lo`; addresses rise strictly, stay in the cells' range, and no cell holds what an
unlisted address reads as. -/
def Memory.wfFrom : Nat → Memory → Bool
  | _, [] => true
  | lo, (a, w) :: m => decide (lo ≤ a) && cellAddress a && decide (w ≠ resetWord a) && Memory.wfFrom (a + 1) m

/-- The canonical form of the memory. -/
def Memory.wf (m : Memory) : Bool := Memory.wfFrom 0 m

/-- The start of the settings area (13.1). -/
def settingsBase : Nat := 0x20

/-- The start of request slot n (13.1). -/
def slotBase (n : Nat) : Nat := 0x100 + 32 * n

/-- The start of a class's notice record (13.1). -/
def recordBase (c : NoticeClass) : Nat := 0x200 + 48 * classNumber c

/-- The start of the attach profile table (13.1). -/
def profileBase : Nat := 0x400

/-- The start of the profile result words (13.1). -/
def resultBase : Nat := 0x440

/-! ### Held operations (R158) -/

/-- A range of XM: its first address and its length. -/
abbrev Range := Nat × Nat

/-- An address lies in a range. -/
def inRange (r : Range) (a : Nat) : Bool := r.1 ≤ a && a < r.1 + r.2

/-- The range of PW's held operation: the table and the result words for a snapshot, which stand side by side, and the result
words for a result write. -/
def PwOp.range : PwOp → Option Range
  | .idle => none
  | .snapshot => some (profileBase, 96)
  | .resultWrite => some (resultBase, 32)

/-- The range of SL's held operation. -/
def SlOp.range : SlOp → Option Range
  | .idle => none
  | .snapshot => some (settingsBase, 224)
  | .writeBack .. => some (settingsBase, 224)

/-- The range of the record being written, that of the publication started first (R176). NU writes its records one after
another (R158, log entry 57). -/
def Nu.range (n : Nu) : Option Range :=
  match n.writing with
  | [] => none
  | c :: _ => some (recordBase c, 48)

/-- The range of the slot completion being written, the first in line (R165). -/
def Rq.range (r : Rq) : Option Range :=
  match r.completions with
  | [] => none
  | c :: _ => some (slotBase c.slot, 32)

/-- The ranges that the operations in progress hold, apart from the reset's work. -/
def heldRanges (p : Part) : List Range :=
  p.nu.range.toList ++ p.sl.op.range.toList ++ p.pw.op.range.toList ++ p.rq.range.toList

/-- A word is held against the host: by the reset's work on XM, by an operation in progress, or, to the end of the present
transaction, by an operation that began during it (R158). -/
def isHeld (p : Part) (a : Nat) : Bool :=
  p.resetWork.isSome || (heldRanges p).any (inRange · a) ||
    (match p.hp.trans with
     | some t => t.held.any (inRange · a)
     | none => false)

/-- A held operation on a range begins: the transaction in progress, if any, keeps the range to its end (R158). -/
def beginHold (r : Range) (p : Part) : Part :=
  match p.hp.trans with
  | some t => { p with hp := { p.hp with trans := some { t with held := r :: t.held } } }
  | none => p

end Sys2Proof.Machine
end

