-- ==== Sys2Proof/Machine/Frames.lean ====
section
/-! DEFINITION. Frames of the base link and of the pen link: what the part sends, and which received frames are discarded
(R53 to R56, 13.8, 13.9). -/

namespace Sys2Proof.Machine

/-- The sum of bytes modulo 256. -/
def byteSum (bs : List Byte) : Byte := bs.foldl (· + ·) 0#8

/-- The bytes of a word, high byte first (13.8). -/
def wordBytes (w : Word) : List Byte := [w.extractLsb' 8 8, w.extractLsb' 0 8]

/-- A frame with its CHECK, which makes the sum 0 modulo 256 (R55). -/
def withCheck (bs : List Byte) : List Byte := bs ++ [0#8 - byteSum bs]

/-- The HEAD byte: the kind in the high four bits, the sequence number in the low four (R54). -/
def headByte (kind : BitVec 4) (seq : BitVec 4) : Byte := kind ++ seq

/-- The kind code of a frame from part to base (13.8). -/
def Exchange.kindCode : Exchange → BitVec 4
  | .mode .. => 0x8#4
  | .attr _ => 0x9#4
  | .query => 0xA#4

/-- The payload of a frame from part to base (13.8). -/
def Exchange.payload : Exchange → List Byte
  | .mode m q => [BitVec.ofNat 8 m.code, if q then 1#8 else 0#8]
  | .attr op => (if op.write then 2#8 else 1#8) :: wordBytes (op.id.setWidth 16) ++ [op.value]
  | .query => []

/-- The bytes of an exchange's frame with a sequence number (R55, 13.8). -/
def Exchange.bytes (x : Exchange) (seq : BitVec 4) : List Byte :=
  withCheck (headByte x.kindCode seq :: BitVec.ofNat 8 x.payload.length :: x.payload)

/-- The GRANT frame of the pen link (R106, 13.9): the current, the enable flag, and the check. -/
def grantBytes (granted : Nat) : List Byte :=
  withCheck (wordBytes (word granted) ++ [if 0 < granted then 1#8 else 0#8])

/-- The counter of a discarded base frame (R54). -/
inductive Discard where
  | framing | check
  deriving DecidableEq, Repr

/-- The payload length that a base-to-part kind and its own count fields give (R54, R56, 13.8); none for a kind that is no
base-to-part kind or a count that is malformed. -/
def expectedLen (kind : BitVec 4) (payload : List Byte) : Option Nat :=
  if kind = 0x1#4 then some 6
  else if kind = 0x2#4 then
    match payload with
    | n :: _ => if 1 ≤ n.toNat ∧ n.toNat ≤ 6 then some (2 * n.toNat + 2) else none
    | [] => none
  else if kind = 0x3#4 then some 7
  else if kind = 0x4#4 then
    match payload with
    | _ :: _ :: _ :: _ :: m :: _ => if m.toNat ≤ 16 then some (5 + m.toNat) else none
    | _ => none
  else if kind = 0x5#4 then some 4
  else none

/-- A complete frame is well formed: the kind is known, LEN is what the kind gives, and the sum is 0 (R54). -/
def frameSound (bs : List Byte) : Bool :=
  match bs with
  | head :: len :: rest =>
    expectedLen (head.extractLsb' 4 4) (rest.take len.toNat) == some len.toNat && byteSum bs == 0#8
  | _ => false

/-- The discard that R54 gives a received frame, its characters taken one by one after those of `seen`: a framing error at its
character, a LEN above 24 at the LEN character, the rest at completion. A framing error at a character that meets another case too
counts alone (log entry 54). None for a frame that is well formed or not complete. -/
def judgeFrom (seen : List Byte) : List RxChar → Option Discard
  | [] => none
  | c :: cs =>
    let now := seen ++ [c.byte]
    let len := (now[1]?.getD 0#8).toNat
    if c.framingError then some .framing
    else if now.length = 2 ∧ 24 < len then some .check
    else if 3 ≤ now.length ∧ now.length = len + 3 then (if frameSound now then none else some .check)
    else judgeFrom now cs

/-- The discard that R54 gives a received frame. -/
def judgeFrame (cs : List RxChar) : Option Discard := judgeFrom [] cs

/-- How many of a frame's characters are flagged noise, by the link state in which each was complete (R53). -/
def noisyChars (cs : List RxChar) : NoiseCount where
  earlier := (cs.filter fun c => c.noise && c.earlier).length
  present := (cs.filter fun c => c.noise && !c.earlier).length

/-- The sum of the twelve characters of a REPORT, by field (R105, 13.9). -/
def reportSum (penId : BitVec 32) (battery : Word) (temperature soc : Byte) (requested : Word) (flags check : Byte) : Byte :=
  byteSum (wordBytes (hiWord penId) ++ wordBytes (loWord penId) ++ wordBytes battery ++ [temperature, soc]
    ++ wordBytes requested ++ [flags, check])

end Sys2Proof.Machine
end

