-- ==== Sys2Proof/Machine/Notice.lean ====
section
/-! DEFINITION. The notice unit (chapter 11): offers, publication, merging, the service level and ATTN, claiming and releasing,
and WAKE; and the words of the records (13.5, R187). -/

namespace Sys2Proof.Machine

/-! ### Record words (13.5, R187) -/

/-- A quantity, or 0xFFFF where the content is none (R187). -/
def orFFFF (o : Option Nat) : Word :=
  match o with
  | some n => word n
  | none => 0xFFFF#16

/-- Advice kind codes (13.5). -/
def AdviceKind.code : AdviceKind → Nat
  | .dim => 1
  | .undim => 2
  | .sleep => 3
  | .cancelSleep => 4
  | .wake => 5

/-- Advisor state codes (13.5). -/
def Advisor.code : Advisor → Nat
  | .active => 1
  | .idle => 2
  | .closePending => 3
  | .sleepAdvised => 4
  | .watching => 5

/-- Validity codes (13.5). -/
def Validity.code : Validity → Nat
  | .valid => 1
  | .held => 2
  | .unknown => 3

/-- Reason codes (13.5). -/
def Reason.code : Reason → Nat
  | .none => 0
  | .noBase => 1
  | .staleBase => 2
  | .motion => 3
  | .projection => 4
  | .sensorFault => 5
  | .mounting => 6

/-- Zone codes (13.5). -/
def Zone.code : Zone → Nat
  | .none => 0
  | .seam => 1
  | .opened => 2
  | .flat => 3
  | .folded => 4

/-- Seam side codes (13.5). -/
def SeamSide.code : SeamSide → Nat
  | .near => 0
  | .far => 1

/-- Rotation codes (13.5). -/
def Rotation.code : Rotation → Nat
  | .rot0 => 0
  | .rot90 => 1
  | .rot180 => 2
  | .rot270 => 3

/-- Hold codes (13.5). -/
def Hold.code : Hold → Nat
  | .none => 0
  | .posture => 1
  | .lock => 2

/-- Charge fault kind codes (13.5). -/
def ChargeFault.code : ChargeFault → Nat
  | .none => 0
  | .overcurrent => 1
  | .penReported => 2

/-- Pause cause bits (13.5, PEN word 7). -/
def Causes.bits (c : Causes) : Word :=
  (flagWord c.thermal) ||| (flagWord c.budget <<< 1) ||| (flagWord c.host <<< 2)

/-- The payload of a transition: its code, release and synthesized bits, and its timestamp (13.5, KEYS). -/
def Transition.words (t : Transition) : List Word :=
  [word t.code ||| (flagWord t.release <<< 8) ||| (flagWord t.synthesized <<< 9), t.time]

/-- The payload of ADVICE (13.5). -/
def AdviceContent.words (c : AdviceContent) : List Word :=
  [word c.kind.code, c.causes.setWidth 16, word c.posture.code, word c.hostState.code, word c.advisor.code,
   flagWord c.dimmed]

/-- The payload of POSTURE (13.5). -/
def PostureContent.words (c : PostureContent) : List Word :=
  [word c.posture.code, word c.candidate.code, flagWord c.suppression, orFFFF c.angle, word c.validity.code,
   word c.reason.code, word c.seam.code, word c.zone.code]

/-- The payload of ORIENTATION (13.5). -/
def OrientationContent.words (c : OrientationContent) : List Word :=
  [word c.rotation.code, word c.hold.code, word c.posture.code, flagWord c.tilted]

/-- Word 14 of BASE: reported quiet, quiet ordered, lost-settings (13.5); clear while the latest STATUS is none (R187). -/
def statusFlags (st : Option BaseStatus) (quietOrdered : Bool) : Word :=
  match st with
  | some s => flagWord s.quiet ||| (flagWord quietOrdered <<< 1) ||| (flagWord s.lost <<< 2)
  | none => flagWord quietOrdered <<< 1

/-- The payload of BASE (13.5), with R187's words for what is none. -/
def BaseContent.words (c : BaseContent) : List Word :=
  [word c.link.code, c.events.setWidth 16,
   orFFFF (c.ident.map (·.cls.toNat)), orFFFF (c.ident.map (·.revision.toNat)),
   (match c.ident with | some i => hiWord i.accessory | none => 0#16),
   (match c.ident with | some i => loWord i.accessory | none => 0#16),
   word c.reservation, orFFFF (c.status.map (·.draw)),
   (match c.status with
    | some s => (match s.mode with | some m => word m.code | none => 0#16)
    | none => 0#16),
   statusFlags c.status c.quietOrdered,
   orFFFF (c.motionCounter.map (·.toNat)),
   word c.counts.succeeded, word c.counts.errored, word c.counts.notRun]

/-- The payload of PEN (13.5), with R187's words for what is none. -/
def PenContent.words (c : PenContent) : List Word :=
  [flagWord c.present, word c.session.code, c.causes.bits,
   flagWord c.penId.isSome ||| (flagWord c.report.isSome <<< 1),
   (match c.penId with | some i => hiWord i | none => 0#16),
   (match c.penId with | some i => loWord i | none => 0#16),
   (match c.report with | some r => word r.soc | none => 0#16),
   (match c.report with | some r => word r.battery | none => 0#16)]

/-- The payload of CHARGE (13.5), with R187's words for what is none. -/
def ChargeContent.words (c : ChargeContent) : List Word :=
  [word c.grant, word c.setpoint, word c.measured, word c.budget, word c.reservation, word c.budgetLimit,
   orFFFF c.thermalLimit,
   (match c.report with | some r => BitVec.ofInt 16 r.temperature | none => 0x8000#16),
   orFFFF (c.report.map (·.soc)), c.causes.bits, word c.lastFault.code]

/-- Last fault code of the FAULT record: NONE 0, a fault of bit n as n + 1 (13.5). -/
def faultCode (f : Option FaultName) : Word :=
  match f with
  | some n => word (n.bit + 1)
  | none => 0#16

/-- The payload of FAULT: the active set and the last code that NU holds, and the event set (R178, 13.5). -/
def faultWords (n : Nu) (events : FaultSet) : List Word :=
  [n.faults.setWidth 16, faultCode n.lastFault, events.setWidth 16]

/-- How many transitions a KEYS publication takes (R100). -/
def keysTaken (k : Kt) : Nat := min 16 k.queue.length

/-- The payload of KEYS: count, remaining, dropped count, resync flag, then the oldest transitions (R100, 13.5). -/
def keysWords (k : Kt) : List Word :=
  [word (keysTaken k), word (k.queue.length - keysTaken k), word k.dropped, flagWord k.resync]
    ++ (k.queue.take 16).flatMap Transition.words

/-- The class of an offered content. -/
def Content.cls : Content → NoticeClass
  | .advice _ => .advice
  | .posture _ => .posture
  | .orientation _ => .orientation
  | .keys => .keys
  | .base _ => .base
  | .pen _ => .pen
  | .charge _ => .charge
  | .fault _ => .fault
  | .request _ => .request

/-- The payload of a content, published now. -/
def Content.words (p : Part) : Content → List Word
  | .advice c => c.words
  | .posture c => c.words
  | .orientation c => c.words
  | .keys => keysWords p.kt
  | .base c => c.words
  | .pen c => c.words
  | .charge c => c.words
  | .fault e => faultWords p.nu e
  | .request b => [b.setWidth 16]

/-- The 48 words of a record: the header of R176, the payload, and 0 in every word after it (R187). -/
def recordWords (seq : Word) (time : Time) (c : NoticeClass) (coalesce : Nat) (payload : List Word) : List Word :=
  let ws := [seq, hiWord time, loWord time, word (classNumber c), word coalesce] ++ payload
  ws ++ List.replicate (48 - ws.length) 0#16

/-! ### Merging (R177) -/

/-- The shadow that an offer leaves where a shadow is held: the newest content, the set fields joined. -/
def Content.merge (newest held : Content) : Content :=
  match newest, held with
  | .advice n, .advice h => .advice { n with causes := n.causes ||| h.causes }
  | .base n, .base h => .base { n with events := n.events ||| h.events }
  | .fault n, .fault h => .fault (n ||| h)
  | .request n, .request h => .request (n ||| h)
  | n, _ => n

/-- The shadow after an offer that cannot publish; KEYS keeps none (R178). -/
def mergeShadow (offered : Content) (shadow : Option Content) : Option Content :=
  match offered with
  | .keys => none
  | c =>
    match shadow with
    | some h => some (c.merge h)
    | none => some c

/-! ### Service level and ATTN (R179) -/

/-- The class is IN_SERVICE. -/
def ClassCell.inService (c : ClassCell) : Bool := c.state == .inService

/-- The class is PENDING. -/
def ClassCell.pending (c : ClassCell) : Bool := c.state == .pending

/-- The smallest priority value among the classes IN_SERVICE, or 8 (R179). -/
def serviceLevelOf (s : Settings) (v : PerClass ClassCell) : Nat :=
  allClasses.foldl (fun l c => if (v.get c).inService then min l (s.classes.get c).priority else l) 8

/-- Class c is PENDING, unmasked, and its priority value is below the level (R179). -/
def eligibleAt (s : Settings) (v : PerClass ClassCell) (level : Nat) (c : NoticeClass) : Bool :=
  (v.get c).pending && !(s.classes.get c).mask && decide ((s.classes.get c).priority < level)

/-- The service level and ATTN recomputed (R179). -/
def Nu.judge (s : Settings) (n : Nu) : Nu :=
  let l := serviceLevelOf s n.classes
  { n with serviceLevel := l, attn := allClasses.any (eligibleAt s n.classes l) }

/-- NU judges anew under the settings in force. -/
def judge (p : Part) : Part := { p with nu := p.nu.judge p.sl.inForce }

/-- A class's cell replaced. -/
def setCell (c : NoticeClass) (x : ClassCell) (p : Part) : Part :=
  { p with nu := { p.nu with classes := p.nu.classes.set c x } }

/-! ### Offers and publication (R175 to R178) -/

/-- KT after a publication has taken its transitions (R100, R178). -/
def Kt.published (k : Kt) : Kt := { k with queue := k.queue.drop 16, dropped := 0, resync := false }

/-- NU's next record, the first in line, begins to be written: its range is held (R158, R176). -/
def beginRecord (p : Part) : Part :=
  match p.nu.range with
  | some r => beginHold r p
  | none => p

/-- A class's record joins the line of those to be written, and begins at once where none stands before it (R158). -/
def lineUp (c : NoticeClass) (p : Part) : Part :=
  let q := { p with nu := { p.nu with writing := p.nu.writing ++ [c] } }
  match p.nu.writing with
  | [] => beginRecord q
  | _ :: _ => q

/-- A publication starts (R175, R176): the sequence counter advances, the record's words are settled, and the shadow and the
coalesce count are emptied. Its record is written and held at once, or, as NU writes its records one after another (R158), when
those of the publications started before it are written (log entry 57). -/
def publish (content : Content) (coalesce : Nat) (p : Part) : Part :=
  let c := content.cls
  let cell := p.nu.classes.get c
  let seq := cell.seq + 1#16
  let ws := recordWords seq p.tb c coalesce (content.words p)
  let q := setCell c { cell with publishing := some ws, shadow := none, coalesce := 0, seq := seq } p
  let q := match content with
    | .keys => { q with kt := q.kt.published }
    | _ => q
  lineUp c q

/-- An offer of content is taken (R175): published at once by an IDLE class that is not publishing, merged otherwise. -/
def absorb (content : Content) (p : Part) : Part :=
  let c := content.cls
  let cell := p.nu.classes.get c
  if cell.state = .idle ∧ cell.publishing = none then publish content 0 p
  else setCell c { cell with shadow := mergeShadow content cell.shadow, coalesce := min (cell.coalesce + 1) 255 } p

/-- A change of the active fault set is taken (R178): the faults in `leave` that are present leave, `join` joins with its code,
and the event set names them. -/
def changeFaults (join : Option FaultName) (leave : FaultSet) (n : Nu) : Nu × FaultSet :=
  let gone := leave &&& n.faults
  let come : FaultSet := match join with | some f => f.set | none => 0#7
  ({ n with
      faults := (n.faults &&& ~~~gone) ||| come
      lastFault := match join with | some f => some f | none => n.lastFault },
   gone ||| come)

/-- NU takes an offer (R175, R178). -/
def takeOffer (o : Offer) (p : Part) : Part :=
  match o with
  | .content c => absorb c p
  | .faults join leave =>
    let r := changeFaults join leave p.nu
    absorb (.fault r.2) { p with nu := r.1 }

/-- An owner offers a class. While the reset's work on XM runs the offer waits for its end (R174). -/
def offer (o : Offer) (p : Part) : Part :=
  match p.resetWork with
  | some _ => { p with nu := { p.nu with deferred := p.nu.deferred ++ [o] } }
  | none => takeOffer o p

/-- A fault is raised: it joins the active fault set with its code, and FAULT is offered (R178). -/
def raiseFault (f : FaultName) (p : Part) : Part := offer (.faults (some f) 0#7) p

/-- Faults are cleared: they leave the active fault set, and FAULT is offered without a code (R178). -/
def clearFault (f : FaultName) (p : Part) : Part := offer (.faults none f.set) p

/-! ### WAKE (R184) -/

/-- A WAKE pulse: it starts unless one is in progress, and the repeat timer is started. -/
def pulseWake (p : Part) : Part :=
  { p with nu := { p.nu with
      wake := (match p.nu.wake with | some t => some t | none => some p.tb)
      wakeTimer := startTimer p.tb p.sl.inForce.wakeRetry } }

/-- Some wake-enabled class is PENDING or IN_SERVICE (R184). -/
def wakeWaiting (s : Settings) (v : PerClass ClassCell) : Bool :=
  allClasses.any fun c => (s.classes.get c).wake && ((v.get c).pending || (v.get c).inService)

/-- NU is told of a new host state (R184): RUNNING cancels the repeat timer; leaving RUNNING starts a cancelled one when a
wake-enabled class waits; a move between SLEEPING and OFF leaves it. -/
def nuHostState (h : HostState) (p : Part) : Part :=
  let before := p.nu.hostState
  let timer :=
    match h, before with
    | .running, _ => none
    | _, .running =>
      (match p.nu.wakeTimer with
       | some t => some t
       | none => if wakeWaiting p.sl.inForce p.nu.classes then startTimer p.tb p.sl.inForce.wakeRetry else none)
    | _, _ => p.nu.wakeTimer
  { p with nu := { p.nu with hostState := h, wakeTimer := timer } }

/-- New priorities, masks and wake enables come into force (R180, R184); `old` are the settings before. -/
def nuSettings (old : Settings) (p : Part) : Part :=
  let s := p.sl.inForce
  let turnedOn := allClasses.any fun c =>
    (s.classes.get c).wake && !(old.classes.get c).wake
      && ((p.nu.classes.get c).pending || (p.nu.classes.get c).inService)
  let q :=
    if turnedOn ∧ p.nu.hostState ≠ .running ∧ p.nu.wakeTimer = none then
      { p with nu := { p.nu with wakeTimer := startTimer p.tb s.wakeRetry } }
    else p
  judge q

/-! ### Claims and releases (R181 to R183) -/

/-- The eligible class with the smallest priority value, the lowest number among equals (R181). -/
def chooseClass (s : Settings) (n : Nu) : Option NoticeClass :=
  (allClasses.filter (eligibleAt s n.classes n.serviceLevel)).foldl
    (fun best c =>
      match best with
      | some b => if (s.classes.get c).priority < (s.classes.get b).priority then some c else some b
      | none => some c) none

/-- A class enters service. -/
def serve (c : NoticeClass) (p : Part) : Part :=
  judge (setCell c { p.nu.classes.get c with state := .inService } p)

/-- BAD_SERVICE adds 1 (R182, R183). -/
def countBadService (p : Part) : Part :=
  { p with nu := { p.nu with badService := bump p.nu.badService 1 } }

/-- A service claim by ACKNOWLEDGE (R181): the word returned, and the part after it. -/
def claim (p : Part) : Word × Part :=
  match chooseClass p.sl.inForce p.nu with
  | some c => (word (256 * (p.sl.inForce.classes.get c).priority + classNumber c), serve c p)
  | none => (0xFFFF#16, p)

/-- A TAKE trigger (R182). -/
def takeClass (w : Word) (p : Part) : Part :=
  match classOfWord w with
  | some c => if (p.nu.classes.get c).state = .pending then serve c p else countBadService p
  | none => countBadService p

/-- What a class publishes when its service ends: its shadow, or for KEYS the key queue when not empty (R178, R183). -/
def republished (c : NoticeClass) (p : Part) : Option Content :=
  match c with
  | .keys => if p.kt.queue.isEmpty then none else some .keys
  | _ => (p.nu.classes.get c).shadow

/-- The service of a class ends (R183). A republished KEYS carries the offers counted since its last publication (log entry 47). -/
def releaseClass (c : NoticeClass) (p : Part) : Part :=
  let cell := p.nu.classes.get c
  let q := judge (setCell c { cell with state := .idle } p)
  match republished c p with
  | some content => publish content cell.coalesce q
  | none => q

/-- An END_SERVICE trigger (R183). -/
def endServiceOf (w : Word) (p : Part) : Part :=
  match classOfWord w with
  | some c => if (p.nu.classes.get c).state = .inService then releaseClass c p else countBadService p
  | none => countBadService p

/-- The record being written is complete, and the next one in line, if any, begins to be written (R158). -/
def recordWritten (p : Part) : Part :=
  beginRecord { p with nu := { p.nu with writing := p.nu.writing.tail } }

/-- A record publication has ended (R176): the class becomes PENDING, ATTN and WAKE are judged anew. -/
def publicationEnded (c : NoticeClass) (p : Part) : Part :=
  let cell := p.nu.classes.get c
  let q := judge (setCell c { cell with state := .pending, publishing := none } (recordWritten p))
  if (p.sl.inForce.classes.get c).wake ∧ p.nu.hostState ≠ .running then pulseWake q else q

end Sys2Proof.Machine
end

