-- ==== Sys2Proof/Machine/Requests.lean ====
section
/-! DEFINITION. The request dispatcher's shared operations (chapter 10): routing, completion, and the event counters. -/

namespace Sys2Proof.Machine

/-! ### Result codes (13.4) -/

/-- OK. -/
def rcOk : Word := 0x0000#16
/-- OK_ADJUSTED. -/
def rcAdjusted : Word := 0x0001#16
/-- OK_LOCKED_KEPT. -/
def rcLockedKept : Word := 0x0002#16
/-- BAD_KIND. -/
def rcBadKind : Word := 0x0010#16
/-- BAD_ARG. -/
def rcBadArg : Word := 0x0011#16
/-- BAD_SETTING. -/
def rcBadSetting : Word := 0x0012#16
/-- NOT_ATTACHED. -/
def rcNotAttached : Word := 0x0020#16
/-- WRONG_STATE. -/
def rcWrongState : Word := 0x0021#16
/-- NO_REPLY. -/
def rcNoReply : Word := 0x0022#16
/-- BASE_ERROR. -/
def rcBaseError : Word := 0x0023#16
/-- NO_PEN. -/
def rcNoPen : Word := 0x0030#16

/-- The argument word at slot word 3 + i, as an unsigned integer (R186). -/
def Request.arg (r : Request) (i : Nat) : Nat := ((r.args[i]?).getD 0#16).toNat

/-! ### Routing (R164) -/

/-- An accepted request joins the tail of its owner's queue, by its kind; a bad kind is RQ's. -/
def route (r : Request) (q : Rq) : Rq :=
  match r.kind.toNat with
  | 1 => { q with sl := q.sl ++ [r] }
  | 2 => { q with sl := q.sl ++ [r] }
  | 3 => { q with sa := q.sa ++ [r] }
  | 4 => { q with pw := q.pw ++ [r] }
  | 5 => { q with bl := q.bl ++ [r] }
  | 6 => { q with pw := q.pw ++ [r] }
  | 7 => { q with cc := q.cc ++ [r] }
  | 10 => { q with nu := q.nu ++ [r] }
  | _ => { q with rq := q.rq ++ [r] }

/-! ### Completion (R165) -/

/-- The 15 words of result data (R187). -/
def resultData (ws : List Word) : List Word := (ws ++ List.replicate 15 0#16).take 15

/-- A completion joins those that RQ writes one after another; the write of the first in line holds its slot (R158, R165).
They are written in the order in which their owners completed (log entry 51). -/
def complete (c : Completion) (p : Part) : Part :=
  let q := { p with rq := { p.rq with completions := p.rq.completions ++ [c] } }
  match p.rq.completions with
  | [] => beginHold (slotBase c.slot, 32) q
  | _ => q

/-- A request completes DONE with a result code and result data. -/
def completeDone (r : Request) (code : Word) (data : List Word) (p : Part) : Part :=
  complete ⟨r.slot, true, code, resultData data⟩ p

/-- A request completes FAILED: its result data is 0 (R165). -/
def completeFailed (r : Request) (code : Word) (p : Part) : Part :=
  complete ⟨r.slot, false, code, resultData []⟩ p

/-! ### Counters (R168) -/

/-- The eleven event counters in R168's order. -/
def counters (p : Part) : List Nat :=
  [p.bl.framing, p.bl.check, p.bl.noise, p.bl.lost, p.bl.noReply, p.pn.syncErrors, p.pn.badFrames, p.pn.failedWindows,
   p.kt.droppedPresses, p.kt.invalidCodes, p.pc.hallDisagreement]

/-- The eleven event counters set to 0 (R168). -/
def clearCounters (p : Part) : Part :=
  { p with
    bl := { p.bl with framing := 0, check := 0, noise := 0, lost := 0, noReply := 0 }
    pn := { p.pn with syncErrors := 0, badFrames := 0, failedWindows := 0 }
    kt := { p.kt with droppedPresses := 0, invalidCodes := 0 }
    pc := { p.pc with hallDisagreement := 0 } }

end Sys2Proof.Machine
end

