-- ==== Sys2Proof/Machine/Charge.lean ====
section
/-! DEFINITION. The charge controller and the pen link (chapters 6 and 7): the budget, the thermal limit, the grant, reductions,
the session, the talk window, the contact guard and charge faults. -/

namespace Sys2Proof.Machine

/-! ### Limits and grants (R122 to R126) -/

/-- The budget of a host state (R122). -/
def budgetOf (s : Settings) : HostState → Nat
  | .running => s.bRunning
  | .sleeping => s.bSleeping
  | .off => s.bOff

/-- Rounded down to a multiple of 10. -/
def floor10 (n : Nat) : Nat := n / 10 * 10

/-- Rounded down to a multiple of 10, a value below 20 taken as 0 (R125, R127). -/
def trimCurrent (n : Nat) : Nat := if floor10 n < 20 then 0 else floor10 n

/-- A bound that may be none. -/
def minLimit (n : Nat) (l : Option Nat) : Nat :=
  match l with
  | some m => min n m
  | none => n

/-- THERMAL after a temperature (R124). -/
def thermalAfter (s : Settings) (before : Bool) (t : Int) : Bool :=
  if (s.tStop : Int) ≤ t then true else if before ∧ t ≤ (s.tResume : Int) then false else before

/-- The thermal limit of a temperature (R124). -/
def thermalLimitOf (s : Settings) (thermal : Bool) (t : Int) : Nat :=
  if thermal then 0
  else if t ≤ (s.tDerate : Int) then s.ceiling
  else if t < (s.tStop : Int) then floor10 (s.ceiling * ((s.tStop : Int) - t).toNat / (s.tStop - s.tDerate))
  else 0

/-- The grant for a request under the ceiling, the thermal limit, and a budget limit that may be left out (R125). -/
def grantFor (s : Settings) (requested : Nat) (thermal : Option Nat) (budget : Option Nat) : Nat :=
  trimCurrent (minLimit (minLimit (min requested s.ceiling) thermal) budget)

/-- BUDGET after a grant (R125): set when the grant is 0 and would be 20 or more with the budget limit left out. -/
def budgetCause (s : Settings) (requested : Nat) (thermal : Option Nat) (budget : Nat) : Bool :=
  decide (grantFor s requested thermal (some budget) = 0 ∧ 20 ≤ grantFor s requested thermal none)

/-- The set of pause causes is not empty. -/
def Causes.any (c : Causes) : Bool := c.thermal || c.budget || c.host

/-! ### Use of the contact (R101, R130) -/

/-- PENIO is in talk use: from the end of QUIET to the end of the window (R101). -/
def talkUse (ph : Phase) : Bool :=
  match ph with
  | .idle | .quiet => false
  | _ => true

/-- The overcurrent monitor runs (R130). -/
def monitorRuns (p : Part) : Bool := !talkUse p.pn.phase && p.cc.session != .absent

/-! ### Offers (R120, R135) -/

/-- What decides whether PEN is offered (R120). -/
def penKey (p : Part) : Session × Causes × Option (BitVec 32) := (p.cc.session, p.cc.causes, p.pn.penId)

/-- What decides whether CHARGE is offered (R135). -/
def chargeKey (p : Part) : Nat × Nat × Option Nat := (p.cc.grant, p.cc.setpoint, p.pn.report.map (·.soc))

/-- The present content of PEN (R120). -/
def penContent (p : Part) : PenContent :=
  ⟨p.inp.penh.debounced, p.cc.session, p.cc.causes, p.pn.penId, p.pn.report⟩

/-- The present content of CHARGE (R135). -/
def chargeContent (p : Part) : ChargeContent :=
  ⟨p.cc.grant, p.cc.setpoint, p.cc.measured, p.cc.budget, p.cc.reservation, p.cc.budgetLimit, p.cc.thermalLimit,
   p.pn.report, p.cc.causes, p.cc.lastFault⟩

/-- The monitor's measurement at an offer: a free reading while it runs, 0 in talk use and in ABSENT (R130, R135). -/
def readCurrent (p : Part) : Part :=
  if monitorRuns p then
    { p with cc := { p.cc with measured := (Config.measuredCurrent p.cc.readings).toNat, readings := p.cc.readings + 1 } }
  else { p with cc := { p.cc with measured := 0 } }

/-- PEN is offered with its current content. -/
def offerPen (p : Part) : Part := offer (.content (.pen (penContent p))) p

/-- CHARGE is offered with its current content. -/
def offerCharge (p : Part) : Part :=
  let q := readCurrent p
  offer (.content (.charge (chargeContent q))) q

/-- One moment at CC: after `f` has acted, PEN and CHARGE are offered, each once, when something that R120 or R135 names has
changed (log entry 15). -/
def moment (f : Part → Part) (p : Part) : Part :=
  let q := f p
  let q := if penKey q ≠ penKey p then offerPen q else q
  if chargeKey q ≠ chargeKey p then offerCharge q else q

/-! ### The session's states (R111 to R115) -/

/-- The session and its state timer replaced. -/
def setSession (st : Session) (timer : Option Timer) (p : Part) : Part :=
  { p with cc := { p.cc with session := st, stateTimer := timer } }

/-- A window starts (R103): the setpoint goes to 0, what it was is kept for a failure (R107), and PN enters QUIET. A window in
WAKING counts (R111). -/
def startWindow (p : Part) : Part :=
  { p with
    cc := { p.cc with
      setpoint := 0, windowTimer := none, windowDue := false
      wakingWindows := if p.cc.session = .waking then p.cc.wakingWindows + 1 else p.cc.wakingWindows }
    pn := { p.pn with phase := .quiet, restore := p.cc.setpoint, outcome := none, granted := 0 } }

/-- A window falls due: it starts, or while the contact guard is on the window due flag is set (R116). -/
def startOrDue (p : Part) : Part :=
  match p.cc.guard with
  | some _ => { p with cc := { p.cc with windowDue := true, windowTimer := none } }
  | none => startWindow p

/-- Entry into WAKING (R111): the windows count from 0, and a window starts at once. -/
def enterWakingSession (p : Part) : Part :=
  startOrDue { p with cc := { p.cc with session := .waking, stateTimer := none, windowTimer := none, wakingWindows := 0 } }

/-- The session enters PAUSED outside a window (R114): the setpoint becomes 0, and the first window is due one charging report
period later. -/
def enterPaused (p : Part) : Part :=
  { p with cc := { p.cc with
      session := .paused, setpoint := 0, stateTimer := none
      windowTimer := startTimer p.tb p.sl.inForce.chargePeriod } }

/-- The session's reaction to a pause cause set that is not empty (R114): PRECHARGE and CHARGING go to PAUSED outside a
window. -/
def reactToCauses (p : Part) : Part :=
  if p.cc.causes.any ∧ p.pn.phase = .idle ∧ (p.cc.session = .precharge ∨ p.cc.session = .charging) then enterPaused p else p

/-- The bounds of the setpoint other than the budget limit (R127 step 1). -/
def ceilingBound (p : Part) : Nat := min 500 (minLimit p.sl.inForce.ceiling p.cc.thermalLimit)

/-- The least of the setpoint and its bounds (R127 step 1). -/
def reducedBound (p : Part) : Nat := min (min p.cc.setpoint (ceilingBound p)) p.cc.budgetLimit

/-- A reduction cuts the setpoint to 0 and the budget limit alone is the reason: BUDGET is set (R127 step 3). -/
def budgetCuts (p : Part) : Bool :=
  decide (trimCurrent (reducedBound p) = 0 ∧ reducedBound p < p.cc.setpoint ∧ 20 ≤ min p.cc.setpoint (ceilingBound p))

/-- An immediate reduction (R127). -/
def reduce (p : Part) : Part :=
  if p.cc.setpoint ≤ reducedBound p then p
  else
    { p with cc := { p.cc with
        setpoint := trimCurrent (reducedBound p)
        causes := { p.cc.causes with budget := p.cc.causes.budget || budgetCuts p } } }

/-- The budget limit recomputed from B and the reservation (R123), then the reduction. The session reacts to a cause that the
reduction or `thermalSet` sets at this moment (R114, R127, R129), not to one that already stood (log entry 52). -/
def relimit (thermalSet : Bool) (p : Part) : Part :=
  let q := { p with cc := { p.cc with budgetLimit := budgetLimitOf p.cc.budget p.cc.reservation } }
  if thermalSet || budgetCuts q then reactToCauses (reduce q) else reduce q

/-- CC is told of a new reservation (R76, R123). -/
def chargeReservation (r : Nat) (p : Part) : Part :=
  moment (fun p => relimit false { p with cc := { p.cc with reservation := r } }) p

/-- CC takes the budget of a host state (R122). -/
def chargeHostState (h : HostState) (p : Part) : Part :=
  let b := budgetOf p.sl.inForce h
  if b = p.cc.budget then p
  else moment (fun p => relimit false { p with cc := { p.cc with budget := b } }) p

/-- Entry into PRECHARGE (R112, R126): the precharge grant, its BUDGET test, the setpoint, and PAUSED at once when a cause
stands. -/
def enterPrecharge (p : Part) : Part :=
  let s := p.sl.inForce
  let g := grantFor s s.prechargeCurrent p.cc.thermalLimit (some p.cc.budgetLimit)
  let b := budgetCause s s.prechargeCurrent p.cc.thermalLimit p.cc.budgetLimit
  reactToCauses
    { p with cc := { p.cc with
        session := .precharge, setpoint := g, prechargeGrant := g, windowTimer := none
        prechargeRounds := p.cc.prechargeRounds + 1
        stateTimer := startTimer p.tb (s.prechargeTime * 1000)
        causes := { p.cc.causes with budget := b } } }

/-- Entry into SILENT (R115). -/
def enterSilent (p : Part) : Part :=
  raiseFault .penSilent
    { p with cc := { p.cc with
        session := .silent, setpoint := 0, windowTimer := none, windowDue := false, stateTimer := none } }

/-- A window in progress is abandoned: PENIO is released and no failure is counted (R115, R116). The measured bit time
is kept (log entry 41). -/
def abandonWindow (p : Part) : Part :=
  { p with pn := { p.pn with phase := .idle, outcome := none, granted := 0 } }

/-! ### Failed windows (R107, R111) -/

/-- Why a window fails (R107). -/
inductive WindowFailure where
  | noSync | syncError | noReport | badFrame
  deriving DecidableEq, Repr

/-- A failed window in WAKING (R111). -/
def wakingFailed (p : Part) : Part :=
  if p.cc.wakingWindows < 3 then { p with cc := { p.cc with windowTimer := startTimer p.tb 50 } }
  else if p.cc.prechargeRounds < 2 then enterPrecharge p
  else enterSilent p

/-- A failed window in CHARGING, TOPPED or PAUSED (R107). The failures that led to SILENT are kept through a RESUME, so that the
count can pass 3 (log entry 40). -/
def countedFailure (p : Part) : Part :=
  let q := { p with pn := { p.pn with failures := p.pn.failures + 1 } }
  if 3 ≤ q.pn.failures then enterSilent q
  else reactToCauses { q with cc := { q.cc with windowTimer := startTimer q.tb 50 } }

/-- The setpoint after a failed window (R107): what it was before the window, reduced to the limits in force, in PRECHARGE and
CHARGING; 0 in every other state. -/
def restoreSetpoint (p : Part) : Part :=
  match p.cc.session with
  | .precharge | .charging => reduce { p with cc := { p.cc with setpoint := p.pn.restore } }
  | _ => { p with cc := { p.cc with setpoint := 0 } }

/-- The counters of a failed window (R104, R105, R107). The measured bit time is kept past the window's end (log entry 41). -/
def countFailure (k : WindowFailure) (n : Pn) : Pn :=
  { n with
    phase := .idle, outcome := none, granted := 0
    failedWindows := bump n.failedWindows 1
    syncErrors := (match k with | .syncError => bump n.syncErrors 1 | _ => n.syncErrors)
    badFrames := (match k with | .badFrame => bump n.badFrames 1 | _ => n.badFrames) }

/-- A window fails (R107). -/
def failWindow (k : WindowFailure) (p : Part) : Part :=
  let q := restoreSetpoint { p with pn := countFailure k p.pn }
  match q.cc.session with
  | .waking => wakingFailed q
  | .charging | .topped | .paused => countedFailure q
  | .precharge => reactToCauses q
  | _ => q

/-! ### REPORT and GRANT (R105, R106, R108, R113, R124, R125) -/

/-- The report's fields clamped into their ranges (R105). -/
def reportOf (battery : Word) (temperature soc : Byte) (requested : Word) (flags : Byte) : PenReport where
  battery := battery.toNat
  temperature := if temperature.toInt < -40 then -40 else if 125 < temperature.toInt then 125 else temperature.toInt
  soc := min 100 soc.toNat
  requested := min 1000 requested.toNat
  full := flags.getLsbD 0
  fault := flags.getLsbD 1

/-- The pen id of an accepted REPORT (R108): a different one starts a new session identity and discards the fault history. -/
def applyPenId (i : BitVec 32) (p : Part) : Part :=
  match p.pn.penId with
  | none => { p with pn := { p.pn with penId := some i } }
  | some j =>
    if i = j then p
    else { p with pn := { p.pn with penId := some i }, cc := { p.cc with history := none } }

/-- The session state that an accepted REPORT leads to (R113). -/
def outcomeState (s : Settings) (ran : Session) (r : PenReport) (causes : Causes) : Session :=
  let resumed := if causes.any then Session.paused else Session.charging
  if r.full then .topped
  else if ran = .topped ∧ s.rechargeThreshold ≤ r.soc then .topped
  else resumed

/-- CC computes the window's grant from an accepted REPORT (R124, R125). -/
def computeGrant (r : PenReport) (p : Part) : Part :=
  let s := p.sl.inForce
  let thermal := thermalAfter s p.cc.causes.thermal r.temperature
  let limit := thermalLimitOf s thermal r.temperature
  { p with cc := { p.cc with
      thermalLimit := some limit
      grant := grantFor s r.requested (some limit) (some p.cc.budgetLimit)
      causes := { p.cc.causes with thermal := thermal, budget := budgetCause s r.requested (some limit) p.cc.budgetLimit } } }

/-- The POLL character (R103). -/
def pollCharacter : Byte := 0xC3#8

/-- The characters that PN sends in its present phase: the POLL character in POLL (R103), and the GRANT frame in GRANT (R106). -/
def Pn.sends (n : Pn) : List Byte :=
  match n.phase with
  | .poll => [pollCharacter]
  | .grant => n.grantFrame
  | .idle | .quiet | .breaking | .waitSync | .sync | .waitReport | .report => []

/-- PN sends the GRANT (R106): the window's grant when the window ends in CHARGING, 0 otherwise. -/
def sendGrant (r : PenReport) (p : Part) : Part :=
  let st := outcomeState p.sl.inForce p.cc.session r p.cc.causes
  let o : WindowOutcome := if r.fault then .penFault else .session st
  let g := if o = .session .charging then p.cc.grant else 0
  { p with pn := { p.pn with phase := .grant, granted := g, outcome := some o, grantFrame := grantBytes g } }

/-- A REPORT is accepted (R105, R108, R111, R125). -/
def acceptReport (i : BitVec 32) (r : PenReport) (p : Part) : Part :=
  let q := applyPenId i p
  let q := { q with pn := { q.pn with report := some r }, cc := { q.cc with prechargeRounds := 0 } }
  sendGrant r (computeGrant r q)

/-! ### Charge faults (R131 to R133) -/

/-- The fault set that leaves at a charge fault's entry (R131): PEN_SILENT from SILENT, PEN_COOLDOWN at LOCKOUT. -/
def leavingAtFault (st : Session) (lockout : Bool) : FaultSet :=
  (if st = .silent then FaultName.penSilent.set else 0#7) ||| (if lockout then FaultName.penCooldown.set else 0#7)

/-- A charge fault is judged against the history (R131). -/
def judgeFault (p : Part) : Part :=
  match p.cc.session with
  | .lockout => p
  | st =>
    match p.cc.history with
    | none =>
      offer (.faults (some .penCooldown) (leavingAtFault st false))
        { p with cc := { p.cc with
            session := .cooldown, stateTimer := startTimer p.tb 5000, history := startTimer p.tb 60000
            windowTimer := none, windowDue := false } }
    | some _ =>
      offer (.faults (some .penLockout) (leavingAtFault st true))
        { p with cc := { p.cc with
            session := .lockout, stateTimer := none, history := none, windowTimer := none, windowDue := false } }

/-- A charge fault is taken (R131), without the offers of CHARGE and PEN. -/
def takeChargeFault (k : ChargeFault) (p : Part) : Part :=
  let q := abandonWindow p
  judgeFault { q with cc := { q.cc with lastFault := k, setpoint := 0 } }

/-- PEN for a change of the session at a charge fault, and CHARGE for the fault whatever changed (R120, R131, R135), with the
measurement given. -/
def offerFault (before : Part) (measured : Option Nat) (q : Part) : Part :=
  let q := if penKey q ≠ penKey before then offerPen q else q
  match measured with
  | some m =>
    let q := { q with cc := { q.cc with measured := m } }
    offer (.content (.charge (chargeContent q))) q
  | none => offerCharge q

/-- The window of an accepted REPORT ends (R106, R113, R128): the session takes the outcome, the setpoint the granted current
reduced to the limits in force, and a cause set meanwhile takes effect. The measured bit time is kept (log entry
41). -/
def endWindow (st : Session) (p : Part) : Part :=
  let s := p.sl.inForce
  let timer := match st with
    | .topped => startTimer p.tb s.toppedPeriod
    | _ => startTimer p.tb s.chargePeriod
  let g := if st = .charging then p.pn.granted else 0
  reactToCauses (reduce
    { p with
      pn := { p.pn with phase := .idle, failures := 0, outcome := none, granted := 0 }
      cc := { p.cc with session := st, stateTimer := none, windowTimer := timer, setpoint := g } })

/-! ### PENH (R110, R116 to R118) -/

/-- The contact guard turns on (R116). -/
def guardOn (p : Part) : Part :=
  let inWindow := p.pn.phase ≠ .idle
  let waking := if inWindow ∧ p.cc.session = .waking then p.cc.wakingWindows - 1 else p.cc.wakingWindows
  let q := if inWindow then abandonWindow p else p
  { q with cc := { q.cc with
      guard := some q.tb, setpoint := 0
      windowDue := q.cc.windowDue || decide inWindow
      wakingWindows := waking
      stateTimer := if q.cc.session = .settling then none else q.cc.stateTimer } }

/-- The window at the end of the guard (R107, R117): its QUIET ends when the driver has been off for 2 ms since the guard's
cut, and a failure restores the precharge grant in PRECHARGE, 0 otherwise. -/
def guardWindow (since : Time) (p : Part) : Part :=
  let q := startWindow p
  { q with pn := { q.pn with
      phase := if 2 ≤ (p.tb - since).toNat then .breaking else .quiet
      restore := if p.cc.session = .precharge then p.cc.prechargeGrant else 0 } }

/-- The contact guard ends with a raw PENH present (R117). -/
def guardEnd (since : Time) (p : Part) : Part :=
  let q := { p with cc := { p.cc with guard := none } }
  match q.cc.session with
  | .charging | .precharge => guardWindow since q
  | .waking | .topped | .paused => if q.cc.windowDue then guardWindow since q else q
  | .settling => { q with cc := { q.cc with stateTimer := startTimer q.tb 200 } }
  | _ => q

/-- CC takes a raw PENH event (R13, R116, R117). -/
def rawPenh (present : Bool) (p : Part) : Part :=
  match present, p.cc.guard with
  | false, none => if p.inp.penh.debounced then moment guardOn p else p
  | false, some _ => p
  | true, some since => moment (guardEnd since) p
  | true, none => p

/-- A debounced presence of the pen (R110). -/
def penDocked (p : Part) : Part :=
  match p.cc.session with
  | .absent =>
    { p with
      cc := { p.cc with
        session := .settling, stateTimer := startTimer p.tb 200, causes := ⟨false, false, false⟩, prechargeRounds := 0 }
      pn := { p.pn with failures := 0 } }
  | _ => p

/-- The faults that a session state holds in the active fault set (R115, R131). -/
def sessionFault : Session → Option FaultName
  | .silent => some .penSilent
  | .cooldown => some .penCooldown
  | .lockout => some .penLockout
  | _ => none

/-- A debounced absence of the pen (R118). -/
def penGone (p : Part) : Part :=
  let q := abandonWindow p
  let q :=
    { q with
      pn := { q.pn with failures := 0, penId := none, report := none, bitTime := none }
      cc := { q.cc with
        session := .absent, causes := ⟨false, false, false⟩, setpoint := 0, wakingWindows := 0, prechargeRounds := 0
        windowTimer := none, stateTimer := none, windowDue := false, guard := none
        thermalLimit := none, grant := 0, history := none } }
  match sessionFault p.cc.session with
  | some f => clearFault f q
  | none => q

/-- CC takes a debounced PENH change (R110, R118). -/
def debouncedPenh (present : Bool) (p : Part) : Part := moment (if present then penDocked else penGone) p

/-! ### Settings (R129) -/

/-- A setting of CC that R129 names has changed. -/
def chargeSettingsChanged (old s : Settings) (h : HostState) : Bool :=
  budgetOf old h != budgetOf s h || old.ceiling != s.ceiling || old.tDerate != s.tDerate || old.tResume != s.tResume
    || old.tStop != s.tStop

/-- The thermal limit recomputed under new settings from the latest report (R129): THERMAL may be set and is never cleared. -/
def rethermal (s : Settings) (p : Part) : Part :=
  match p.pn.report with
  | none => p
  | some r =>
    let thermal := p.cc.causes.thermal || decide ((s.tStop : Int) ≤ r.temperature)
    { p with cc := { p.cc with
        thermalLimit := some (thermalLimitOf s thermal r.temperature)
        causes := { p.cc.causes with thermal := thermal } } }

/-- CC acts on new settings (R129); `old` are the settings before, `h` the host state. All changes come into force first, and one
reduction under all the new limits follows (log entry 46). -/
def chargeSettings (old : Settings) (h : HostState) (p : Part) : Part :=
  let s := p.sl.inForce
  if chargeSettingsChanged old s h then
    moment (fun p =>
      let thermalMoved := old.ceiling != s.ceiling || old.tDerate != s.tDerate || old.tResume != s.tResume
        || old.tStop != s.tStop
      let q := { p with cc := { p.cc with budget := budgetOf s h } }
      let q := if thermalMoved then rethermal s q else q
      relimit (q.cc.causes.thermal && !p.cc.causes.thermal) q) p
  else p

end Sys2Proof.Machine
end

