-- ==== Sys2Proof/Machine/LinkQueue.lean ====
section
/-! DEFINITION. The base link's line, exchange queue, reservation and BASE record (sections 4.1 to 4.4, R76 to R78). -/

namespace Sys2Proof.Machine

/-! ### What a link state permits (R53, R59, 4.5) -/

/-- The receiver listens (R53). -/
def Link.listens : Link → Bool
  | .activating | .identifying | .profiling | .active | .stall | .hibernate | .waking => true
  | .detached | .powering | .resetting | .refused | .fault => false

/-- The attached states (4.5). -/
def Link.attached : Link → Bool
  | .active | .stall | .hibernate => true
  | _ => false

/-- KEYS and MOTION are taken (R66). -/
def Link.live : Link → Bool
  | .active | .stall => true
  | _ => false

/-- A MODE may be sent (R59). -/
def Link.sendsMode : Link → Bool
  | .profiling | .active | .stall | .hibernate | .waking => true
  | _ => false

/-- A QUERY may be sent (R59). -/
def Link.sendsQuery : Link → Bool
  | .active | .stall => true
  | _ => false

/-- An ATTR may be sent (R59). -/
def Link.sendsAttr : Link → Bool
  | .profiling | .active | .stall => true
  | _ => false

/-- The exchange is an ATTR. -/
def Exchange.isAttr : Exchange → Bool
  | .attr _ => true
  | _ => false

/-- The exchange is a MODE. -/
def Exchange.isMode : Exchange → Bool
  | .mode .. => true
  | _ => false

/-- A QUERY or ATTR is queued, being sent or outstanding (R69; that one being sent counts is log entry 45). -/
def Bl.attrOrQuery (b : Bl) : Bool :=
  b.qQuery || b.qAttr.isSome || (match b.exch with | some x => !x.isMode | none => false)

/-- The queue is empty and no exchange is outstanding (R67, R68). One whose frame is in its first transmission counts as
outstanding (log entry 45). -/
def Bl.quietQueue (b : Bl) : Bool := b.qMode.isNone && !b.qQuery && b.qAttr.isNone && b.exch.isNone

/-- The exchange is outstanding: its frame has been sent at least once (R60). -/
def Bl.outstanding (b : Bl) : Option Exchange := if 0 < b.attempts then b.exch else none

/-! ### The transmitter (R55, R59, R60) -/

/-- A transmission in progress loses its effect; it is completed all the same (R55). -/
def Tx.orphan : Tx → Tx
  | .frame bs _ => .frame bs false
  | .lineReset t _ => .lineReset t false
  | .wakeBreak _ => .wakeBreak false

/-- A frame in transmission loses its effect. -/
def orphanFrame (t : Option Tx) : Option Tx :=
  match t with
  | some (.frame bs _) => some (.frame bs false)
  | t => t

/-- The frame in transmission is the first send of its exchange, which is not yet outstanding (R60). -/
def Bl.sendsFirst (b : Bl) : Bool :=
  match b.tx with
  | some (.frame _ live) => live && b.attempts == 0
  | _ => false

/-- The link state changes: a transmission in progress is completed without further effect, so an exchange that it sends for the
first time never becomes outstanding (R55). An exchange whose resend it is stays outstanding (log entry 34). -/
def Bl.changeLink (new : Link) (b : Bl) : Bl :=
  { b with link := new, tx := b.tx.map Tx.orphan, exch := if b.sendsFirst then none else b.exch }

/-- A frame of the exchange starts, with the next sequence number (R55). -/
def Bl.transmit (x : Exchange) (b : Bl) : Bl :=
  { b with exch := some x, replyTimer := none, tx := some (.frame (x.bytes b.txSeq) true), txSeq := b.txSeq + 1#4 }

/-- The first permitted exchange of the queue, in the order MODE, QUERY, ATTR (R59), and the queue without it. -/
def Bl.nextExchange (b : Bl) : Option (Exchange × Bl) :=
  match b.qMode, b.link.sendsMode with
  | some m, true => some (.mode m b.quiet, { b with qMode := none })
  | _, _ =>
    if b.qQuery && b.link.sendsQuery then some (.query, { b with qQuery := false })
    else
      match b.qAttr, b.link.sendsAttr with
      | some op, true => some (.attr op, { b with qAttr := none })
      | _, _ => none

/-- The transmitter goes on when the line is free: an ordered line condition first, then a frame that is to be sent again, then
the queue (R55, R59, R60). -/
def Bl.pump (lineReset : Nat) (now : Time) (b : Bl) : Bl :=
  match b.tx with
  | some _ => b
  | none =>
    match b.lineOrder with
    | some .lineReset => { b with lineOrder := none, tx := some (.lineReset ⟨now, lineReset⟩ true) }
    | some .wakeBreak => { b with lineOrder := none, tx := some (.wakeBreak true) }
    | none =>
      match b.exch, b.replyTimer with
      | some x, none => b.transmit x
      | some _, some _ => b
      | none, _ =>
        match b.nextExchange with
        | some (x, b') => { b' with attempts := 0 }.transmit x
        | none => b

/-- The duration of the stall idle timer in force (R67). -/
def stallIdleTime (p : Part) : Nat := p.bl.ovStall.getD p.sl.inForce.stallIdle

/-- The duration of the reply timer in force (R60). -/
def replyTime (p : Part) : Nat := p.bl.ovReply.getD p.sl.inForce.replyTimeout

/-- The stall idle timer (R67): it runs in ACTIVE while the queue is empty and nothing is outstanding, starts when that comes
to hold, restarts at a KEYS frame (`restart`), and is cancelled otherwise. The end of a transmission that has lost its effect does
not start it again (log entry 48). -/
def stallSync (restart : Bool) (p : Part) : Part :=
  let timer :=
    if p.bl.link = .active ∧ p.bl.quietQueue then
      (match p.bl.stallTimer, restart with
       | some t, false => some t
       | _, _ => startTimer p.tb (stallIdleTime p))
    else none
  { p with bl := { p.bl with stallTimer := timer } }

/-- The transmitter and the stall idle timer brought up to date. -/
def pump (restart : Bool) (p : Part) : Part :=
  stallSync restart { p with bl := p.bl.pump p.sl.inForce.lineReset p.tb }

/-- PC's change of suppression reaches BL (R77): the quiet flag, and in ACTIVE and STALL a MODE with it. -/
def quietChanged (on : Bool) (p : Part) : Part :=
  let mode := match p.bl.link with
    | .active => some (p.bl.qMode.getD .active)
    | .stall => some (p.bl.qMode.getD .stall)
    | _ => p.bl.qMode
  { p with bl := { p.bl with quiet := on, qMode := mode } }

/-- KT asks for a QUERY (R59, R98); the link state follows in `settle`. One asked for while the frame of another is in its first
transmission waits as a second (log entry 50). -/
def joinQuery (p : Part) : Part := { p with bl := { p.bl with qQuery := true } }

/-- PW submits an ATTR (R59); the link state follows in `settle`. -/
def joinAttr (op : AttrOp) (p : Part) : Part := { p with bl := { p.bl with qAttr := some op } }

/-! ### Reservation and record (R76, R78) -/

/-- The class allowance in mW (4.2); none for UNKNOWN. -/
def allowance (cls : Byte) : Option Nat :=
  if cls = 1#8 then some 300 else if cls = 2#8 then some 600 else if cls = 3#8 then some 1200
  else if cls = 4#8 then some 150 else none

/-- The reservation takes a value; CC is told of a change (R76). -/
def setReservation (r : Nat) (p : Part) : Part :=
  if r = p.bl.reservation then p
  else chargeReservation r { p with bl := { p.bl with reservation := r } }

/-- Events of the BASE record by bit (13.5). -/
inductive BaseEvent where
  | attached | identified | ready | hibernated | woken | settingsLost | restarted | refused | faulted | detached | retried
  | profileDone
  deriving DecidableEq, Repr

/-- The bit number of an event. -/
def BaseEvent.bit : BaseEvent → Nat
  | .attached => 0
  | .identified => 1
  | .ready => 2
  | .hibernated => 3
  | .woken => 4
  | .settingsLost => 5
  | .restarted => 6
  | .refused => 7
  | .faulted => 8
  | .detached => 9
  | .retried => 10
  | .profileDone => 11

/-- The present content of BASE with an event set (R78). -/
def baseContent (events : BitVec 12) (p : Part) : BaseContent :=
  ⟨p.bl.link, events, p.bl.ident, p.bl.reservation, p.bl.status, p.bl.quiet, p.bl.sample.map (·.counter), p.pw.counts⟩

/-- BASE is offered with an event (R78). -/
def offerBase (e : BaseEvent) (p : Part) : Part := offer (.content (.base (baseContent (1#12 <<< e.bit) p))) p

end Sys2Proof.Machine
end

