-- ==== Sys2Proof/Machine/Advisor.lean ====
section
/-! DEFINITION. The sleep advisor (chapter 8): activity, advice, posture events, and the orders it gives the base link as far as
they set the target mode and a pending wake; `settle` (Machine/BaseLink.lean) carries them out. -/

namespace Sys2Proof.Machine

/-! ### Orders (R68, R70, R140) -/

/-- A mode order sets the target mode; in HIBERNATE it sets or cancels the pending wake (R68, R70). -/
def orderTarget (m : LinkMode) (p : Part) : Part :=
  { p with bl := { p.bl with
      target := m
      pendingWake := if p.bl.link = .hibernate then decide (m ≠ .hibernate) else p.bl.pendingWake } }

/-- A wake order: in HIBERNATE a wake is pending, and in any other state it has no effect (R68, R140). -/
def orderWake (p : Part) : Part :=
  if p.bl.link = .hibernate then { p with bl := { p.bl with pendingWake := true } } else p

/-- The mode order of a host state and a published posture (R139). -/
def orderFor (h : HostState) (q : Posture) : LinkMode :=
  match h with
  | .running => .active
  | .sleeping => if q = .closed then .hibernate else .stall
  | .off => .hibernate

/-! ### Advice (R147 to R149) -/

/-- The causes of advice (13.5, ADVICE word 6). -/
inductive AdviceCause where
  | lid | lidOpen | key | penRemoved | baseAttached | pickup
  deriving DecidableEq, Repr

/-- The bit of a cause. -/
def AdviceCause.set : AdviceCause → BitVec 6
  | .lid => 0x01#6
  | .lidOpen => 0x02#6
  | .key => 0x04#6
  | .penRemoved => 0x08#6
  | .baseAttached => 0x10#6
  | .pickup => 0x20#6

/-- SA gives an advice: ADVICE is offered with SA's state as it then stands (R149). -/
def advise (k : AdviceKind) (causes : BitVec 6) (p : Part) : Part :=
  offer (.content (.advice ⟨k, causes, p.sa.posture, p.sa.hostState, p.sa.advisor, p.sa.dimmed⟩)) p

/-- A WAKE advice; a link in HIBERNATE is ordered to STALL (R148). -/
def adviseWake (c : AdviceCause) (p : Part) : Part :=
  let q := advise .wake c.set p
  if q.bl.link = .hibernate then orderTarget .stall q else q

/-- A wake cause reaches SA (R147): WAKE is advised while the advisor is WATCHING. -/
def wakeCause (c : AdviceCause) (p : Part) : Part :=
  if p.sa.advisor = .watching then adviseWake c p else p

/-! ### Activity (R142) -/

/-- The inactivity timer started with the inactivity time in force (R137, R146). -/
def startInactivity (p : Part) : Part :=
  { p with sa := { p.sa with inactivity := startTimer p.tb (p.sl.inForce.inactivityTime * 1000) } }

/-- The inactivity timer restarted with the inactivity time in force, or cancelled where that time is 0 or keep-awake is
on (R137, R142). -/
def restartInactivity (p : Part) : Part :=
  let s := p.sl.inForce
  { p with sa := { p.sa with
      inactivity := if s.inactivityTime = 0 ∨ s.keepAwake then none else startTimer p.tb (s.inactivityTime * 1000) } }

/-- Return to ACTIVE with the dimmed flag cleared and UNDIM advised. -/
def undim (p : Part) : Part :=
  advise .undim 0#6 { p with sa := { p.sa with advisor := .active, dimmed := false } }

/-- An activity (R142). -/
def activity (p : Part) : Part :=
  if p.sa.hostState = .running then
    let q := restartInactivity p
    if q.sa.advisor = .idle then undim q else q
  else p

/-- KT tells of a forwarded key press: activity, or the wake cause KEY (R142, R147). -/
def keyTold (p : Part) : Part := wakeCause .key (activity p)

/-! ### Postures (R144, R145, R147) -/

/-- CLOSE_PENDING is entered and the grace timer started (R139, R144, R146). -/
def enterClosePending (p : Part) : Part :=
  { p with sa := { p.sa with advisor := .closePending, grace := startTimer p.tb p.sl.inForce.closeGrace } }

/-- A return to ACTIVE from CLOSE_PENDING or SLEEP_ADVISED (R144, R145): UNDIM where the display was dimmed, CANCEL_SLEEP from
SLEEP_ADVISED, and the dimmed flag clear. -/
def leaveClose (p : Part) : Part :=
  let q := { p with sa := { p.sa with advisor := .active, dimmed := false, grace := none } }
  match p.sa.advisor with
  | .closePending => if p.sa.dimmed then advise .undim 0#6 q else q
  | .sleepAdvised => advise .cancelSleep 0#6 q
  | _ => p

/-- Close-sleep applies: it is on and keep-awake is off. -/
def closeSleeps (s : Settings) : Bool := s.closeSleep && !s.keepAwake

/-- A posture publication while the host runs (R142, R144, R145). -/
def postureRunning (q : Posture) (p : Part) : Part :=
  if q = .closed ∧ closeSleeps p.sl.inForce ∧ (p.sa.advisor = .active ∨ p.sa.advisor = .idle) then
    enterClosePending (restartInactivity p)
  else
    let r := activity p
    if q = .closed then r else leaveClose r

/-- PC tells SA of a posture publication (R142, R144, R145, R147), without the order of R140. -/
def postureTold (q : Posture) (p : Part) : Part :=
  let before := p.sa.posture
  let r := { p with sa := { p.sa with posture := q } }
  if p.sa.hostState = .running then postureRunning q r
  else if before = .closed ∧ q ≠ .closed ∧ q ≠ .detached then wakeCause .lidOpen r
  else r

/-! ### Link states and the pen (R142, R147) -/

/-- BL tells SA of an entry into a link state (R62): an attach and a detach are activity, and an attach is the wake cause
BASE_ATTACHED. -/
def linkTold (old new : Link) (p : Part) : Part :=
  match new with
  | .powering => if old = .detached then wakeCause .baseAttached (activity p) else p
  | .detached => activity p
  | _ => p

/-- IF tells SA of a debounced change of PENH (R142, R147). -/
def penTold (present : Bool) (p : Part) : Part :=
  let q := activity p
  if !present ∧ q.sl.inForce.penWake then wakeCause .penRemoved q else q

/-- IF tells SA of a debounced change of LIDH (R147). -/
def lidTold (active : Bool) (p : Part) : Part :=
  if !active ∧ p.sa.posture = .closed then wakeCause .lidOpen p else p

/-! ### Lid motion (R141) -/

/-- The magnitude of a difference exceeds the threshold on some axis. -/
def movedBeyond (t : Nat) (a b : Int × Int × Int) : Bool :=
  decide ((t : Int) < (a.1 - b.1).natAbs) || decide ((t : Int) < (a.2.1 - b.2.1).natAbs)
    || decide ((t : Int) < (a.2.2 - b.2.2).natAbs)

/-- PICKUP is watched for in this posture (R147). -/
def pickupPosture (q : Posture) : Bool :=
  match q with
  | .tablet | .flat | .detached => true
  | _ => false

/-- A lid sample reaches SA (R141): it is stored, and lid motion is activity or the wake cause PICKUP. -/
def lidSampleTold (x y z : Int) (fresh : Bool) (p : Part) : Part :=
  let q := { p with sa := { p.sa with previous := some (x, y, z) } }
  match p.sa.previous, fresh with
  | some before, false =>
    if movedBeyond p.sl.inForce.pickupThreshold (x, y, z) before then
      let r := activity q
      if r.sl.inForce.pickupWake ∧ pickupPosture r.sa.posture then wakeCause .pickup r else r
    else q
  | _, _ => q

/-! ### Timers (R143, R145) -/

/-- The inactivity timer expires (R143). -/
def inactivityExpired (p : Part) : Part :=
  let q := { p with sa := { p.sa with inactivity := none } }
  if q.sa.advisor = .active ∧ !q.sl.inForce.keepAwake then
    advise .dim 0#6 { q with sa := { q.sa with advisor := .idle, dimmed := true } }
  else q

/-- The grace timer expires (R145). -/
def graceExpired (p : Part) : Part :=
  let q := { p with sa := { p.sa with grace := none } }
  if q.sa.advisor = .closePending then
    advise .sleep AdviceCause.lid.set { q with sa := { q.sa with advisor := .sleepAdvised } }
  else q

/-! ### Host state (R139) and settings (R146) -/

/-- SA's own part of a change of host state, after the other blocks have been told (R139). -/
def advisorHostState (h : HostState) (p : Part) : Part :=
  match h with
  | .running =>
    let q := { p with sa := { p.sa with dimmed := false, grace := none } }
    let q := if q.sa.posture = .closed ∧ closeSleeps q.sl.inForce then enterClosePending q
      else { q with sa := { q.sa with advisor := .active } }
    restartInactivity q
  | _ => { p with sa := { p.sa with advisor := .watching, inactivity := none, grace := none } }

/-- The return of every state but ACTIVE to ACTIVE when keep-awake is turned on (R146 step 1). -/
def keepAwakeOn (p : Part) : Part :=
  let q := if p.sa.advisor = .idle then undim p else leaveClose p
  { q with sa := { q.sa with dimmed := false, inactivity := none } }

/-- Close-sleep turned off (R146 step 2). -/
def closeSleepOff (p : Part) : Part :=
  match p.sa.advisor with
  | .closePending | .sleepAdvised => leaveClose p
  | _ => p

/-- Keep-awake turned off, or close-sleep turned on (R146 step 3). -/
def closeSleepOn (p : Part) : Part :=
  if p.sa.advisor = .active ∧ p.sa.posture = .closed ∧ closeSleeps p.sl.inForce then enterClosePending p else p

/-- The inactivity timer at a settings change (R146 step 4): keep-awake in force does not keep it from starting. -/
def inactivitySettings (old : Settings) (p : Part) : Part :=
  let s := p.sl.inForce
  if s.inactivityTime = 0 then
    (if old.inactivityTime = 0 then p else { p with sa := { p.sa with inactivity := none } })
  else if (old.keepAwake ∧ !s.keepAwake) ∨ old.inactivityTime = 0 then
    (match p.sa.advisor with
     | .active | .closePending => startInactivity p
     | _ => p)
  else p

/-- SA acts on new settings while the host runs (R146); `old` are the settings before. -/
def advisorSettings (old : Settings) (p : Part) : Part :=
  let s := p.sl.inForce
  if p.sa.hostState = .running then
    let q := if s.keepAwake ∧ !old.keepAwake then keepAwakeOn p else p
    let q := if old.closeSleep ∧ !s.closeSleep then closeSleepOff q else q
    let q := if (old.keepAwake ∧ !s.keepAwake) ∨ (s.closeSleep ∧ !old.closeSleep) then closeSleepOn q else q
    inactivitySettings old q
  else p

end Sys2Proof.Machine
end

