-- ==== Sys2Proof/Machine/KeyTracker.lean ====
section
/-! DEFINITION. The key tracker (section 5.4): the sets P, D and I, the key queue, suppression, link loss, and resync. -/

namespace Sys2Proof.Machine

/-! ### Sets of key codes -/

/-- A code joins a set kept in ascending order. -/
def insertCode (k : Nat) : List Nat → List Nat
  | [] => [k]
  | a :: s => if k < a then k :: a :: s else if k = a then a :: s else a :: insertCode k s

/-- A code leaves a set. -/
def dropCode (k : Nat) (s : List Nat) : List Nat := s.filter (· != k)

/-- The set of a list of codes. -/
def codeSet (ks : List Nat) : List Nat := ks.foldl (fun s k => insertCode k s) []

/-- A key code that names a key (R92). -/
def validCode (k : Nat) : Bool := decide (0 < k) && decide (k < 128)

/-! ### The queue (R93, R94, R96) -/

/-- A transition joins the tail of the key queue. -/
def Kt.push (k : Kt) (code : Nat) (release synthesized : Bool) (time : Word) : Kt :=
  { k with queue := k.queue ++ [⟨code, release, synthesized, time⟩] }

/-- A press is dropped for want of room (R93). -/
def Kt.dropPress (k : Kt) : Kt :=
  { k with droppedPresses := bump k.droppedPresses 1, dropped := bump k.dropped 1 }

/-- KT offers KEYS (R100). -/
def offerKeys (p : Part) : Part := offer (.content .keys) p

/-- KEYS is offered once when the queue has grown (R92, R96, R99). -/
def offerIfQueued (before : Nat) (p : Part) : Part := if before < p.kt.queue.length then offerKeys p else p

/-- Synthesized releases for every member of D, in ascending order, which empties it (R96). -/
def Kt.releaseAll (time : Word) (k : Kt) : Kt :=
  { k with queue := k.queue ++ k.down.map (fun c => ⟨c, true, true, time⟩), down := [] }

/-- PC tells KT of a change of suppression (R96, R97). -/
def suppressionTold (on : Bool) (p : Part) : Part :=
  if on then
    offerIfQueued p.kt.queue.length { p with kt := { p.kt.releaseAll (loWord p.tb) with suppression := true } }
  else { p with kt := { p.kt with suppression := false, ignored := p.kt.held } }

/-- BL tells KT of an entry into a link state (R96): leaving ACTIVE or STALL releases every reported key and empties P and I. -/
def linkToldKeys (old new : Link) (p : Part) : Part :=
  if old.live ∧ !new.live then
    offerIfQueued p.kt.queue.length { p with kt := { p.kt.releaseAll (loWord p.tb) with held := [], ignored := [] } }
  else p

/-! ### Presses and releases (R93, R94, R97) -/

/-- A press is queued, or dropped while the queue holds 16 transitions or more; SA is told of a forwarded one (R93, R99). -/
def queuePress (code : Nat) (synthesized : Bool) (time : Word) (p : Part) : Part :=
  if p.kt.queue.length < 16 then
    keyTold { p with kt := { p.kt.push code false synthesized time with down := insertCode code p.kt.down } }
  else { p with kt := p.kt.dropPress }

/-- A press (R93, R97). -/
def press (code : Nat) (time : Word) (p : Part) : Part :=
  if code ∈ p.kt.held then p
  else if 16 ≤ p.kt.held.length then { p with kt := p.kt.dropPress }
  else
    let q := { p with kt := { p.kt with held := insertCode code p.kt.held } }
    if p.kt.suppression then q else queuePress code false time q

/-- A release (R94, R97). -/
def release (code : Nat) (time : Word) (k : Kt) : Kt :=
  let k := { k with held := dropCode code k.held }
  if k.suppression then k
  else if code ∈ k.ignored then { k with ignored := dropCode code k.ignored }
  else if code ∈ k.down then { k.push code true false time with down := dropCode code k.down }
  else k

/-- One transition of a KEYS frame (R92). -/
def keyTransition (time : Word) (p : Part) (e : KeyEvent) : Part :=
  let code := e.code.toNat
  if validCode code then
    if e.flags.getLsbD 0 then { p with kt := release code time p.kt } else press code time p
  else { p with kt := { p.kt with invalidCodes := bump p.kt.invalidCodes 1 } }

/-- KT asks for a resync after a frame (R98). -/
def asksQuery (gap : Bool) (heldCount : Nat) (k : Kt) : Bool :=
  gap || (decide (heldCount ≠ k.held.length) && !(decide (16 < heldCount) && decide (k.held.length = 16)))

/-- A KEYS frame reaches KT (R92, R98). -/
def keysFrame (gap : Bool) (es : List KeyEvent) (heldCount : Nat) (p : Part) : Part :=
  let q := offerIfQueued p.kt.queue.length (es.foldl (keyTransition (loWord p.tb)) p)
  if asksQuery gap heldCount q.kt then joinQuery q else q

/-! ### Resync (R99) -/

/-- A release of step 1 of a resync: a code of D that the base does not hold. -/
def resyncRelease (held : List Nat) (time : Word) (k : Kt) (code : Nat) : Kt :=
  if code ∈ held then k else { k.push code true true time with down := dropCode code k.down }

/-- A press of step 3 of a resync: a held code in neither D nor I. -/
def resyncPress (time : Word) (p : Part) (code : Nat) : Part :=
  if code ∈ p.kt.down ∨ code ∈ p.kt.ignored then p else queuePress code true time p

/-- A STATUS that answers KT's QUERY (R99). -/
def resync (codes : List Byte) (p : Part) : Part :=
  let time := loWord p.tb
  let all := codes.map (·.toNat)
  let held := codeSet (all.filter validCode)
  let invalid := (all.filter (fun c => !validCode c)).length
  let k := { p.kt with held := held, resync := true, invalidCodes := bump p.kt.invalidCodes invalid }
  if k.suppression then { p with kt := { k with ignored := held } }
  else
    let k1 := k.down.foldl (resyncRelease held time) k
    let k2 := { k1 with ignored := k1.ignored.filter (· ∈ held) }
    offerIfQueued p.kt.queue.length (held.foldl (resyncPress time) { p with kt := k2 })

end Sys2Proof.Machine
end

