-- ==== Sys2Proof/Machine/PostureUnit.lean ====
section
/-! DEFINITION. The orientation tracker and the posture classifier (chapter 3). -/

namespace Sys2Proof.Machine

/-! ### Orientation: hold and offers (R51, R52) -/

/-- The hold that the settings and a published posture give (R47, R51). -/
def holdFor (s : Settings) (q : Posture) : Hold :=
  if s.orientationLock then .lock else if inPostureSet s.rotateMask q then .none else .posture

/-- The present content of ORIENTATION (R52). -/
def orientationContent (p : Part) : OrientationContent := ⟨p.ot.rotation, p.ot.hold, p.ot.posture, p.ot.tilted⟩

/-- ORIENTATION is offered with its current content. -/
def offerOrientation (p : Part) : Part := offer (.content (.orientation (orientationContent p))) p

/-- OT recomputes its hold (R51): a change clears the candidate and the dwell, and into POSTURE the rotation becomes ROT0. The
changes are offered once; SA is told of a changed rotation. -/
def rehold (p : Part) : Part :=
  let h := holdFor p.sl.inForce p.ot.posture
  if h = p.ot.hold then p
  else
    let turned := h = .posture ∧ p.ot.rotation ≠ .rot0
    let q := offerOrientation
      { p with ot := { p.ot with
          hold := h, candidate := none, dwell := none
          rotation := if h = .posture then .rot0 else p.ot.rotation
          time := if turned then p.tb else p.ot.time } }
    if turned then activity q else q

/-- PC tells OT of a posture publication (R45, R51). -/
def orientationTold (q : Posture) (p : Part) : Part := rehold { p with ot := { p.ot with posture := q } }

/-- OT acts on new settings (R51); `old` are the settings before. -/
def orientationSettings (old : Settings) (p : Part) : Part :=
  let s := p.sl.inForce
  if old.orientationLock ≠ s.orientationLock ∨ old.rotateMask ≠ s.rotateMask then rehold p else p

/-! ### Orientation: evaluation (R48 to R50) -/

/-- The negation of a reading: that of -32768 is 32767 (R17). -/
def negReading (n : Int) : Int := if n = -32768 then 32767 else -n

/-- The component that favours a rotation (section 3.7). -/
def Rotation.component (lx ly : Int) : Rotation → Int
  | .rot0 => ly
  | .rot90 => lx
  | .rot180 => negReading ly
  | .rot270 => negReading lx

/-- The best rotation (R49): the largest component, the published rotation among equals, else the lowest index. -/
def bestRotation (published : Rotation) (lx ly : Int) : Rotation :=
  [Rotation.rot0, .rot90, .rot180, .rot270].foldl
    (fun best r => if best.component lx ly < r.component lx ly then r else best) published

/-- OT evaluates its rotation at a delivery with a lid sample (R48, R49). -/
def evaluateRotation (s : Settings) (now : Time) (lx ly : Int) (o : Ot) : Ot :=
  if o.hold ≠ .none then o
  else if lx * lx + ly * ly < (s.tiltFloor : Int) * s.tiltFloor then
    { o with tilted := true, candidate := none, dwell := none }
  else
    let best := bestRotation o.rotation lx ly
    let met := (8 + (s.orientationHysteresis : Int)) * o.rotation.component lx ly ≤ 8 * best.component lx ly
    if best ≠ o.rotation ∧ met then
      if o.candidate = some best then { o with tilted := false }
      else { o with tilted := false, candidate := some best, dwell := startTimer now s.orientationDwell }
    else { o with tilted := false, candidate := none, dwell := none }

/-- A delivery of AE (R32): the angle, validity, reason and base that PC stores, the remapped lid sample (lx, ly, lz) of a
delivery made at a lid arrival, and the time. -/
structure Delivery where
  stored : StoredDelivery
  lid : Option (Int × Int × Int)
  time : Time
  deriving DecidableEq, Repr

/-- A delivery reaches OT (R48); one without a lid sample is ignored. -/
def orientationDelivery (d : Delivery) (p : Part) : Part :=
  match d.lid with
  | some (lx, ly, _) => { p with ot := evaluateRotation p.sl.inForce d.time lx ly p.ot }
  | none => p

/-- The orientation dwell expires (R50). The expiry's TB value stands in `Ot.time`; the ORIENTATION record's header has the TB value
at which its publication starts (R176, log entry 53). -/
def rotationExpired (p : Part) : Part :=
  match p.ot.candidate with
  | some r =>
    activity (offerOrientation
      { p with ot := { p.ot with rotation := r, candidate := none, dwell := none, time := p.tb } })
  | none => { p with ot := { p.ot with dwell := none } }

/-! ### Posture: zone and seam side (R36 to R39) -/

/-- The zone in which an angle lies (R36). -/
def zoneOf (s : Settings) (a : Nat) : Zone :=
  if 8 * s.b4 ≤ a ∨ a < 8 * s.b1 then .seam
  else if a < 8 * s.b2 then .opened
  else if a < 8 * s.b3 then .flat
  else .folded

/-- An angle lies within a zone's retained band (R36). -/
def retained (s : Settings) (z : Zone) (a : Nat) : Bool :=
  let h := s.hysteresis
  match z with
  | .none => false
  | .seam => decide (8 * (s.b4 - h) ≤ a ∨ a ≤ 8 * (s.b1 + h))
  | .opened => decide (8 * (s.b1 - h) ≤ a ∧ a ≤ 8 * (s.b2 + h))
  | .flat => decide (8 * (s.b2 - h) ≤ a ∧ a ≤ 8 * (s.b3 + h))
  | .folded => decide (8 * (s.b3 - h) ≤ a ∧ a ≤ 8 * (s.b4 + h))

/-- The zone update (R37). -/
def nextZone (s : Settings) (d : StoredDelivery) (z : Zone) : Zone :=
  match d.validity, d.angle with
  | .unknown, _ => .none
  | _, some a => if retained s z a then z else zoneOf s a
  | _, none => .none

/-- The seam side update (R38, R39), from the zone left and the zone entered. -/
def nextSeam (unknown lidClosed folded : Bool) (left entered : Zone) (side : SeamSide) : SeamSide :=
  if unknown then (if lidClosed then .near else if folded then .far else side)
  else if entered = .seam then
    match left with
    | .opened => .near
    | .folded => .far
    | _ => side
  else side

/-! ### Posture: candidate (R40, R41) -/

/-- The Halls' posture, or another where neither is active (R40 cases 2 and 3). -/
def hallPosture (lidClosed folded : Bool) (other : Posture) : Posture :=
  if lidClosed then .closed else if folded then .tablet else other

/-- The posture kept while the Halls give no evidence (R40 case 2). -/
def keptPosture (published : Posture) : Posture := if published = .detached then .unknown else published

/-- The posture in FOLDED (R40 case 6). -/
def foldedPosture (base : Option (Int × Int)) : Posture :=
  match base with
  | some (y, z) => if z.natAbs < y.natAbs then .tent else .stand
  | none => .stand

/-- R40 case 2 applies to an attached link. -/
def hallCase (link : Link) (d : StoredDelivery) : Bool := d.validity == .unknown || link == .hibernate

/-- The candidate (R40). -/
def candidateOf (link : Link) (lidClosed folded : Bool) (c : Pc) : Posture :=
  if !link.attached then .detached
  else if hallCase link c.stored then hallPosture lidClosed folded (keptPosture c.published)
  else
    match c.zone with
    | .seam => hallPosture lidClosed folded (match c.seam with | .near => .laptop | .far => .tablet)
    | .opened => .laptop
    | .flat => .flat
    | .folded => foldedPosture c.stored.base
    | .none => hallPosture lidClosed folded (keptPosture c.published)

/-- A hall disagreement (R41): case 4 of R40 with LIDH active. -/
def disagrees (link : Link) (lidClosed : Bool) (c : Pc) : Bool :=
  link.attached && !hallCase link c.stored && c.zone == .opened && lidClosed

/-! ### Posture: dwell, publication, suppression (R42 to R45) -/

/-- Steps 1 to 3 of an evaluation (R35). -/
def Pc.classify (s : Settings) (link : Link) (lidClosed folded : Bool) (c : Pc) : Pc :=
  let z := nextZone s c.stored c.zone
  let side := nextSeam (c.stored.validity == .unknown) lidClosed folded c.zone z c.seam
  let c1 := { c with zone := z, seam := side }
  let dis := disagrees link lidClosed c1
  { c1 with
    candidate := candidateOf link lidClosed folded c1
    disagreement := dis
    hallDisagreement := if dis ∧ !c.disagreement then bump c.hallDisagreement 1 else c.hallDisagreement }

/-- Step 4 of an evaluation (R42): `before` is the candidate of the previous evaluation. -/
def Pc.dwellStep (now : Time) (dwell : Nat) (before : Posture) (c : Pc) : Pc :=
  if c.candidate = c.published then { c with dwell := none }
  else if c.candidate = .detached then { c with published := .detached, dwell := none }
  else if c.candidate = before then c
  else { c with dwell := startTimer now dwell }

/-- Suppression after a decision (R44). -/
def suppressionAfter (mask : BitVec 8) (on : Bool) (candidate published : Posture) : Bool :=
  if inPostureSet mask candidate || inPostureSet mask published then true
  else if candidate = .unknown ∨ published = .unknown then on
  else false

/-- Step 5 of an evaluation (R44): KT and BL are told of a change. -/
def decideSuppression (p : Part) : Part :=
  let on := suppressionAfter p.sl.inForce.suppressionMask p.pc.suppression p.pc.candidate p.pc.published
  if on = p.pc.suppression then p
  else quietChanged on (suppressionTold on { p with pc := { p.pc with suppression := on } })

/-- The content of a POSTURE offer (R45). -/
def postureContent (p : Part) : PostureContent :=
  ⟨p.pc.published, p.pc.candidate, p.pc.suppression, p.pc.stored.angle, p.pc.stored.validity, p.pc.stored.reason,
   p.pc.seam, p.pc.zone⟩

/-- What decides whether POSTURE is offered (R45). -/
def postureKey (c : Pc) : OfferedPosture :=
  ⟨c.published, c.zone, c.seam, c.suppression, c.stored.validity == .unknown⟩

/-- PC offers POSTURE with its current content. -/
def offerPosture (p : Part) : Part :=
  offer (.content (.posture (postureContent p))) { p with pc := { p.pc with offered := postureKey p.pc } }

/-- OT and SA are told of a posture publication, and SLEEPING orders the link (R45, R140). -/
def tellPosture (p : Part) : Part :=
  let q := postureTold p.pc.published (orientationTold p.pc.published p)
  if q.sa.hostState = .sleeping then orderTarget (orderFor .sleeping p.pc.published) q else q

/-- Step 6 of an evaluation (R45); `before` is the posture published before it. -/
def handOn (before : Posture) (p : Part) : Part :=
  let q := if p.pc.published = before then p else tellPosture p
  if postureKey q.pc = q.pc.offered then q else offerPosture q

/-- One evaluation of PC (R35). -/
def evaluatePosture (p : Part) : Part :=
  let s := p.sl.inForce
  let c := p.pc.classify s p.bl.link p.inp.lidh.debounced p.inp.foldh.debounced
  let c := c.dwellStep p.tb s.postureDwell p.pc.candidate
  handOn p.pc.published (decideSuppression { p with pc := c })

/-- The posture dwell expires (R43): the candidate is published, and steps 5 and 6 follow. -/
def postureExpired (p : Part) : Part :=
  handOn p.pc.published
    (decideSuppression { p with pc := { p.pc with published := p.pc.candidate, dwell := none } })

/-- A delivery of AE reaches PC (R35). -/
def postureDelivery (d : StoredDelivery) (p : Part) : Part := evaluatePosture { p with pc := { p.pc with stored := d } }

/-- A posture setting has changed (R46). -/
def postureSettingsChanged (old s : Settings) : Bool :=
  old.b1 != s.b1 || old.b2 != s.b2 || old.b3 != s.b3 || old.b4 != s.b4 || old.hysteresis != s.hysteresis
    || old.postureDwell != s.postureDwell || old.suppressionMask != s.suppressionMask

/-- PC acts on new settings (R46); `old` are the settings before. -/
def postureSettings (old : Settings) (p : Part) : Part :=
  if postureSettingsChanged old p.sl.inForce then evaluatePosture p else p

end Sys2Proof.Machine
end

