-- ==== Sys2Proof/Machine/Profile.lean ====
section
/-! DEFINITION. The profile walker (sections 5.1 to 5.3): walks, their held operations, attribute requests and reloads, and what
the base link tells it. -/

namespace Sys2Proof.Machine

/-! ### Entries and results (5.1, 13.6) -/

/-- The target and content of a profile entry (13.6). -/
inductive Entry where
  | skipped
  | link (id value : Nat)
  | base (id : BitVec 12) (value : Byte)
  deriving DecidableEq, Repr

/-- A profile entry read by fields (13.6, R186). -/
def readEntry (e : Word × Word) : Entry :=
  if e.1.getLsbD 15 then
    (if e.1.getLsbD 12 then .base (e.1.extractLsb' 0 12) (e.2.extractLsb' 0 8)
     else .link (e.1.extractLsb' 0 12).toNat (e.2.extractLsb' 0 8).toNat)
  else .skipped

/-- Result codes (13.6). -/
def EntryResult.code : EntryResult → Nat
  | .notRun => 0
  | .ok => 1
  | .error => 2
  | .noReply => 3
  | .skipped => 4

/-- The counts of the results of a walk (5.1). -/
def countResults (rs : List EntryResult) : WalkCounts where
  succeeded := (rs.filter (· == .ok)).length
  errored := (rs.filter (fun r => r == .error || r == .noReply)).length
  notRun := (rs.filter (· == .notRun)).length

/-- The 32 results before any is recorded. -/
def freshResults : List EntryResult := List.replicate 32 .notRun

/-- The result of the entry at the walk position, and the position advanced (R82, R83). -/
def Pw.record (r : EntryResult) (w : Pw) : Pw :=
  { w with results := w.results.set w.position r, position := w.position + 1 }

/-! ### Wakes (R87) -/

/-- The condition of R87: in HIBERNATE, a request waits or an ATTR stands in the queue. -/
def wakeNeeded (p : Part) : Bool :=
  p.bl.link == .hibernate &&
    ((match p.pw.current with | some (_, .waiting) => true | _ => false) || p.bl.qAttr.isSome)

/-- PW asks SA for a link wake where R87 has it ask, once in a hibernation. -/
def askWake (p : Part) : Part :=
  if wakeNeeded p ∧ !p.pw.wakeAsked then orderWake { p with pw := { p.pw with wakeAsked := true } } else p

/-! ### Walks (R81 to R85) -/

/-- A walk begins with its snapshot (R81); `e` is its end where it has ended before that. -/
def startWalk (w : Walk) (e : Option WalkEnd) (p : Part) : Part :=
  beginHold (profileBase, 96)
    { p with pw := { p.pw with walk := w, op := .snapshot, ending := e, snapshot := none } }

/-- The oldest waiting attach walk begins (R85). -/
def startWaiting (p : Part) : Part :=
  match p.pw.waiting with
  | e :: es => startWalk .attach e { p with pw := { p.pw with waiting := es } }
  | [] => p

/-- A walk that has ended begins to write its results (R84, R85). -/
def startResultWrite (e : WalkEnd) (p : Part) : Part :=
  beginHold (resultBase, 32) { p with pw := { p.pw with op := .resultWrite, ending := some e } }

/-- An ATTR of PW joins the exchange queue (R83, R88). -/
def submit (origin : Origin) (op : AttrOp) (p : Part) : Part :=
  askWake (joinAttr op { p with pw := { p.pw with inFlight := some origin } })

/-- A LINK entry is applied (R82). -/
def applyLink (id value : Nat) (p : Part) : Part :=
  match id with
  | 0 => { p with bl := { p.bl with ovReply := some (clampNat 5 100 value) }, pw := p.pw.record .ok }
  | 1 => { p with bl := { p.bl with ovStall := some (clampNat 50 2000 value) }, pw := p.pw.record .ok }
  | _ => { p with pw := p.pw.record .error }

/-- The entries from the walk position on are visited, up to a BASE entry or the end (R82 to R84). -/
def visit : List (Word × Word) → Part → Part
  | [], p => startResultWrite .complete p
  | e :: es, p =>
    match readEntry e with
    | .skipped => visit es { p with pw := p.pw.record .skipped }
    | .link id value => visit es (applyLink id value p)
    | .base id value => submit .walkEntry ⟨true, id, value⟩ p

/-- The walk goes on from its position. -/
def continueWalk (p : Part) : Part :=
  match p.pw.snapshot with
  | some es => visit (es.drop p.pw.position) p
  | none => p

/-- The snapshot has ended with the entries it copied (R81, R85). -/
def snapshotTaken (entries : List (Word × Word)) (p : Part) : Part :=
  let q := { p with pw := { p.pw with
    op := .idle, snapshot := some entries, position := 0, results := freshResults } }
  match p.pw.ending with
  | none => continueWalk q
  | some .superseded => if p.pw.walk = .reload then startWaiting q else startResultWrite .superseded q
  | some e => startResultWrite e q

/-! ### Requests (R86 to R89) -/

/-- A BASE_ATTRIBUTE's arguments are ones it may carry (R86). -/
def attributeArgsOk (r : Request) : Bool :=
  (decide (r.arg 0 = 1) || decide (r.arg 0 = 2)) && decide (r.arg 1 ≤ 4095) && decide (r.arg 2 ≤ 255)

/-- The request is a BASE_ATTRIBUTE (13.4). -/
def Request.isAttribute (r : Request) : Bool := r.kind == 4#16

/-- The request is a PROFILE_RELOAD (13.4). -/
def Request.isReload (r : Request) : Bool := r.kind == 6#16

/-- A request of PW runs (R88, R89). -/
def runRequest (r : Request) (p : Part) : Part :=
  let q := { p with pw := { p.pw with current := some (r, .running) } }
  if r.isReload then startWalk .reload none q
  else submit .request ⟨decide (r.arg 0 = 2), BitVec.ofNat 12 (r.arg 1), BitVec.ofNat 8 (r.arg 2)⟩ q

/-- A request of PW waits (R86, R87). -/
def waitRequest (r : Request) (p : Part) : Part :=
  askWake { p with pw := { p.pw with current := some (r, .waiting) } }

/-- No base is to be had in this link state (R86). -/
def Link.dead : Link → Bool
  | .detached | .refused | .fault => true
  | _ => false

/-- PW takes requests from the head of its queue until one stays (R86). -/
def takeRequests : List Request → Part → Part
  | [], p => { p with rq := { p.rq with pw := [] } }
  | r :: rs, p =>
    if r.isAttribute ∧ !attributeArgsOk r then takeRequests rs (completeFailed r rcBadArg p)
    else if p.bl.link.dead then takeRequests rs (completeFailed r rcNotAttached p)
    else
      let q := { p with rq := { p.rq with pw := rs } }
      if p.bl.link.live ∧ p.pw.walk = .none then runRequest r q else waitRequest r q

/-- PW takes its next request when it has none. -/
def takeNext (p : Part) : Part :=
  match p.pw.current with
  | some _ => p
  | none => takeRequests p.rq.pw p

/-- The current request completes, and the next is taken (R86). -/
def finishRequest (f : Part → Part) (p : Part) : Part :=
  takeNext (f { p with pw := { p.pw with current := none } })

/-! ### What the base link tells PW (R83, R88, R90) -/

/-- A REPLY answers PW's ATTR (R83, R88). -/
def replyTold (ok : Bool) (value : Byte) (p : Part) : Part :=
  let q := { p with pw := { p.pw with inFlight := none } }
  match p.pw.inFlight, p.pw.current with
  | some .walkEntry, _ => continueWalk { q with pw := q.pw.record (if ok then .ok else .error) }
  | some .request, some (r, _) =>
    finishRequest (if ok then completeDone r rcOk [value.setWidth 16] else completeFailed r rcBaseError) q
  | _, _ => q

/-- PW's ATTR went unanswered on its last attempt (R83, R88). The next request is taken at the entry into FAULT. -/
def unansweredTold (p : Part) : Part :=
  let q := { p with pw := { p.pw with inFlight := none } }
  match p.pw.inFlight, p.pw.current with
  | some .walkEntry, _ => startResultWrite .noReply { q with pw := q.pw.record .noReply }
  | some .request, some (r, _) => completeFailed r rcNoReply { q with pw := { q.pw with current := none } }
  | _, _ => q

/-- PW's ATTR was abandoned (R83, R88): `gone` for a detach, refusal or fault, clear for a restart or settings lost. The walk of
an entry ends, and the next request is taken, at the entry into the state that caused it. -/
def abandonedTold (gone : Bool) (p : Part) : Part :=
  let q := { p with pw := { p.pw with inFlight := none } }
  match p.pw.inFlight, p.pw.current with
  | some .request, some (r, _) =>
    if gone then completeFailed r rcNotAttached { q with pw := { q.pw with current := none } }
    else { q with pw := { q.pw with current := some (r, .waiting) } }
  | _, _ => q

/-- The first end of a walk is the one that counts. -/
def firstEnd (e : WalkEnd) (o : Option WalkEnd) : Option WalkEnd := some (o.getD e)

/-- The newest of the waiting walks ends (R85). -/
def endNewest (e : WalkEnd) : List (Option WalkEnd) → List (Option WalkEnd)
  | [] => []
  | [o] => [firstEnd e o]
  | o :: os => o :: endNewest e os

/-- The newest walk ends while a held operation of PW runs (R85): the newest of those that wait, or else the walk whose snapshot is
being taken. A walk whose results are being written has ended already. -/
def Pw.endWalk (e : WalkEnd) (w : Pw) : Pw :=
  match w.op, w.waiting with
  | .snapshot, [] => { w with ending := firstEnd e w.ending }
  | _, os => { w with waiting := endNewest e os }

/-- The walk at an entry into DETACHED, REFUSED or FAULT (R81, R85). -/
def endWalk (p : Part) : Part :=
  match p.pw.op, p.pw.walk with
  | .idle, .none => p
  | .idle, _ => startResultWrite .notAttached p
  | _, _ => { p with pw := p.pw.endWalk .notAttached }

/-- The current request at an entry into DETACHED, REFUSED or FAULT (R86, R89): a waiting one fails, and so does a reload that
runs without a walk. -/
def failRequest (p : Part) : Part :=
  match p.pw.current with
  | some (r, .waiting) => finishRequest (completeFailed r rcNotAttached) p
  | some (r, .running) =>
    if r.isReload ∧ p.pw.walk = .none then finishRequest (completeFailed r rcNotAttached) p else p
  | none => takeNext p

/-- The walk at an entry into PROFILING (R81, R85, R89): it ends, or is replaced, and an attach walk starts. -/
def beginAttach (p : Part) : Part :=
  match p.pw.op, p.pw.walk with
  | .idle, .attach => startResultWrite .superseded { p with pw := { p.pw with waiting := [none] } }
  | .idle, _ => startWalk .attach none p
  | _, _ =>
    let w := p.pw.endWalk .superseded
    { p with pw := { w with waiting := w.waiting ++ [none] } }

/-- A waiting request at an entry into ACTIVE (R86). -/
def runWaiting (p : Part) : Part :=
  match p.pw.current with
  | some (r, .waiting) => if p.pw.walk = .none then runRequest r p else p
  | _ => p

/-- BL tells PW of an entry into a link state (R85 to R87, R90). A waiting request fails at the entry, while the results of a walk that
ends there are still being written (log entry 55). -/
def linkToldProfile (old new : Link) (p : Part) : Part :=
  let q := if old = .hibernate then { p with pw := { p.pw with wakeAsked := false } } else p
  match new with
  | .detached | .refused | .fault => failRequest (endWalk q)
  | .profiling => beginAttach q
  | .active => runWaiting q
  | .hibernate => askWake q
  | _ => q

/-! ### The end of a walk (R84, R85, R89) -/

/-- The reload request that runs, at the end of the walk it follows (R89). -/
def finishReload (e : WalkEnd) (c : WalkCounts) (p : Part) : Part :=
  match p.pw.current with
  | some (r, .running) =>
    if r.isReload then
      match e with
      | .complete =>
        finishRequest (completeDone r rcOk [word c.succeeded, word c.errored, word c.notRun]) p
      | .noReply => finishRequest (completeFailed r rcNoReply) p
      | .notAttached => finishRequest (completeFailed r rcNotAttached) p
      | .superseded => p
    else p
  | _ => p

/-- PW reports an attach walk complete, and BL queues MODE ACTIVE (R65, R84); where a restart during the result write has left a
new attach walk waiting, the report is left out (log entry 38), and a report that finds the link outside PROFILING has no effect (log
entry 49). -/
def reportComplete (e : WalkEnd) (w : Walk) (waiting : List (Option WalkEnd)) (p : Part) : Part :=
  if e = .complete ∧ w = .attach ∧ waiting = [] ∧ p.bl.link = .profiling then
    { p with bl := { p.bl with qMode := some .active } }
  else p

/-- The result words have been written (R84, R85): the counts, BASE with PROFILE_DONE, the report to BL or to the reload
request, and the walk that waits. The walk returns to NONE before the reload request completes, so that the request behind it
runs (log entry 39). -/
def resultsWritten (e : WalkEnd) (p : Part) : Part :=
  let c := countResults p.pw.results
  let q := offerBase .profileDone { p with pw := { p.pw with counts := c } }
  let q := reportComplete e p.pw.walk p.pw.waiting q
  let q := startWaiting { q with pw := { q.pw with walk := .none, op := .idle, ending := none, snapshot := none } }
  runIfLive (finishReload e c q)
where
  /-- A request that waited only for the walk runs now (R86). -/
  runIfLive (p : Part) : Part := if p.bl.link.live then runWaiting p else p

end Sys2Proof.Machine
end

