-- ==== Sys2Proof/Machine/BaseLink.lean ====
section
/-! DEFINITION. The base link's state machine (sections 4.3 to 4.7): entries into link states, orders, received frames, and what
follows at the end of every command that reaches the link. -/

namespace Sys2Proof.Machine

/-! ### Entries (R61, R62, R64, R69 to R73) -/

/-- The link enters a state: a transmission in progress loses its effect (R55), and KT, PC, PW and SA are told (R62). -/
def enterLink (new : Link) (p : Part) : Part :=
  let old := p.bl.link
  let q := { p with bl := p.bl.changeLink new }
  linkTold old new (linkToldProfile old new (evaluatePosture (linkToldKeys old new q)))

/-- The queue is emptied and the exchange outstanding or being sent is abandoned; a transmission in progress loses its effect,
and PW is told of an abandoned ATTR (R55, R61). A line reset or wake break that still waits for the line is dropped (log entry
44). `gone` is clear at a restart. -/
def emptyQueue (gone : Bool) (p : Part) : Part :=
  let had := p.bl.qAttr.isSome || (match p.bl.exch with | some x => x.isAttr | none => false)
  let q := { p with bl := { p.bl with
    tx := p.bl.tx.map Tx.orphan, lineOrder := none
    qMode := none, qQuery := false, qAttr := none, exch := none, attempts := 0, replyTimer := none } }
  if had then abandonedTold gone q else q

/-- The exchange ends: its timer is cancelled, and a resend of it in transmission loses its effect (R60). -/
def endExchange (p : Part) : Part :=
  { p with bl := { p.bl with
      tx := orphanFrame p.bl.tx, exch := none, attempts := 0, replyTimer := none } }

/-- Every timer of BL is cancelled, and a pending wake and a held HELLO with them (R72, R73). -/
def Bl.cancelTimers (b : Bl) : Bl :=
  { b with
    replyTimer := none, powerTimer := none, activateTimer := none, helloTimer := none, stallTimer := none
    minHibTimer := none, pendingWake := false, heldHello := none }

/-- The fault that FAULT or REFUSED holds leaves the active fault set (R72). -/
def clearLinkFault (p : Part) : Part :=
  match p.bl.link with
  | .fault => clearFault .linkFault p
  | .refused => clearFault .baseRefused p
  | _ => p

/-- Entry into POWERING by an attach or by BASE_RETRY (R64, R74). -/
def enterPowering (e : BaseEvent) (p : Part) : Part :=
  let q := clearLinkFault p
  let q := setReservation 1200
    { q with bl := { q.bl with
        helloAttempts := 0, txSeq := 0#4, expSeq := none, powerTimer := startTimer q.tb 5 } }
  offerBase e (enterLink .powering q)

/-- Entry into RESETTING: a line reset is ordered (R64). -/
def enterResetting (p : Part) : Part :=
  enterLink .resetting
    { p with bl := { p.bl with powerTimer := none, helloTimer := none, lineOrder := some .lineReset } }

/-- Entry into FAULT or REFUSED (R72). -/
def enterStopped (new : Link) (f : FaultName) (e : BaseEvent) (p : Part) : Part :=
  let q := emptyQueue true p
  let q := setReservation 0 { q with bl := { q.bl.cancelTimers with expSeq := none } }
  offerBase e (raiseFault f (enterLink new q))

/-- Entry into FAULT (R72). -/
def enterFault (p : Part) : Part := enterStopped .fault .linkFault .faulted p

/-- Entry into REFUSED (R72). -/
def enterRefused (p : Part) : Part := enterStopped .refused .baseRefused .refused p

/-- Entry into DETACHED (R73). -/
def enterDetached (p : Part) : Part :=
  let q := emptyQueue true (clearLinkFault p)
  let q := setReservation 0
    { q with bl := { q.bl.cancelTimers with
        expSeq := none, ovReply := none, ovStall := none, ident := none, status := none } }
  offerBase .detached (enterLink .detached q)

/-- Entry into STALL with MODE STALL queued (R67). -/
def enterStall (p : Part) : Part :=
  enterLink .stall { p with bl := { p.bl with qMode := some .stall, stallTimer := none } }

/-- Return from STALL to ACTIVE with MODE ACTIVE queued (R67). -/
def leaveStall (p : Part) : Part :=
  enterLink .active { p with bl := { p.bl with qMode := some .active } }

/-- The action of a mode order of STALL on a link in ACTIVE (R68); the other actions of an order follow in `settle`. -/
def stallIfOrdered (m : LinkMode) (p : Part) : Part :=
  if m = .stall ∧ p.bl.link = .active ∧ p.bl.quietQueue then enterStall p else p

/-- Entry into ACTIVE from PROFILING or WAKING: the absence mark, READY, and the target mode in force (R62, R68, R78). The blocks
are told of the entry before the target is applied (log entry 37). -/
def enterActive (p : Part) : Part :=
  let q := offerBase .ready (enterLink .active { p with bl := { p.bl with absent := true } })
  stallIfOrdered q.bl.target q

/-- Entry into HIBERNATE (R69). -/
def enterHibernate (p : Part) : Part :=
  offerBase .hibernated (enterLink .hibernate
    { p with bl := { p.bl with
        qMode := some .hibernate, stallTimer := none, pendingWake := false
        minHibTimer := startTimer p.tb p.sl.inForce.minHibernate } })

/-- A MODE, queued, outstanding or being sent, is abandoned (R61). -/
def Bl.abandonMode (b : Bl) : Bl :=
  match b.exch with
  | some (.mode ..) =>
    { b with qMode := none, exch := none, attempts := 0, replyTimer := none, tx := orphanFrame b.tx }
  | _ => { b with qMode := none }

/-- Entry into WAKING: the wake break is ordered (R70). -/
def enterWaking (p : Part) : Part :=
  offerBase .woken (enterLink .waking
    { p with bl := { p.bl.abandonMode with
        pendingWake := false, minHibTimer := none, lineOrder := some .wakeBreak } })

/-- Entry into PROFILING from WAKING: a queued ATTR is abandoned with the cause settings lost (R61, R70). -/
def enterReprofiling (p : Part) : Part :=
  let q := { p with bl := { p.bl with qAttr := none } }
  enterLink .profiling (if p.bl.qAttr.isSome then abandonedTold false q else q)

/-! ### What follows (R59, R67, R69, R70) -/

/-- A pending wake is carried out once the minimum hibernate timer does not run (R70). -/
def wakeIfPending (p : Part) : Part :=
  if p.bl.link = .hibernate ∧ p.bl.pendingWake ∧ p.bl.minHibTimer = none then enterWaking p else p

/-- A QUERY or ATTR in the queue returns STALL to ACTIVE (R67). -/
def rouseIfQueued (p : Part) : Part :=
  if p.bl.link = .stall ∧ (p.bl.qQuery ∨ p.bl.qAttr.isSome) then leaveStall p else p

/-- A target of HIBERNATE is carried out once no QUERY or ATTR is queued or outstanding (R69). -/
def hibernateIfDue (p : Part) : Part :=
  if p.bl.link.live ∧ p.bl.target = .hibernate ∧ !p.bl.attrOrQuery then enterHibernate p else p

/-- The link's own moves at the end of a command that reaches it, and then the transmitter and the stall idle timer; `restart`
restarts that timer. -/
def settleWith (restart : Bool) (p : Part) : Part :=
  pump restart (hibernateIfDue (rouseIfQueued (wakeIfPending p)))

/-- The link's own moves and the transmitter. -/
def settle (p : Part) : Part := settleWith false p

/-- BL takes a mode order (R68 to R70). -/
def modeOrder (m : LinkMode) (p : Part) : Part := settle (stallIfOrdered m (orderTarget m p))

/-! ### Received frames (R53, R54, R58, R66) -/

/-- The noisy characters of a frame that count: each is judged under the link state in which it was complete, whatever state the
frame ends in (R53). -/
def countedNoise (n : NoiseCount) (l : Link) : Nat := if l.listens then n.earlier + n.present else n.earlier

/-- A frame has noisy characters to count: the receiver listens, or some were complete while it did and no full reset is in force,
in which the counters keep their reset values (R53, R160, log entries 30 and 33). -/
def noiseCounts (n : NoiseCount) (p : Part) : Bool := p.bl.link.listens || (decide (0 < n.earlier) && !p.resetLow)

/-- Characters flagged noise are counted at the end of their frame (R53, log entry 33); a frame that has none to count changes
nothing. -/
def countNoise (n : NoiseCount) (p : Part) : Part :=
  if noiseCounts n p then
    { p with bl := { p.bl with noise := bump p.bl.noise (countedNoise n p.bl.link) } }
  else p

/-- A frame is discarded and counted, while the receiver listens (R53, R54). -/
def countDiscard (d : Discard) (p : Part) : Part :=
  if p.bl.link.listens then
    match d with
    | .framing => { p with bl := { p.bl with framing := bump p.bl.framing 1 } }
    | .check => { p with bl := { p.bl with check := bump p.bl.check 1 } }
  else p

/-- The gap of a frame's sequence number (R58); 0 while no number is expected. -/
def seqGap (b : Bl) (seq : BitVec 4) : Nat :=
  match b.expSeq with
  | some e => (seq - e).toNat
  | none => 0

/-- The sequence check of a well-formed frame other than HELLO (R58). -/
def seqCheck (seq : BitVec 4) (p : Part) : Part :=
  match p.bl.expSeq with
  | some _ =>
    { p with bl := { p.bl with lost := bump p.bl.lost (seqGap p.bl seq), expSeq := some (seq + 1#4) } }
  | none => p

/-- The class may be attached: it is known, in the allowed class mask, and the revision is supported (R64). -/
def helloAccepted (mask : BitVec 8) (h : Hello) : Bool :=
  (allowance h.cls).isSome && mask.getLsbD h.cls.toNat && h.revision != 0#8

/-- A HELLO is taken (R64). -/
def takeHello (h : Hello) (p : Part) : Part :=
  let q := { p with bl := { p.bl with
    expSeq := some (h.seq + 1#4), ovReply := none, ovStall := none, helloTimer := none
    ident := some ⟨h.cls, h.revision, h.accessory⟩ } }
  if helloAccepted q.sl.inForce.classMask h then
    offerBase .identified (enterLink .profiling (setReservation ((allowance h.cls).getD 0) q))
  else enterRefused q

/-- A restart of the base (R71). -/
def restartBase (h : Hello) (p : Part) : Part :=
  let q := emptyQueue false p
  let q := { q with bl := { q.bl with
    stallTimer := none, minHibTimer := none, activateTimer := none, pendingWake := false } }
  takeHello h (offerBase .restarted q)

/-- A well-formed HELLO reaches the link (R64, R66, R71). -/
def helloFrame (h : Hello) (p : Part) : Part :=
  match p.bl.link with
  | .activating => { p with bl := { p.bl with heldHello := some h } }
  | .identifying => takeHello h p
  | .profiling | .active | .stall | .hibernate | .waking => restartBase h p
  | .detached | .powering | .resetting | .refused | .fault => p

/-- A well-formed KEYS frame reaches the link (R66, R67). -/
def keysReceived (gap : Bool) (es : List KeyEvent) (heldCount : Nat) (p : Part) : Part :=
  match p.bl.link with
  | .active => keysFrame gap es heldCount p
  | .stall => keysFrame gap es heldCount (leaveStall p)
  | _ => p

/-- A well-formed MOTION frame reaches the link (R66). -/
def motionFrame (x y z : Word) (counter : Byte) (p : Part) : Part :=
  if p.bl.link.live then
    { p with bl := { p.bl with sample := some ⟨x, y, z, counter, p.tb⟩, absent := false } }
  else p

/-- STATUS and REPLY are taken in this state (R65, R66). -/
def Link.takesStatus : Link → Bool
  | .profiling | .active | .stall | .hibernate | .waking => true
  | _ => false

/-- The reservation after a STATUS (R76): the greater of the class allowance and the draw. -/
def statusReservation (b : Bl) (draw : Nat) : Nat :=
  match b.ident with
  | some i => max ((allowance i.cls).getD 0) draw
  | none => draw

/-- The STATUS with this mode answers the outstanding exchange (R57). -/
def statusAnswers (b : Bl) (mode : Option LinkMode) : Bool :=
  match b.outstanding with
  | some (.mode m _) => mode == some m
  | some .query => true
  | _ => false

/-- A MODE ACTIVE has been answered: PROFILING and WAKING are left (R65, R70). -/
def modeAnswered (lost : Bool) (p : Part) : Part :=
  match p.bl.link with
  | .profiling => enterActive p
  | .waking => if lost then enterReprofiling p else enterActive p
  | _ => p

/-- A STATUS ends the exchange that it answers (R57, R60). -/
def answerStatus (st : BaseStatus) (held : List Byte) (p : Part) : Part :=
  if statusAnswers p.bl st.mode then
    match p.bl.exch with
    | some (.mode .active _) => modeAnswered st.lost (endExchange p)
    | some .query => resync held (endExchange p)
    | _ => endExchange p
  else p

/-- A well-formed STATUS reaches the link (R57, R65, R66, R70, R76, R78). -/
def statusFrame (st : BaseStatus) (held : List Byte) (p : Part) : Part :=
  if p.bl.link.takesStatus then
    let q := setReservation (statusReservation p.bl st.draw) { p with bl := { p.bl with status := some st } }
    let q := if p.bl.link = .waking ∧ st.lost then offerBase .settingsLost q else q
    answerStatus st held q
  else p

/-- A well-formed REPLY reaches the link (R57); a result that is none of the three is REJECTED (R56). At the end of the exchange a
target of HIBERNATE is carried out (R69), and then PW is told, so that its next ATTR joins the queue in HIBERNATE (R83, log
entry 17). -/
def replyFrame (id : Word) (result value : Byte) (p : Part) : Part :=
  if p.bl.link.takesStatus then
    match p.bl.outstanding with
    | some (.attr op) => if op.id.setWidth 16 = id then replyTold (result == 0#8) value (hibernateIfDue (endExchange p))
      else p
    | _ => p
  else p

/-! ### Exchanges and timers (R60, R64, R67, R70) -/

/-- A frame has been sent (R60): the exchange is outstanding and its reply timer starts, unless the frame has lost its effect. -/
def frameSent (p : Part) : Part :=
  match p.bl.tx with
  | some (.frame _ true) =>
    settle { p with bl := { p.bl with
      tx := none, attempts := p.bl.attempts + 1, replyTimer := startTimer p.tb (replyTime p) } }
  | some (.frame _ false) => settle { p with bl := { p.bl with tx := none } }
  | _ => p

/-- The reply timer expires (R60): the frame is sent again, or the exchange is exhausted and the link goes to FAULT. -/
def replyExpired (p : Part) : Part :=
  if p.bl.attempts < p.sl.inForce.replyAttempts then settle { p with bl := { p.bl with replyTimer := none } }
  else
    let wasAttr := match p.bl.exch with | some x => x.isAttr | none => false
    let q := endExchange { p with bl := { p.bl with noReply := bump p.bl.noReply 1 } }
    settle (enterFault (if wasAttr then unansweredTold q else q))

/-- The line reset ends (R64). -/
def lineResetEnded (live : Bool) (p : Part) : Part :=
  let q := { p with bl := { p.bl with tx := none } }
  if live ∧ p.bl.link = .resetting then
    settle (enterLink .activating
      { q with bl := { q.bl with activateTimer := startTimer q.tb q.sl.inForce.activateTime } })
  else settle q

/-- The activate time expires (R64, R70). -/
def activateExpired (p : Part) : Part :=
  let q := { p with bl := { p.bl with activateTimer := none } }
  match p.bl.link with
  | .activating =>
    let r := enterLink .identifying { q with bl := { q.bl with
      heldHello := none, helloAttempts := q.bl.helloAttempts + 1
      helloTimer := startTimer q.tb q.sl.inForce.helloTimeout } }
    settle (match p.bl.heldHello with | some h => takeHello h r | none => r)
  | .waking => settle { q with bl := { q.bl with qMode := some .active } }
  | _ => q

/-- The hello timer expires (R64). -/
def helloExpired (p : Part) : Part :=
  if p.bl.helloAttempts < p.sl.inForce.helloAttempts then settle (enterResetting p)
  else settle (enterFault { p with bl := { p.bl with noReply := bump p.bl.noReply 1 } })

/-- The wake break ends (R70). -/
def wakeBreakEnded (live : Bool) (p : Part) : Part :=
  let q := { p with bl := { p.bl with tx := none } }
  if live ∧ p.bl.link = .waking then
    settle { q with bl := { q.bl with activateTimer := startTimer q.tb q.sl.inForce.activateTime } }
  else settle q

/-! ### Presence and BASE_RETRY (R64, R73, R74) -/

/-- IF tells BL of a debounced change of BPRES (R64, R73). -/
def presenceTold (present : Bool) (p : Part) : Part :=
  if present then (if p.bl.link = .detached then settle (enterPowering .attached p) else p)
  else if p.bl.link = .detached then p
  else settle (enterDetached p)

/-- BL takes a BASE_RETRY (R74). -/
def retryBase (r : Request) (p : Part) : Part :=
  match p.bl.link with
  | .fault | .refused => completeDone r rcOk [] (settle (enterPowering .retried p))
  | .detached => completeFailed r rcNotAttached p
  | _ => completeFailed r rcWrongState p

end Sys2Proof.Machine
end

