-- ==== Sys2Proof/Machine/AngleEngine.lean ====
section
/-! DEFINITION. The angle engine (chapter 2): mounting maps, the validity checks, the raw angle, the filter, the seam clamp, holding
and losing the angle, and its deliveries. -/

namespace Sys2Proof.Machine

/-! ### Mounting maps (R17) -/

/-- A vector of readings. -/
abbrev Reading := Int × Int × Int

/-- The reading of a sensor axis. -/
def Axis.of (v : Reading) : Axis → Int
  | .x => v.1
  | .y => v.2.1
  | .z => v.2.2

/-- An axis of the manual from its source: the sensor's reading, negated where the sign is minus. -/
def AxisSource.of (v : Reading) (a : AxisSource) : Int := if a.minus then negReading (a.axis.of v) else a.axis.of v

/-- A reading remapped (R17). -/
def MountingMap.apply (m : MountingMap) (v : Reading) : Reading := (m.x.of v, m.y.of v, m.z.of v)

/-- A raw axis value at the end of its range. -/
def saturatedAxis (n : Int) : Bool := n == -32768 || n == 32767

/-- A raw reading is saturated (R8, R17). -/
def saturatedReading (v : Reading) : Bool := saturatedAxis v.1 || saturatedAxis v.2.1 || saturatedAxis v.2.2

/-- The raw reading of a base sample. -/
def BaseSample.reading (b : BaseSample) : Reading := (b.x.toInt, b.y.toInt, b.z.toInt)

/-! ### Validity checks (R20 to R23) -/

/-- The square of a magnitude. -/
def sumSquares (v : Reading) : Int := v.1 * v.1 + v.2.1 * v.2.1 + v.2.2 * v.2.2

/-- The square of the projection on the plane square to the hinge. -/
def projectionSquare (v : Reading) : Int := v.2.1 * v.2.1 + v.2.2 * v.2.2

/-- The magnitude lies in the motion window (R23). -/
def inMotionWindow (t : Nat) (v : Reading) : Bool :=
  decide ((4096 - 64 * (t : Int)) * (4096 - 64 * (t : Int)) ≤ sumSquares v) &&
    decide (sumSquares v ≤ (4096 + 64 * (t : Int)) * (4096 + 64 * (t : Int)))

/-- The staleness limit in ms (R22). -/
def staleLimit : HostState → Nat
  | .running => 40
  | .sleeping => 200
  | .off => 200

/-- The first check that a lid sample fails, on its raw reading, the raw base sample and the base sample's age (R20 to R23). -/
def failedCheck (s : Settings) (link : Link) (h : HostState) (now : Time) (absent : Bool) (base : Option BaseSample)
    (lid : Reading) : Option Reason :=
  match base with
  | none => some .noBase
  | some b =>
    let rl := s.lidMap.apply lid
    let rb := s.baseMap.apply b.reading
    if !link.live || absent then some .noBase
    else if staleLimit h < (now - b.time).toNat then some .staleBase
    else if saturatedReading lid || saturatedReading b.reading || !inMotionWindow s.motionTolerance rl
        || !inMotionWindow s.motionTolerance rb then some .motion
    else if projectionSquare rb < (s.projectionFloor : Int) * s.projectionFloor
        ∨ projectionSquare rl < (s.projectionFloor : Int) * s.projectionFloor then some .projection
    else none

/-! ### Raw angle (R24) -/

/-- A rotation as the cosine and sine of its angle, scaled by 2^128. -/
abbrev Turn := Int × Int

/-- The rotation by a sixteenth of a degree: half an eighth. -/
def halfTurn : Turn :=
  (340282164467957346434243346672119529115, 371190406964129264103293242847965131)

/-- The rotations by 512, 256, …, 1 eighths of a degree, with their eighths. -/
def turns : List (Nat × Turn) :=
  [(512, 149169971419233416918596602734851372374, 305843765449128096101848522656759384457),
   (256, 288575813422904245924193058158074392936, 180322181510277190488529740002604227428),
   (128, 327100405124326601639005886606917189499, 93794531849237388852260266091449193347),
   (64, 336970762317608143015777587856459699063, 47358152206417802591036910258012718485),
   (32, 339453456177651013374559993136717716782, 23736897993709255695042896771499905946)]
  ++ [(16, 340075076097132074821378937932824101649, 11875683342276517617844508495825077058),
   (8, 340230540268261750956743264373121785153, 5938746170945056723073406927607666420),
   (4, 340269410011089572909415488634731321099, 2969486154406273935813374003070091592),
   (2, 340279127678058612033813696841422908946, 1484757211021670172870001365342806543),
   (1, 340281557109254896513336954920681110645, 742380372244458501087811958494629407)]

/-- A vector (x, y) turned forward. -/
def turnForward (t : Turn) (v : Int × Int) : Int × Int := (v.1 * t.1 - v.2 * t.2, v.2 * t.1 + v.1 * t.2)

/-- A vector turned back. -/
def turnBack (t : Turn) (v : Int × Int) : Int × Int := (v.1 * t.1 + v.2 * t.2, v.2 * t.1 - v.1 * t.2)

/-- How many eighths of a degree fit into the angle of a vector, by the turns given, largest first. -/
def countEighths : List (Nat × Turn) → Int × Int → Nat
  | [], _ => 0
  | (n, t) :: ts, v =>
    let w := turnBack t v
    if 0 ≤ w.2 then n + countEighths ts w else countEighths ts v

/-- The quarter turns before a vector (x, y), and the vector turned back by them into x > 0, y ≥ 0. -/
def quarter (x y : Int) : Nat × (Int × Int) :=
  if 0 < x ∧ 0 ≤ y then (0, (x, y))
  else if x ≤ 0 ∧ 0 < y then (1, (y, -x))
  else if x < 0 ∧ y ≤ 0 then (2, (-x, -y))
  else (3, (-y, x))

/-- The raw angle θ of R24 in eighths of a degree: atan2(cross, dot) rounded to the nearest. The count is of the whole eighths in
the angle and a sixteenth of a degree more. The turns' constants are exact to 2^-128, far closer than the angle of integers of
this size can come to a rounding boundary (log entry 25). -/
def rawAngle (cross dot : Int) : Nat :=
  let q := quarter dot cross
  (720 * q.1 + countEighths turns (turnForward halfTurn q.2)) % 2880

/-- The raw angle of a remapped lid and base sample (R24). -/
def rawAngleOf (lid base : Reading) : Nat :=
  rawAngle (lid.2.1 * base.2.2 + lid.2.2 * base.2.1) (lid.2.1 * base.2.1 - lid.2.2 * base.2.2)

/-! ### Filter and published value (R25 to R28) -/

/-- The signed shortest way round the circle from F to s (R26). -/
def circleDiff (s f : Nat) : Int :=
  let d := (s : Int) - f
  if 23039 < d then d - 46080 else if d < -23040 then d + 46080 else d

/-- The step d / 2^k, rounded with halves away from zero, and at least one unit for a d that is not 0 (R27). -/
def filterStep (k : Nat) (d : Int) : Int :=
  let m : Int := ((2 * d.natAbs + 2 ^ k) / 2 ^ (k + 1) : Nat)
  let m := if m = 0 ∧ d ≠ 0 then 1 else m
  if d < 0 then -m else m

/-- F and the snap counter after a valid sample with value v in VALID or HELD (R26, R27). -/
def filterAngle (s : Settings) (v f snap : Nat) : Nat × Nat :=
  let d := circleDiff v f
  if 128 * s.snapThreshold < d.natAbs then (if s.snapCount ≤ snap + 1 then (v, 0) else (f, snap + 1))
  else ((((f : Int) + filterStep s.smoothingShift d) % 46080).toNat, 0)

/-- The published angle of F (R28). -/
def publishedAngle (s : Settings) (side : SeamSide) (f : Nat) : Nat :=
  let n := (f + 8) / 16 % 2880
  match side with
  | .near => if 8 * s.b4 ≤ n then 0 else n
  | .far => if n < 8 * s.b1 then 2880 else n

/-- AE after a valid sample with value v (R25 to R28). -/
def Ae.valid (s : Settings) (side : SeamSide) (now : Time) (v : Nat) (base : Int × Int) (a : Ae) : Ae :=
  let r := if a.validity = .unknown then (v, 0) else filterAngle s v a.f a.snap
  { validity := .valid, reason := .none, f := r.1, snap := r.2, published := some (publishedAngle s side r.1)
    hold := startTimer now 2000, base := some base }

/-- AE after an invalid sample (R29). -/
def Ae.invalid (why : Reason) (a : Ae) : Ae :=
  { a with validity := if a.validity = .unknown then .unknown else .held, reason := why }

/-- AE made UNKNOWN (R18, R30, R31). -/
def Ae.lose (why : Reason) (a : Ae) : Ae :=
  { a with validity := .unknown, reason := why, snap := 0, published := none, hold := none, base := none }

/-! ### Deliveries and events (R18, R30 to R32) -/

/-- The angle, validity, reason and base of AE's present state (R32). -/
def Ae.delivery (a : Ae) : StoredDelivery := ⟨a.published, a.validity, a.reason, a.base⟩

/-- The delivery that AE makes now (R32), with the remapped lid sample of a lid arrival. -/
def deliveryNow (lid : Option Reading) (p : Part) : Delivery := ⟨p.ae.delivery, lid, p.tb⟩

/-- PC and OT each act on a delivery (R32). -/
def handDelivery (d : Delivery) (p : Part) : Part := orientationDelivery d (postureDelivery d.stored p)

/-- AE makes a delivery to PC and to OT (R32). -/
def deliver (lid : Option Reading) (p : Part) : Part := handDelivery (deliveryNow lid p) p

/-- AE becomes UNKNOWN at an event that is no lid arrival (R18, R31): a delivery is made only from VALID or HELD. -/
def loseAngle (why : Reason) (p : Part) : Part :=
  let q := { p with ae := p.ae.lose why }
  if p.ae.validity = .unknown then q else deliver none q

/-- The reason at a hold expiry (R30). -/
def expiryReason (h : HostState) (a : Ae) : Reason :=
  if a.validity = .valid then (if h = .off then .noBase else .none) else a.reason

/-- The hold timer expires (R30). -/
def holdExpired (p : Part) : Part :=
  deliver none { p with ae := p.ae.lose (expiryReason p.sa.hostState p.ae) }

/-- A lid sample reaches AE (R20): it is judged, filtered or held, and a delivery is made. -/
def lidSampleAngle (lid : Reading) (p : Part) : Part :=
  let s := p.sl.inForce
  let rl := s.lidMap.apply lid
  let a :=
    match failedCheck s p.bl.link p.sa.hostState p.tb p.bl.absent p.bl.sample lid, p.bl.sample with
    | none, some b =>
      let rb := s.baseMap.apply b.reading
      p.ae.valid s p.pc.seam p.tb (16 * rawAngleOf rl rb) rb.2
    | some why, _ => p.ae.invalid why
    | none, none => p.ae.invalid .noBase
  deliver (some rl) { p with ae := a }

/-- AE acts on new settings (R18); `old` are the settings before. -/
def angleSettings (old : Settings) (p : Part) : Part :=
  if old.lidMap ≠ p.sl.inForce.lidMap ∨ old.baseMap ≠ p.sl.inForce.baseMap then loseAngle .mounting p else p

end Sys2Proof.Machine
end

