-- ==== Sys2Proof/Machine/SensorPort.lean ====
section
/-! DEFINITION. The sensor port and PART_STATE (sections 1.1 and 1.2). -/

namespace Sys2Proof.Machine

/-- The identity of the supported accelerometer (1.2). -/
def sensorIdentity : Byte := 0x5C#8

/-- A try of a configuration step succeeds (R4). -/
def tryOk (t : ConfigTry) : Bool := t.identity == sensorIdentity && t.rangeHeld

/-- A configuration step succeeds: on its first try, or on its second (R4). -/
def configOk (first second : ConfigTry) : Bool := tryOk first || tryOk second

/-- An attempt at a sample succeeds (R7). -/
def attemptOk (t : SampleTry) : Bool := t.identity == sensorIdentity && t.ready

/-- The axes of an attempt. -/
def attemptReading (t : SampleTry) : Reading := (t.x.toInt, t.y.toInt, t.z.toInt)

/-- The axes of a good sample: those of the attempt, or of its retry (R7). -/
def sampleReading (attempt retry : SampleTry) : Option Reading :=
  if attemptOk attempt then some (attemptReading attempt)
  else if attemptOk retry then some (attemptReading retry) else none

/-- The sampling rate of a host state (1.2). -/
def rateOf : HostState → Rate
  | .running => .fast
  | .sleeping => .slow
  | .off => .stopped

/-- The period of a rate in ms (R6). -/
def Rate.period : Rate → Nat
  | .fast => 10
  | .slow => 80
  | .stopped => 0

/-- A due time, or none while the schedule is stopped (R9). -/
def Rate.due (r : Rate) (t : Time) : Option Time :=
  match r with
  | .stopped => none
  | .fast | .slow => some t

/-- PART_STATE leaves STARTING when the configuration step and the reset's work on XM have both ended (R5). -/
def leaveStarting (p : Part) : Part :=
  if p.partState = .starting ∧ p.sp.health ≠ .configuring ∧ p.resetWork = none then
    { p with partState := if p.sp.health = .faulted then .degraded else .ready }
  else p

/-- SENSOR_FAULT is raised (R10): by the sample with this due time, or the configuration step with this start. -/
def raiseSensorFault (due : Time) (p : Part) : Part :=
  let q := raiseFault .sensorFault
    { p with
      sp := { p.sp with
        health := .faulted, failureRun := 0, goodRun := 0, nextDue := p.sp.rate.due (later due 1000) }
      partState := if p.partState = .ready then .degraded else p.partState }
  settle (loseAngle .sensorFault q)

/-- The configuration step ends (R4, R5). -/
def configEnded (start : Time) (ok : Bool) (p : Part) : Part :=
  let q := { p with sp := { p.sp with flight := .none } }
  leaveStarting
    (if ok then { q with sp := { q.sp with health := .healthy, failureRun := 0, nextDue := q.sp.rate.due q.tb } }
     else raiseSensorFault start q)

/-- A due time comes on a grid (R6, R11): what is due starts unless something is in flight, and the grid goes on. -/
def dueComes (due : Time) (period : Nat) (what : Flight) (s : Sp) : Sp :=
  if s.flight = .none then { s with flight := what, nextDue := some (later due period) }
  else { s with nextDue := some (later due period) }

/-- A sample falls due (R6). -/
def sampleDue (due : Time) (s : Sp) : Sp :=
  let r := dueComes due s.rate.period (.sample due) s
  if s.flight = .none then { r with lastDue := some due } else r

/-- A good sample is delivered to AE and to SA (R8). -/
def deliverSample (v : Reading) (p : Part) : Part :=
  let fresh := p.sp.fresh
  let q := { p with sp := { p.sp with failureRun := 0, fresh := false } }
  settle (lidSampleTold v.1 v.2.1 v.2.2 fresh (lidSampleAngle v q))

/-- A sample fails (R10). -/
def sampleFailed (due : Time) (p : Part) : Part :=
  if 3 ≤ p.sp.failureRun + 1 then raiseSensorFault due p
  else { p with sp := { p.sp with failureRun := p.sp.failureRun + 1 } }

/-- A sample's outcome is known (R7, R8, R10). -/
def sampleEnded (due : Time) (v : Option Reading) (p : Part) : Part :=
  let q := { p with sp := { p.sp with flight := .none } }
  match v with
  | some v => deliverSample v q
  | none => sampleFailed due q

/-- SENSOR_FAULT clears at the attempt with this due time (R11). -/
def clearSensorFault (due : Time) (p : Part) : Part :=
  clearFault .sensorFault
    { p with
      sp := { p.sp with
        health := .healthy, failureRun := 0, goodRun := 0, fresh := true, lastDue := p.sp.rate.due due
        nextDue := p.sp.rate.due (later due p.sp.rate.period) }
      partState := if p.partState = .degraded then .ready else p.partState }

/-- A FAULTED attempt ends (R11). -/
def attemptEnded (due : Time) (good : Bool) (p : Part) : Part :=
  let q := { p with sp := { p.sp with flight := .none } }
  if good then
    (if 5 ≤ q.sp.goodRun + 1 then clearSensorFault due q
     else { q with sp := { q.sp with goodRun := q.sp.goodRun + 1 } })
  else { q with sp := { q.sp with goodRun := 0 } }

/-- The next due time at a change between RUNNING and SLEEPING (R9). One that is already past falls due at once (log entry
35). -/
def regrid (r : Rate) (s : Sp) : Option Time :=
  match s.health, s.lastDue with
  | .healthy, some d => some (later d r.period)
  | _, _ => s.nextDue

/-- SP takes a new host state (R9). -/
def sensorHostState (h : HostState) (now : Time) (s : Sp) : Sp :=
  let r := rateOf h
  match r, s.rate with
  | .stopped, _ => { s with rate := r, nextDue := none, lastDue := none }
  | _, .stopped =>
    { s with rate := r, fresh := true, nextDue := if s.health = .configuring then none else some now }
  | _, _ => { s with rate := r, nextDue := regrid r s }

end Sys2Proof.Machine
end

