-- ==== Sys2Proof/Machine/InputFilter.lean ====
section
/-! DEFINITION. The input filters (section 1.3): filtered levels, debounce, and the delivery of changes. -/

namespace Sys2Proof.Machine

/-- The debounce time in ms toward a state (1.3). -/
def debounceTime (i : Input) (toActive : Bool) : Nat :=
  match i, toActive with
  | .lidh, _ => 20
  | .foldh, _ => 20
  | .penh, _ => 50
  | .bpres, true => 100
  | .bpres, false => 10

/-- The filtered state of an input: active when its level is the active level in force (R13). -/
def filteredActive (s : Settings) (i : Input) (level : Bool) : Bool := level == s.activeHigh.get i

/-- The debounce timer after a change of the filtered state (R14). -/
def InputState.debounceFrom (now : Time) (i : Input) (active : Bool) (x : InputState) : InputState :=
  { x with timer := if active = x.debounced then none else startTimer now (debounceTime i active) }

/-- An input's state replaced. -/
def setInput (i : Input) (x : InputState) (p : Part) : Part := { p with inp := p.inp.set i x }

/-- A change of PENH's filtered state reaches CC as a raw event (R13); the other inputs have no raw path. -/
def rawChange (i : Input) (active : Bool) (p : Part) : Part :=
  match i with
  | .penh => rawPenh active p
  | .lidh | .foldh | .bpres => p

/-- A debounced change reaches the input's consumers (R14). -/
def debouncedChange (i : Input) (active : Bool) (p : Part) : Part :=
  match i with
  | .lidh => lidTold active (evaluatePosture p)
  | .foldh => evaluatePosture p
  | .penh => penTold active (debouncedPenh active p)
  | .bpres => presenceTold active p

/-- An input's filtered level changes (R13, R14). -/
def levelChanged (i : Input) (level : Bool) (p : Part) : Part :=
  let active := filteredActive p.sl.inForce i level
  let q := setInput i { p.inp.get i with level := level } p
  let q := rawChange i active q
  setInput i ((q.inp.get i).debounceFrom q.tb i active) q

/-- An input's debounce timer expires (R14). -/
def debounceExpired (i : Input) (p : Part) : Part :=
  let x := p.inp.get i
  let active := filteredActive p.sl.inForce i x.level
  settle (debouncedChange i active (setInput i { x with debounced := active, timer := none } p))

/-- An input whose active level has changed (R15); `old` are the settings before. -/
def inputSettings (old : Settings) (i : Input) (p : Part) : Part :=
  if old.activeHigh.get i = p.sl.inForce.activeHigh.get i then p
  else
    let x := p.inp.get i
    let active := filteredActive p.sl.inForce i x.level
    let q := rawChange i active (setInput i { x with timer := none } p)
    let q := setInput i { q.inp.get i with debounced := active } q
    if active = x.debounced then q else debouncedChange i active q

/-- The inputs act on new settings (R15), in the order LIDH, FOLDH, PENH, BPRES (log entry 36). -/
def inputsSettings (old : Settings) (p : Part) : Part :=
  inputSettings old .bpres (inputSettings old .penh (inputSettings old .foldh (inputSettings old .lidh p)))

/-- Filtering resumes after a reset (R16): an input whose filtered state is active starts its debounce. -/
def resumeInput (i : Input) (p : Part) : Part :=
  let x := p.inp.get i
  setInput i (x.debounceFrom p.tb i (filteredActive p.sl.inForce i x.level)) p

/-- Filtering resumes after a reset, for the four inputs. -/
def resumeInputs (p : Part) : Part :=
  resumeInput .bpres (resumeInput .penh (resumeInput .foldh (resumeInput .lidh p)))

end Sys2Proof.Machine
end

