-- ==== Sys2Proof/Machine/SettingsLoader.lean ====
section
/-! DEFINITION. The settings loader (sections 10.5 and 10.6): the structural checks, clamping, the lock, the settings a copy of the
area gives, and their coming into force. -/

namespace Sys2Proof.Machine

/-! ### The fields of the settings area (13.3) -/

/-- How a settings word is read (R171, R186). -/
inductive FieldKind where
  /-- A mounting map. -/
  | map
  /-- A number clamped into a range. -/
  | number (lo hi : Nat)
  /-- A value that the structural checks hold in its range. -/
  | checked
  /-- A set, with the bits of its domain. -/
  | set (domain : Word)
  /-- On and off, or an active level. -/
  | flag
  deriving DecidableEq, Repr

/-- The fields of the area but for the classes' (13.3): each an offset and a kind. -/
def plainFields : List (Nat × FieldKind) :=
  [(0x00, .map), (0x01, .map), (0x02, .number 1024 3584), (0x03, .number 4 32), (0x04, .number 0 4),
   (0x05, .number 10 90), (0x06, .number 1 8), (0x08, .checked), (0x09, .checked), (0x0A, .checked), (0x0B, .checked),
   (0x0C, .number 0 5), (0x0D, .number 100 2000), (0x0E, .set 0x007E#16)]
  ++ [(0x10, .number 100 3000), (0x11, .number 0 4), (0x12, .number 512 3072), (0x13, .set 0x00FF#16), (0x14, .flag),
   (0x18, .flag), (0x19, .flag), (0x1A, .flag), (0x1B, .flag)]
  ++ [(0x20, .number 50 2000), (0x21, .number 20 1000), (0x22, .number 1 20), (0x23, .number 1 10),
   (0x24, .number 10 200), (0x25, .number 1 5), (0x26, .number 5 100), (0x27, .number 1 4), (0x28, .set 0x001E#16)]
  ++ [(0x30, .number 200 2000), (0x31, .number 1000 10000), (0x32, .number 10 50), (0x33, .number 10 300),
   (0x34, .number 80 99), (0x35, .number 100 500), (0x36, .number 0 100), (0x37, .number 0 100), (0x38, .number 0 100),
   (0x3C, .number 0 7500), (0x3D, .number 0 7500), (0x3E, .number 0 7500)]
  ++ [(0x40, .flag), (0x41, .number 500 10000), (0x42, .number 0 3600), (0x43, .flag), (0x44, .flag),
   (0x45, .number 100 4000), (0x46, .flag), (0x47, .number 250 5000)]

/-- The offset of a class's priority word; the mask and the wake enable follow it (13.3). -/
def classOffset (c : NoticeClass) : Nat := 0x50 + 3 * classNumber c

/-- The fields of a class. -/
def classFields (c : NoticeClass) : List (Nat × FieldKind) :=
  [(classOffset c, .checked), (classOffset c + 1, .flag), (classOffset c + 2, .flag)]

/-- Every field of the area, by ascending offset. -/
def fields : List (Nat × FieldKind) := plainFields ++ allClasses.flatMap classFields

/-- The word at an offset of a copy of the area. -/
def wordAt (ws : List Word) (off : Nat) : Word := (ws[off]?).getD 0#16

/-- The number at an offset of a copy of the area (R186). -/
def numAt (ws : List Word) (off : Nat) : Nat := (wordAt ws off).toNat

/-! ### Structural checks (R170) -/

/-- The three source fields of a mounting map word. -/
def mapSources (w : Word) : Nat × Nat × Nat :=
  ((w.extractLsb' 0 2).toNat, (w.extractLsb' 4 2).toNat, (w.extractLsb' 8 2).toNat)

/-- A mounting map word is an offence (R170, R186). -/
def badMap (w : Word) : Bool :=
  let (x, y, z) := mapSources w
  x == 3 || y == 3 || z == 3 || x == y || x == z || y == z

/-- A boundary is an offence (R170): outside 5..355, or, after the first, less than 10 above the one before it. -/
def badBoundary (ws : List Word) (off : Nat) : Bool :=
  let b := numAt ws off
  decide (b < 5) || decide (355 < b) || (off != 0x08 && decide (b < numAt ws (off - 1) + 10))

/-- A temperature of the proposal, clamped into 0..100 (R170). -/
def tempAt (ws : List Word) (off : Nat) : Nat := min 100 (numAt ws off)

/-- The offsets of the offending words (R170). -/
def offences (ws : List Word) : List Nat :=
  [0x00, 0x01].filter (fun o => badMap (wordAt ws o))
    ++ [0x08, 0x09, 0x0A, 0x0B].filter (badBoundary ws)
    ++ (if tempAt ws 0x37 ≤ tempAt ws 0x36 then [0x37] else [])
    ++ (if tempAt ws 0x38 ≤ tempAt ws 0x37 then [0x38] else [])
    ++ (allClasses.map classOffset).filter (fun o => decide (7 < numAt ws o))

/-! ### Clamping and the lock (R171) -/

/-- The word that a field's word is clamped to (R171). -/
def clampWord (k : FieldKind) (w : Word) : Word :=
  match k with
  | .map => w
  | .number lo hi => word (clampNat lo hi w.toNat)
  | .checked => w
  | .set d => w &&& d
  | .flag => if w = 0#16 then 0#16 else 1#16

/-- Every field's word after clamping, by ascending offset. -/
def clampedFields (ws : List Word) : List (Nat × Word) := fields.map fun f => (f.1, clampWord f.2 (wordAt ws f.1))

/-- The locked fields but for the temperatures, with their words in force (10.5). -/
def lockedWords (s : Settings) : List (Nat × Word) :=
  [(0x28, s.classMask.setWidth 16), (0x35, word s.ceiling), (0x3C, word s.bRunning), (0x3D, word s.bSleeping),
   (0x3E, word s.bOff)]

/-- The locked temperatures, kept as a whole, with their words in force (10.5). -/
def lockedTriple (s : Settings) : List (Nat × Word) :=
  [(0x36, word s.tDerate), (0x37, word s.tResume), (0x38, word s.tStop)]

/-- The word of an offset in a list of words by offset. -/
def lookupWord (off : Nat) (l : List (Nat × Word)) : Option Word := (l.find? (fun r => r.1 == off)).map (·.2)

/-- The fields that the lock keeps, with their words in force (R171). -/
def keptFields (lock : Bool) (s : Settings) (clamped : List (Nat × Word)) : List (Nat × Word) :=
  if lock then
    (lockedWords s).filter (fun r => lookupWord r.1 clamped != some r.2)
      ++ (if (lockedTriple s).any (fun r => lookupWord r.1 clamped != some r.2) then lockedTriple s else [])
  else []

/-- The result of R171. -/
structure Judged where
  /-- Every field's resulting word, by ascending offset. -/
  words : List (Nat × Word)
  /-- The fields clamped or kept, with their resulting words. -/
  written : List (Nat × Word)
  /-- The result code. -/
  code : Word
  deriving DecidableEq, Repr

/-- A proposal that passes the checks is clamped and held against the lock (R171). -/
def judgeProposal (lock : Bool) (s : Settings) (ws : List Word) : Judged :=
  let clamped := clampedFields ws
  let kept := keptFields lock s clamped
  let adjusted := clamped.filter fun r => r.2 != wordAt ws r.1 && (lookupWord r.1 kept).isNone
  { words := clamped.map (fun r => (r.1, (lookupWord r.1 kept).getD r.2))
    written := kept ++ adjusted
    code := if !kept.isEmpty then rcLockedKept else if !adjusted.isEmpty then rcAdjusted else rcOk }

/-! ### Settings from words -/

/-- An axis from a map's source field. -/
def axisOf (n : Nat) : Axis :=
  match n with
  | 0 => .x
  | 1 => .y
  | _ => .z

/-- A mounting map from its word (13.3). -/
def mapOf (w : Word) : MountingMap :=
  let (x, y, z) := mapSources w
  ⟨⟨axisOf x, w.getLsbD 2⟩, ⟨axisOf y, w.getLsbD 6⟩, ⟨axisOf z, w.getLsbD 10⟩⟩

/-- A class's settings from the words of the fields. -/
def classSettingOf (get : Nat → Word) (c : NoticeClass) : ClassSetting :=
  ⟨(get (classOffset c)).toNat, get (classOffset c + 1) != 0#16, get (classOffset c + 2) != 0#16⟩

/-- The settings from the words of the fields (13.3). -/
def Settings.ofWords (fieldWords : List (Nat × Word)) : Settings :=
  let get := fun off => (lookupWord off fieldWords).getD 0#16
  let num := fun off => (get off).toNat
  let on := fun off => get off != 0#16
  let set := fun off => (get off).setWidth 8
  let cls := classSettingOf get
  { lidMap := mapOf (get 0x00), baseMap := mapOf (get 0x01), projectionFloor := num 0x02, motionTolerance := num 0x03
    smoothingShift := num 0x04, snapThreshold := num 0x05, snapCount := num 0x06
    b1 := num 0x08, b2 := num 0x09, b3 := num 0x0A, b4 := num 0x0B, hysteresis := num 0x0C, postureDwell := num 0x0D
    suppressionMask := set 0x0E, orientationDwell := num 0x10, orientationHysteresis := num 0x11, tiltFloor := num 0x12
    rotateMask := set 0x13, orientationLock := on 0x14, activeHigh := ⟨on 0x18, on 0x19, on 0x1A, on 0x1B⟩
    stallIdle := num 0x20, minHibernate := num 0x21, activateTime := num 0x22, lineReset := num 0x23
    helloTimeout := num 0x24, helloAttempts := num 0x25, replyTimeout := num 0x26, replyAttempts := num 0x27
    classMask := set 0x28, chargePeriod := num 0x30, toppedPeriod := num 0x31, prechargeCurrent := num 0x32
    prechargeTime := num 0x33, rechargeThreshold := num 0x34, ceiling := num 0x35, tDerate := num 0x36
    tResume := num 0x37, tStop := num 0x38, bRunning := num 0x3C, bSleeping := num 0x3D, bOff := num 0x3E
    closeSleep := on 0x40, closeGrace := num 0x41, inactivityTime := num 0x42, penWake := on 0x43, pickupWake := on 0x44
    pickupThreshold := num 0x45, keepAwake := on 0x46, wakeRetry := num 0x47
    classes := ⟨cls .advice, cls .posture, cls .orientation, cls .keys, cls .base, cls .pen, cls .charge, cls .fault,
      cls .request⟩ }

/-! ### Into force (R172) -/

/-- SETTINGS_REJECTED leaves the active fault set, where it stands in it, at an APPLY that completes (R172 step 3). -/
def clearRejected (p : Part) : Part :=
  if (p.nu.faults &&& FaultName.settingsRejected.set) = 0#7 then p else clearFault .settingsRejected p

/-- New settings come into force, and the blocks act on the changes (R172 step 2): IF, AE, PC, OT, CC, SA and NU in this order
(log entry 4), then the link. -/
def bringIntoForce (s : Settings) (p : Part) : Part :=
  let old := p.sl.inForce
  let q := { p with sl := { p.sl with inForce := s } }
  let q := postureSettings old (angleSettings old (inputsSettings old q))
  let q := chargeSettings old q.sa.hostState (orientationSettings old q)
  settle (nuSettings old (advisorSettings old q))

/-- An APPLY_SETTINGS ends its work (R172 steps 2 to 4). -/
def applied (s : Settings) (code : Word) (p : Part) : Part :=
  let q := clearRejected (bringIntoForce s p)
  let r := { q with sl := { q.sl with op := .idle, current := none } }
  match p.sl.current with
  | some req => completeDone req code [] r
  | none => r

/-- The settings snapshot has ended with this copy of the area (R170, R171). -/
def snapshotJudged (ws : List Word) (p : Part) : Part :=
  match offences ws with
  | off :: _ =>
    let r := { p with sl := { p.sl with op := .idle, current := none } }
    (match p.sl.current with
     | some req => complete ⟨req.slot, false, rcBadSetting, resultData [word off]⟩ r
     | none => r)
  | [] =>
    let j := judgeProposal p.sl.lock p.sl.inForce ws
    let s := Settings.ofWords j.words
    match j.written with
    | [] => applied s j.code p
    | _ => beginHold (settingsBase, 224) { p with sl := { p.sl with op := .writeBack j.written s j.code } }

/-- SL takes an APPLY_SETTINGS: the settings snapshot starts (R170). -/
def takeApply (r : Request) (p : Part) : Part :=
  beginHold (settingsBase, 224) { p with sl := { p.sl with current := some r, op := .snapshot } }

/-! ### The soft-reset apply (R173) -/

/-- The words of the whole area at their defaults, by offset. -/
def defaultArea : List (Nat × Word) := (List.range 224).map fun o => (o, settingsDefault o)

/-- The soft-reset apply of a copy of the area: the starting settings, the words that the reset's work writes, and whether the
area was refused (R173). -/
def softApply (ws : List Word) : Settings × ResetWork :=
  match offences ws with
  | _ :: _ => (Settings.default, ⟨defaultArea, true⟩)
  | [] =>
    let j := judgeProposal false Settings.default ws
    (Settings.ofWords j.words, ⟨j.written, false⟩)

end Sys2Proof.Machine
end

