-- ==== Sys2Proof/WellFormed.lean ====
section
/-! DEFINITION. Well-formed commands: the operands a command can carry. The meanings are total on ill-formed commands too. -/

namespace Sys2Proof

/-- The longest base frame has HEAD, LEN, 24 payload characters and CHECK (R54). -/
def maxFrameChars : Nat := 27

/-- The command bytes of 13.7 that name a READ, WRITE, UPDATE or PORT READ. -/
def namesTransaction (b : Byte) : Bool :=
  b == 0x0B#8 || b == 0x02#8 || b == 0x0D#8 || b == 0x05#8

/-- All noisy characters of a frame. -/
def NoiseCount.total (n : NoiseCount) : Nat := n.earlier + n.present

/-- The characters complete in an earlier link state come first. -/
def earlierFirst (cs : List RxChar) : Bool := (cs.dropWhile (·.earlier)).all (!·.earlier)

/-- The operands of a command are ones that can occur. -/
def Instr.wellFormed : Instr → Bool
  | .lineBreakReceived n => n.total ≤ maxFrameChars
  | .frameGapTimeout n => n.total ≤ maxFrameChars
  | .frameDiscard cs => 1 ≤ cs.length && cs.length ≤ maxFrameChars && earlierFirst cs
  | .hello n _ _ _ _ => n.total ≤ 9
  | .keys n _ es _ => 1 ≤ es.length && es.length ≤ 6 && n.total ≤ 2 * es.length + 5
  | .motion n _ _ _ _ _ => n.total ≤ 10
  | .status n _ _ _ _ hs => hs.length ≤ 16 && n.total ≤ hs.length + 8
  | .reply n _ _ _ _ => n.total ≤ 7
  | .xmWordWrite a _ => a != 2#16 && a != 4#16 && a != 5#16
  | .unknownCommand b => !namesTransaction b
  | .fullReset | .softReset | .resetWorkEnd | .tbTick | .configurationStepEnd .. | .sampleDue | .sampleArrival ..
  | .faultAttemptDue | .faultAttemptEnd .. | .filteredLevelChange .. | .debounceExpiry .. | .holdTimerExpiry
  | .postureDwellExpiry | .orientationDwellExpiry | .exchangeSent | .replyTimerExpiry | .powerGoodExpiry
  | .lineResetEnd | .activateTimeExpiry | .helloTimerExpiry | .stallIdleExpiry | .minimumHibernateExpiry
  | .wakeBreakEnd | .baseRetry | .profileSnapshotEnd | .baseAttribute | .profileReload | .settlingExpiry | .windowDue
  | .quietEnd | .breakEnd | .pollSent | .syncStart | .syncWaitExpiry | .syncMeasureTimeout | .syncReceived ..
  | .reportStart | .reportWaitExpiry | .reportGapTimeout | .report .. | .grantSent | .prechargeExpiry
  | .overcurrent .. | .cooldownExpiry | .faultHistoryExpiry | .penControlStop | .penControlResume
  | .penControlClearLockout | .penControlBadArg | .setHostState | .inactivityExpiry | .graceExpiry
  | .recordPublicationEnd .. | .wakePulseEnd | .wakeRepeatExpiry | .acknowledge | .take .. | .endService ..
  | .attention .. | .slotCompletionEnd | .read .. | .write .. | .update .. | .portRead .. | .transactionEnd
  | .applySettings | .settingsSnapshotEnd | .lockSettings | .timeCapture | .countersRead | .countersReadAndClear
  | .countersBadArg | .badKind | .refresh | .resetnRelease .. | .profileResultWriteEnd | .settingsWriteBackEnd => true

end Sys2Proof
end

