-- ==== Sys2Proof/Machine/HostPort.lean ====
section
/-! DEFINITION. The exchange memory as the host sees it, and the host port (chapter 9); and the acceptance of posted slots
(section 10.2). -/

namespace Sys2Proof.Machine

/-- A part replaced in the state. -/
def State.withPart (p : Part) (s : State) : State := { s with part := p }

/-- An operation on the part. -/
def State.on (f : Part → Part) (s : State) : State := { s with part := f s.part }

/-! ### Control words (13.2) -/

/-- IN_SERVICE: a bit for each class IN_SERVICE. -/
def inServiceWord (n : Nu) : Word :=
  allClasses.foldl (fun w c => if (n.classes.get c).inService then w ||| (1#16 <<< classNumber c) else w) 0#16

/-- A shadow is held; for KEYS, the key queue is not empty (R174). -/
def shadowHeld (p : Part) (c : NoticeClass) : Bool :=
  match c with
  | .keys => !p.kt.queue.isEmpty
  | _ => (p.nu.classes.get c).shadow.isSome

/-- A class state word (13.2). -/
def classStateWord (p : Part) (c : NoticeClass) : Word :=
  let cell := p.nu.classes.get c
  word cell.state.code ||| (flagWord cell.publishing.isSome <<< 2) ||| (flagWord (shadowHeld p c) <<< 3)

/-- The control word at an address below 0x20, read without side effect; ACKNOWLEDGE reads 0xFFFF so (R154). -/
def controlWord (p : Part) (a : Nat) : Word :=
  match a with
  | 0x00 => 1#16
  | 0x01 => word p.partState.code
  | 0x02 => p.rq.attention.setWidth 16
  | 0x03 => 0xFFFF#16
  | 0x06 => inServiceWord p.nu
  | 0x07 => word p.sa.hostState.code
  | 0x11 => word p.rq.badAttention
  | 0x12 => word p.nu.badService
  | _ =>
    if 0x08 ≤ a ∧ a ≤ 0x10 then
      (match allClasses[a - 8]? with
       | some c => classStateWord p c
       | none => 0#16)
    else 0#16

/-- The word at an address of XM as it stands, without side effect. -/
def peek (s : State) (a : Nat) : Word := if a < 0x20 then controlWord s.part a else s.xm.read a

/-! ### Rights and outcomes (R154, R156) -/

/-- The slot that an address of the slots' region lies in. -/
def slotOf (a : Nat) : Nat := (a - 0x100) / 32

/-- The state word of a slot: ACCEPTED (13.4). -/
def slotAccepted : Word := 2#16

/-- The host may write this word there, holds apart (R156, 13.1). -/
def hostMayWrite (m : Memory) (a : Nat) (w : Word) : Bool :=
  if a < 0x20 then a == 2 || a == 4 || a == 5
  else if a < 0x100 then true
  else if a < 0x200 then
    let base := slotBase (slotOf a)
    m.read base != slotAccepted && (a != base || w == 0#16 || w == 1#16)
  else if a < 0x3B0 then false
  else if a < 0x440 then true
  else decide (0x460 ≤ a)

/-- The outcome of a read (R154). -/
def readOutcome (s : State) (a : Nat) : Access :=
  if 0x7FF < a then .range else if isHeld s.part a then .retry else .ok

/-- The outcome of a write or update aimed at an address with a new word (R154). -/
def writeOutcome (s : State) (a : Nat) (w : Word) : Access :=
  if 0x7FF < a then .range
  else if !hostMayWrite s.xm a w then .prot
  else if isHeld s.part a then .retry
  else .ok

/-- The severity of an outcome, and its code in PORT STATUS (R154, 13.7). -/
def Access.code : Access → Nat
  | .ok => 0
  | .retry => 1
  | .prot => 2
  | .range => 3

/-- The more severe of two outcomes (R154). -/
def Access.worse (a b : Access) : Access := if a.code ≤ b.code then b else a

/-! ### Attention (R163) -/

/-- The state word of a slot: POSTED (13.4). -/
def slotPosted : Word := 1#16

/-- The request that a slot posts, read at acceptance. -/
def slotRequest (s : State) (n : Nat) : Request :=
  ⟨n, s.xm.read (slotBase n + 1), s.xm.readAll (slotBase n + 3) 13, s.part.tb⟩

/-- A slot that reads POSTED is accepted and its request routed (R163, R164). -/
def acceptSlot (n : Nat) (s : State) : State :=
  { s with
    xm := s.xm.write (slotBase n) slotAccepted
    part := { s.part with rq := route (slotRequest s n) s.part.rq } }

/-- RQ examines one attention bit (R163): the bit is cleared, and a slot that reads POSTED is accepted. -/
def examineBit (n : Nat) (s : State) : State :=
  if s.part.rq.attention.getLsbD n then
    let r := s.on fun p => { p with rq := { p.rq with attention := p.rq.attention &&& ~~~(1#8 <<< n) } }
    if r.xm.read (slotBase n) = slotPosted then acceptSlot n r
    else r.on fun p => { p with rq := { p.rq with badAttention := bump p.rq.badAttention 1 } }
  else s

/-- RQ examines every bit set, in ascending slot order (R163). -/
def examineAll (s : State) : State := [0, 1, 2, 3, 4, 5, 6, 7].foldl (fun s n => examineBit n s) s

/-- A write of ATTENTION (R157, R163): bits join, and a newly set one is an attention event, whose whole
pass runs with the access (log entry 43). -/
def writeAttention (w : Word) (s : State) : State :=
  let bits : BitVec 8 := w.setWidth 8
  let r := s.on fun p => { p with rq := { p.rq with attention := p.rq.attention ||| bits } }
  if bits &&& ~~~s.part.rq.attention = 0#8 then r else examineAll r

/-! ### Word accesses (R151 to R154, R157) -/

/-- A write with outcome OK is carried out (R157). -/
def carryOut (a : Nat) (w : Word) (s : State) : State :=
  match a with
  | 2 => writeAttention w s
  | 4 => s.on (takeClass w)
  | 5 => s.on (endServiceOf w)
  | _ => { s with xm := s.xm.write a w }

/-- The outcome of an access joins the transaction, whose address counter moves on to `next` (R151, R154). -/
def noteAccess (o : Access) (next : Nat) (s : State) : State :=
  s.on fun p =>
    match p.hp.trans with
    | some t => { p with hp := { p.hp with trans := some { t with worst := t.worst.worse o, next := next } } }
    | none => p

/-- A word is returned on HMISO. -/
def returnWord (w : Word) (s : State) : State :=
  s.on fun p => { p with hp := { p.hp with out := p.hp.out ++ [w] } }

/-- The value of a read with outcome OK, with the claim of a read of ACKNOWLEDGE (R157). -/
def fetch (a : Nat) (s : State) : Word × State :=
  if a = 3 then
    let r := claim s.part
    (r.1, s.withPart r.2)
  else (peek s a, s)

/-- One word access of a READ (R151, R154). -/
def readWord (a : Nat) (s : State) : State :=
  let o := readOutcome s a
  match o with
  | .ok =>
    let r := fetch a s
    noteAccess o (a + 1) (returnWord r.1 r.2)
  | .range => noteAccess o (a + 1) (returnWord 0#16 s)
  | .retry | .prot => noteAccess o (a + 1) (returnWord 0xFFFF#16 s)

/-- One word access of a WRITE (R152, R154). -/
def writeWord (a : Nat) (w : Word) (s : State) : State :=
  let o := writeOutcome s a w
  match o with
  | .ok => noteAccess o (a + 1) (carryOut a w s)
  | .retry | .prot | .range => noteAccess o (a + 1) s

/-- The word access of an UPDATE (R153, R154). -/
def updateWord (a : Nat) (expected new : Word) (s : State) : State :=
  let o := writeOutcome s a new
  let old := peek s a
  match o with
  | .ok => noteAccess o (a + 1) (returnWord old (if old = expected then carryOut a new s else s))
  | .prot => noteAccess o (a + 1) (returnWord old s)
  | .retry => noteAccess o (a + 1) (returnWord 0xFFFF#16 s)
  | .range => noteAccess o (a + 1) (returnWord 0#16 s)

/-- The word accesses of a READ, one after another (R151). -/
def readWords : Nat → Nat → State → State
  | _, 0, s => s
  | a, n + 1, s => readWords (a + 1) n (readWord a s)

/-- The word accesses of a WRITE, one after another (R152). -/
def writeWords : Nat → List Word → State → State
  | _, [], s => s
  | a, w :: ws, s => writeWords (a + 1) ws (writeWord a w s)

/-! ### Transactions (R150, R154, R155) -/

/-- HP takes a transaction: RESETN is high, and HCS has risen since it rose (R160). -/
def portFree (p : Part) : Bool := !p.resetLow && !p.hp.blocked

/-- HCS rises on the transaction in progress: its status is stored, and the holds it kept end with it (R154, R158). -/
def endTrans (p : Part) : Part :=
  match p.hp.trans with
  | some t => { p with hp := { p.hp with status := t.worst, trans := none } }
  | none => p

/-- A transaction begins; HCS has risen on one that was in progress (log entry 16). -/
def beginTrans (k : TransKind) (a : Nat) (p : Part) : Part :=
  let q := endTrans p
  { q with hp := { q.hp with trans := some ⟨k, a, .ok, []⟩, out := [] } }

/-- The transaction in progress goes on where its direction and address counter are these; else one begins (log entry 16). -/
def openTrans (k : TransKind) (a : Nat) (p : Part) : Part :=
  match p.hp.trans with
  | some t => if t.kind = k ∧ t.next = a then p else beginTrans k a p
  | none => beginTrans k a p

/-- Words read from an address on (R151). -/
def hostRead (a n : Nat) (s : State) : State :=
  if portFree s.part then readWords a n (s.on (openTrans .read a)) else s

/-- Words written from an address on (R152). -/
def hostWrite (a : Nat) (ws : List Word) (s : State) : State :=
  if portFree s.part then writeWords a ws (s.on (openTrans .write a)) else s

/-- The transaction of an UPDATE whose new word is complete: the UPDATE under way with this address and expected word goes on,
keeping the holds that began during it (R158); else one begins (log entry 16). -/
def openUpdate (expected : Word) (a : Nat) (p : Part) : Part :=
  match p.hp.trans with
  | some t =>
    if t.kind = .update expected ∧ t.next = a then { p with hp := { p.hp with trans := some { t with kind := .other } } }
    else beginTrans .other a p
  | none => beginTrans .other a p

/-- An UPDATE (R153). One whose new word is not yet complete makes no access, and is cut short where HCS rises then. -/
def hostUpdate (a : Nat) (expected : Word) (new : Option Word) (s : State) : State :=
  if portFree s.part then
    match new with
    | some w => updateWord a expected w (s.on (openUpdate expected a))
    | none => s.on (beginTrans (.update expected) a)
  else s

/-- The word that PORT STATUS reads (13.7). -/
def portStatus (p : Part) : Word := word p.hp.status.code ||| (flagWord p.partState.isReady <<< 15)

/-- IDENT (R155, 13.7). -/
def identWord : Word := 0xCF42#16

/-- A PORT READ (R155). -/
def hostPortRead (index : Byte) (s : State) : State :=
  if portFree s.part then
    let r := s.on (beginTrans .other 0)
    if index = 0#8 then returnWord identWord r
    else if index = 1#8 then returnWord (portStatus r.part) r
    else noteAccess .range 0 (returnWord 0#16 r)
  else s

/-- A command byte that names no transaction, or a SOFT RESET that is not taken, has status RANGE; one that names another and
goes no further has status OK (R150, R159). -/
def hostUnknown (b : Byte) (s : State) : State :=
  if portFree s.part then
    let r := s.on (beginTrans .other 0)
    if namesTransaction b then r else noteAccess .range 0 r
  else s

/-- The condition of HMISO after a command (R150, R160): high-impedance while RESETN is low or HCS is high; within a transaction,
the word returned last, which stands until HSCK falls again, or high where the part has no data to send. A WRITE, and an UPDATE
whose new word is not complete, return nothing (R152, R153). Log entry 56 has HCS still low from a reset. -/
def hmiso (p : Part) : Hmiso :=
  if p.resetLow then .highImpedance
  else match p.hp.trans with
    | none => if p.hp.blocked && Config.hmisoDrivenWaiting then .high else .highImpedance
    | some t =>
      match t.kind with
      | .write | .update _ => .high
      | .read | .other =>
        match p.hp.out.getLast? with
        | some w => .data w
        | none => .high

/-- HCS rises (R154, R160). -/
def hostTransEnd (p : Part) : Part :=
  if p.resetLow then p
  else if p.hp.blocked then { p with hp := { p.hp with blocked := false } }
  else endTrans p

end Sys2Proof.Machine
end

