-- ==== Sys2Proof/Machine/Resets.lean ====
section
/-! DEFINITION. The full and the soft reset, and the end of the reset's work on XM (R5, R159 to R161, R173, R174). -/

namespace Sys2Proof.Machine

/-- The levels of the four pins. -/
def pinLevels (p : Part) : PerInput Bool :=
  ⟨p.inp.lidh.level, p.inp.foldh.level, p.inp.penh.level, p.inp.bpres.level⟩

/-- What starts when a reset ends: the configuration step (R4), the inactivity timer (R137), and the debounces of the inputs
whose filtered state is active (R16). -/
def startAfterReset (p : Part) : Part :=
  resumeInputs (restartInactivity { p with sp := { p.sp with flight := .config p.tb } })

/-- A full reset begins (R160): every block takes its reset values, and XM the full reset's contents. -/
def fullReset (s : State) : State :=
  { s with part := Part.reset (pinLevels s.part) Settings.default ⟨[], false⟩ true, xm := [] }

/-- RESETN rises (R160): the reset ends. With HCS already low the port waits until it has risen. -/
def releaseReset (hcsLow : Bool) (p : Part) : Part :=
  startAfterReset { p with resetLow := false, hp := { p.hp with blocked := hcsLow } }

/-- A soft reset keeps the words of this address (R161): the settings area, the profile table and the host area. -/
def keptAtSoftReset (a : Nat) : Bool :=
  (0x20 ≤ a && a < 0x100) || (0x3B0 ≤ a && a < 0x440) || 0x460 ≤ a

/-- A soft reset is taken (R159, R161, R173): every block takes its reset values, the slots, records and result words read 0,
and the settings that the area gives are the starting settings. The words of the apply's write-back are written when the
reset's work ends, under its hold. -/
def softReset (s : State) : State :=
  let r := softApply (s.xm.readAll settingsBase 224)
  { s with
    part := startAfterReset (Part.reset (pinLevels s.part) r.1 r.2 false)
    xm := s.xm.filter fun c => keptAtSoftReset c.1 }

/-- The offers made while the reset's work ran are taken in order (R174). -/
def takeDeferred (p : Part) : Part :=
  p.nu.deferred.foldl (fun q o => takeOffer o q) { p with nu := { p.nu with deferred := [] } }

/-- A held operation that fell due during the reset's work begins (R158). -/
def beginDueHold (p : Part) : Part :=
  match p.pw.op.range with
  | some r => beginHold r p
  | none => p

/-- The reset's work on XM has ended (R5, R158, R173, R174). A SETTINGS_REJECTED is taken before the offers deferred meanwhile
(log entry 42). -/
def workEnded (w : ResetWork) (p : Part) : Part :=
  let q := { p with resetWork := none }
  let q := if w.rejected then raiseFault .settingsRejected q else q
  leaveStarting (beginDueHold (takeDeferred q))

end Sys2Proof.Machine
end

