-- ==== Sys2Proof/Machine/ResetCommands.lean ====
section
/-! DEFINITION. The meanings of the resets and the time base: FULL_RESET, RESETN_RELEASE, SOFT_RESET, RESET_WORK_END, TB_TICK. -/

namespace Sys2Proof.Machine

/-- What a command answers. -/
abbrev Answer := Host.Outcome State Fault Refusal

/-- FULL_RESET (R160). -/
def execFullReset (s : State) : Answer := .next (fullReset s)

/-- RESETN_RELEASE (R160): the full reset ends; without a full reset in force nothing happens. -/
def execResetnRelease (hcsLow : Bool) (s : State) : Answer :=
  if s.part.resetLow then .next (s.on (releaseReset hcsLow)) else .next s

/-- SOFT_RESET (R159), while the port takes transactions. -/
def execSoftReset (s : State) : Answer := if portFree s.part then .next (softReset s) else .next s

/-- The reset's work writes its words and ends (R160, R161). -/
def finishWork (w : ResetWork) (s : State) : State :=
  { s with part := workEnded w s.part, xm := s.xm.writeAt settingsBase w.writes }

/-- RESET_WORK_END (R5), while the reset's work runs. -/
def execResetWorkEnd (s : State) : Answer :=
  match s.part.resetWork, s.part.resetLow with
  | some w, false => .next (finishWork w s)
  | _, _ => .next s

/-- TB advances by one, wrapping (R1). -/
def tick (p : Part) : Part := { p with tb := p.tb + 1#32 }

/-- TB_TICK (R1); TB counts from the moment a reset ends. -/
def execTbTick (s : State) : Answer := if s.part.resetLow then .next s else .next (s.on tick)

end Sys2Proof.Machine
end

