-- ==== Sys2Proof/Machine/SensorCommands.lean ====
section
/-! DEFINITION. The meanings of the sensor port, the inputs, and the timers of the angle, posture and orientation. -/

namespace Sys2Proof.Machine

/-- CONFIGURATION_STEP_END (R4). -/
def execConfigurationStepEnd (first second : ConfigTry) (s : State) : Answer :=
  match s.part.sp.flight with
  | .config start => .next (s.on (configEnded start (configOk first second)))
  | _ => .next s

/-- SP samples: HEALTHY, and the due time has come (R6). -/
def sampleDueNow (p : Part) : Option Time :=
  match p.sp.health, p.sp.nextDue with
  | .healthy, some d => if reached p.tb d then some d else none
  | _, _ => none

/-- SAMPLE_DUE (R6). -/
def execSampleDue (s : State) : Answer :=
  match sampleDueNow s.part with
  | some d => .next (s.on fun p => { p with sp := sampleDue d p.sp })
  | none => .next s

/-- SAMPLE_ARRIVAL (R7). -/
def execSampleArrival (attempt retry : SampleTry) (s : State) : Answer :=
  match s.part.sp.flight with
  | .sample due => .next (s.on (sampleEnded due (sampleReading attempt retry)))
  | _ => .next s

/-- SP makes an attempt: FAULTED, and the due time has come (R11). -/
def attemptDueNow (p : Part) : Option Time :=
  match p.sp.health, p.sp.nextDue with
  | .faulted, some d => if reached p.tb d then some d else none
  | _, _ => none

/-- FAULT_ATTEMPT_DUE (R11). -/
def execFaultAttemptDue (s : State) : Answer :=
  match attemptDueNow s.part with
  | some d => .next (s.on fun p => { p with sp := dueComes d 1000 (.attempt d) p.sp })
  | none => .next s

/-- A FAULTED attempt is good: its configuration step succeeds, and its sample is good (R11). -/
def attemptGood (first second : ConfigTry) (attempt retry : SampleTry) : Bool :=
  configOk first second && (sampleReading attempt retry).isSome

/-- FAULT_ATTEMPT_END (R11). -/
def execFaultAttemptEnd (first second : ConfigTry) (attempt retry : SampleTry) (s : State) : Answer :=
  match s.part.sp.flight with
  | .attempt due => .next (s.on (attemptEnded due (attemptGood first second attempt retry)))
  | _ => .next s

/-- FILTERED_LEVEL_CHANGE (R13): while RESETN is low the pin's level alone is kept. -/
def execFilteredLevelChange (i : Input) (high : Bool) (s : State) : Answer :=
  if (s.part.inp.get i).level = high then .next s
  else if s.part.resetLow then .next (s.on fun p => setInput i { p.inp.get i with level := high } p)
  else .next (s.on (levelChanged i high))

/-- DEBOUNCE_EXPIRY (R14). -/
def execDebounceExpiry (i : Input) (s : State) : Answer :=
  if timerDue (s.part.inp.get i).timer s.part.tb then .next (s.on (debounceExpired i)) else .next s

/-- HOLD_TIMER_EXPIRY (R30). -/
def execHoldTimerExpiry (s : State) : Answer :=
  if timerDue s.part.ae.hold s.part.tb then .next (s.on fun p => settle (holdExpired p)) else .next s

/-- A posture dwell expires: the publication, and with the host SLEEPING the order it gives the link (R43, R140). -/
def dwellExpired (p : Part) : Part :=
  let q := postureExpired p
  settle (if q.sa.hostState = .sleeping ∧ q.pc.published ≠ p.pc.published then stallIfOrdered q.bl.target q else q)

/-- POSTURE_DWELL_EXPIRY (R43). -/
def execPostureDwellExpiry (s : State) : Answer :=
  if timerDue s.part.pc.dwell s.part.tb then .next (s.on dwellExpired) else .next s

/-- ORIENTATION_DWELL_EXPIRY (R50). -/
def execOrientationDwellExpiry (s : State) : Answer :=
  if timerDue s.part.ot.dwell s.part.tb then .next (s.on rotationExpired) else .next s

end Sys2Proof.Machine
end

