-- ==== Sys2Proof/Machine/LinkCommands.lean ====
section
/-! DEFINITION. The meanings of the base link: received frames, the transmitter, and the timers of the link. -/

namespace Sys2Proof.Machine

/-- LINE_BREAK_RECEIVED (R53): a frame in reception is discarded without being counted; its noise stands. -/
def execLineBreakReceived (noise : NoiseCount) (s : State) : Answer := .next (s.on (countNoise noise))

/-- FRAME_GAP_TIMEOUT (R54). -/
def execFrameGapTimeout (noise : NoiseCount) (s : State) : Answer :=
  .next (s.on fun p => countDiscard .framing (countNoise noise p))

/-- A frame as received is judged, and a discard counted (R53, R54). -/
def discardFrame (cs : List RxChar) (p : Part) : Part :=
  let q := countNoise (noisyChars cs) p
  match judgeFrame cs with
  | some d => countDiscard d q
  | none => q

/-- FRAME_DISCARD (R54). -/
def execFrameDiscard (cs : List RxChar) (s : State) : Answer := .next (s.on (discardFrame cs))

/-- A well-formed frame is received: its noise is counted, and while the receiver listens it is handed on (R53). -/
def receive (noise : NoiseCount) (f : Part → Part) (p : Part) : Part :=
  if p.bl.link.listens then f (countNoise noise p) else countNoise noise p

/-- HELLO (R64). -/
def execHello (noise : NoiseCount) (seq : BitVec 4) (cls revision : Byte) (accessory : BitVec 32) (s : State) : Answer :=
  .next (s.on (receive noise fun p => settle (helloFrame ⟨seq, cls, revision, accessory⟩ p)))

/-- A KEYS frame whose transition count is 1..6 is checked and taken; another is malformed (R56, R58, R66). -/
def keysReception (seq : BitVec 4) (es : List KeyEvent) (heldCount : Nat) (p : Part) : Part :=
  if 1 ≤ es.length ∧ es.length ≤ 6 then
    settleWith true (keysReceived (decide (seqGap p.bl seq ≠ 0)) es heldCount (seqCheck seq p))
  else countDiscard .check p

/-- KEYS (R66). -/
def execKeys (noise : NoiseCount) (seq : BitVec 4) (es : List KeyEvent) (heldCount : Byte) (s : State) : Answer :=
  .next (s.on (receive noise (keysReception seq es heldCount.toNat)))

/-- MOTION (R66). -/
def execMotion (noise : NoiseCount) (seq : BitVec 4) (x y z : Word) (counter : Byte) (s : State) : Answer :=
  .next (s.on (receive noise fun p => motionFrame x y z counter (seqCheck seq p)))

/-- The content of a STATUS as BL reads it (R56, 13.8). -/
def readStatus (mode flags : Byte) (draw : Word) : BaseStatus :=
  ⟨min 5000 draw.toNat, modeOfByte mode, flags.getLsbD 1, flags.getLsbD 0⟩

/-- A STATUS with at most 16 held codes is checked and taken; another is malformed (R56 to R58). -/
def statusReception (seq : BitVec 4) (st : BaseStatus) (held : List Byte) (p : Part) : Part :=
  if held.length ≤ 16 then settle (statusFrame st held (seqCheck seq p)) else countDiscard .check p

/-- STATUS (R57). -/
def execStatus (noise : NoiseCount) (seq : BitVec 4) (mode flags : Byte) (draw : Word) (held : List Byte) (s : State) : Answer :=
  .next (s.on (receive noise (statusReception seq (readStatus mode flags draw) held)))

/-- REPLY (R57). -/
def execReply (noise : NoiseCount) (seq : BitVec 4) (attrId : Word) (result value : Byte) (s : State) : Answer :=
  .next (s.on (receive noise fun p => settle (replyFrame attrId result value (seqCheck seq p))))

/-- EXCHANGE_SENT (R60). -/
def execExchangeSent (s : State) : Answer := .next (s.on frameSent)

/-- REPLY_TIMER_EXPIRY (R60). -/
def execReplyTimerExpiry (s : State) : Answer :=
  if timerDue s.part.bl.replyTimer s.part.tb then .next (s.on replyExpired) else .next s

/-- POWER_GOOD_EXPIRY (R64). -/
def execPowerGoodExpiry (s : State) : Answer :=
  if timerDue s.part.bl.powerTimer s.part.tb then .next (s.on fun p => settle (enterResetting p)) else .next s

/-- LINE_RESET_END (R64), once the line reset time has passed. -/
def execLineResetEnd (s : State) : Answer :=
  match s.part.bl.tx with
  | some (.lineReset t live) => if t.due s.part.tb then .next (s.on (lineResetEnded live)) else .next s
  | _ => .next s

/-- ACTIVATE_TIME_EXPIRY (R64). -/
def execActivateTimeExpiry (s : State) : Answer :=
  if timerDue s.part.bl.activateTimer s.part.tb then .next (s.on activateExpired) else .next s

/-- HELLO_TIMER_EXPIRY (R64). -/
def execHelloTimerExpiry (s : State) : Answer :=
  if timerDue s.part.bl.helloTimer s.part.tb then .next (s.on helloExpired) else .next s

/-- STALL_IDLE_EXPIRY (R67). -/
def execStallIdleExpiry (s : State) : Answer :=
  if timerDue s.part.bl.stallTimer s.part.tb then .next (s.on fun p => settle (enterStall p)) else .next s

/-- The minimum hibernate time has passed (R70). -/
def minHibernateExpired (p : Part) : Part := settle { p with bl := { p.bl with minHibTimer := none } }

/-- MINIMUM_HIBERNATE_EXPIRY (R70). -/
def execMinimumHibernateExpiry (s : State) : Answer :=
  if timerDue s.part.bl.minHibTimer s.part.tb then .next (s.on minHibernateExpired) else .next s

/-- WAKE_BREAK_END (R70). -/
def execWakeBreakEnd (s : State) : Answer :=
  match s.part.bl.tx with
  | some (.wakeBreak live) => .next (s.on (wakeBreakEnded live))
  | _ => .next s

/-- The request at the head of a queue, where it is of the kind asked for, and the queue behind it. -/
def headOf (want : Request → Bool) (q : List Request) : Option (Request × List Request) :=
  match q with
  | r :: rs => if want r then some (r, rs) else none
  | [] => none

/-- The request has this kind (13.4). -/
def Request.is (kind : Nat) (r : Request) : Bool := r.kind.toNat == kind

/-- BASE_RETRY (R74). -/
def execBaseRetry (s : State) : Answer :=
  match headOf (Request.is 5) s.part.rq.bl with
  | some (r, rs) => .next (s.on fun p => retryBase r { p with rq := { p.rq with bl := rs } })
  | none => .next s

end Sys2Proof.Machine
end

