-- ==== Sys2Proof/Machine/ProfileCommands.lean ====
section
/-! DEFINITION. The meanings of the profile walker: the ends of its held operations and its requests. -/

namespace Sys2Proof.Machine

/-- The 32 entries of the attach profile table (13.6). -/
def profileEntries (m : Memory) : List (Word × Word) :=
  (List.range 32).map fun n => (m.read (profileBase + 2 * n), m.read (profileBase + 2 * n + 1))

/-- The profile snapshot copies the table and writes NOT_RUN into the result words (R81). -/
def finishSnapshot (s : State) : State :=
  { s with
    part := settle (snapshotTaken (profileEntries s.xm) s.part)
    xm := s.xm.writeAll resultBase (List.replicate 32 (word EntryResult.notRun.code)) }

/-- PROFILE_SNAPSHOT_END (R81). -/
def execProfileSnapshotEnd (s : State) : Answer :=
  match s.part.pw.op, s.part.resetWork with
  | .snapshot, none => .next (finishSnapshot s)
  | _, _ => .next s

/-- The words of the results of a walk (13.6). -/
def resultWords (rs : List EntryResult) : List Word := rs.map fun r => word r.code

/-- The result write writes the 32 result words (R84). -/
def finishResultWrite (e : WalkEnd) (s : State) : State :=
  { s with
    part := settle (resultsWritten e s.part)
    xm := s.xm.writeAll resultBase (resultWords s.part.pw.results) }

/-- PROFILE_RESULT_WRITE_END (R84). -/
def execProfileResultWriteEnd (s : State) : Answer :=
  match s.part.pw.op, s.part.pw.ending, s.part.resetWork with
  | .resultWrite, some e, none => .next (finishResultWrite e s)
  | _, _, _ => .next s

/-- PW takes the request at the head of its queue, and goes on to the next while each completes at once (R86). -/
def takeProfileRequest (p : Part) : Part := settle (takeRequests p.rq.pw p)

/-- PW is free, and the head of its queue has this kind. -/
def profileRequestReady (kind : Nat) (p : Part) : Bool :=
  p.pw.current.isNone && (headOf (Request.is kind) p.rq.pw).isSome

/-- BASE_ATTRIBUTE (R88). -/
def execBaseAttribute (s : State) : Answer :=
  if profileRequestReady 4 s.part then .next (s.on takeProfileRequest) else .next s

/-- PROFILE_RELOAD (R89). -/
def execProfileReload (s : State) : Answer :=
  if profileRequestReady 6 s.part then .next (s.on takeProfileRequest) else .next s

end Sys2Proof.Machine
end

