-- ==== Sys2Proof/Machine/PenCommands.lean ====
section
/-! DEFINITION. The meanings of the pen link and the charge controller: the talk window, the session timers, charge faults, and PEN_CONTROL. -/

namespace Sys2Proof.Machine

/-- The pen session is in a state and its state timer has run out (R110, R112, R133). -/
def stateDue (st : Session) (p : Part) : Bool := p.cc.session == st && timerDue p.cc.stateTimer p.tb

/-- SETTLING_EXPIRY (R110). -/
def execSettlingExpiry (s : State) : Answer :=
  if stateDue .settling s.part then .next (s.on (moment enterWakingSession)) else .next s

/-- WINDOW_DUE (R113). -/
def execWindowDue (s : State) : Answer :=
  if timerDue s.part.cc.windowTimer s.part.tb then .next (s.on (moment startOrDue)) else .next s

/-- The window's phase replaced. -/
def setPhase (ph : Phase) (p : Part) : Part := { p with pn := { p.pn with phase := ph } }

/-- A step of the window from one phase to the next (6.2). -/
def stepPhase (before next : Phase) (s : State) : State := if s.part.pn.phase = before then s.on (setPhase next) else s

/-- QUIET_END (R103). -/
def execQuietEnd (s : State) : Answer := .next (stepPhase .quiet .breaking s)

/-- BREAK_END (R103). -/
def execBreakEnd (s : State) : Answer := .next (stepPhase .breaking .poll s)

/-- POLL_SENT (R103). -/
def execPollSent (s : State) : Answer := .next (stepPhase .poll .waitSync s)

/-- SYNC_START (R104). -/
def execSyncStart (s : State) : Answer := .next (stepPhase .waitSync .sync s)

/-- A failure of the window in one phase (R107). -/
def failIn (ph : Phase) (k : WindowFailure) (s : State) : State :=
  if s.part.pn.phase = ph then s.on (moment (failWindow k)) else s

/-- SYNC_WAIT_EXPIRY (R104). -/
def execSyncWaitExpiry (s : State) : Answer := .next (failIn .waitSync .noSync s)

/-- SYNC_MEASURE_TIMEOUT (R104). -/
def execSyncMeasureTimeout (s : State) : Answer := .next (failIn .sync .syncError s)

/-- The measured bit time, in tenths of a microsecond, lies in 44.27..59.90 µs, and the SYNC character is good (R104). -/
def syncGood (bitTime : Nat) (char : Byte) (stopHigh : Bool) : Bool :=
  decide (4427 ≤ 10 * bitTime) && decide (10 * bitTime ≤ 5990) && char == 0x55#8 && stopHigh

/-- SYNC is accepted: the measured bit time is kept, and WAIT_REPORT begins (R104). -/
def acceptSync (bitTime : Nat) (p : Part) : Part :=
  { p with pn := { p.pn with phase := .waitReport, bitTime := some bitTime } }

/-- SYNC_RECEIVED (R104). -/
def execSyncReceived (bitTime : Nat) (char : Byte) (stopHigh : Bool) (s : State) : Answer :=
  if s.part.pn.phase = .sync ∧ syncGood bitTime char stopHigh then .next (s.on (acceptSync bitTime))
  else .next (failIn .sync .syncError s)

/-- REPORT_START (R105). -/
def execReportStart (s : State) : Answer := .next (stepPhase .waitReport .report s)

/-- REPORT_WAIT_EXPIRY (R105). -/
def execReportWaitExpiry (s : State) : Answer := .next (failIn .waitReport .noReport s)

/-- REPORT_GAP_TIMEOUT (R105). -/
def execReportGapTimeout (s : State) : Answer := .next (failIn .report .badFrame s)

/-- REPORT (R105). -/
def execReport (framingError : Bool) (penId : BitVec 32) (battery : Word) (temperature soc : Byte) (requested : Word)
    (flags check : Byte) (s : State) : Answer :=
  if s.part.pn.phase = .report ∧ !framingError ∧ reportSum penId battery temperature soc requested flags check = 0#8 then
    .next (s.on (moment (acceptReport penId (reportOf battery temperature soc requested flags))))
  else .next (failIn .report .badFrame s)

/-- The window of an accepted REPORT with PEN_FAULT ends (R106, R131): the failure count is 0, and the fault is taken. -/
def endFaultWindow (p : Part) : Part :=
  offerFault p none (takeChargeFault .penReported { p with pn := { p.pn with failures := 0 } })

/-- GRANT_SENT (R106). -/
def execGrantSent (s : State) : Answer :=
  match s.part.pn.phase, s.part.pn.outcome with
  | .grant, some (.session st) => .next (s.on (moment (endWindow st)))
  | .grant, some .penFault => .next (s.on endFaultWindow)
  | _, _ => .next s

/-- PRECHARGE_EXPIRY (R112). -/
def execPrechargeExpiry (s : State) : Answer :=
  if stateDue .precharge s.part then .next (s.on (moment enterWakingSession)) else .next s

/-- The monitor finds the current above the setpoint plus 50 mA (R130). -/
def overcurrentSeen (measured : Nat) (p : Part) : Bool := monitorRuns p && decide (p.cc.setpoint + 50 < measured)

/-- An overcurrent fault is taken (R131). -/
def takeOvercurrent (measured : Nat) (p : Part) : Part :=
  offerFault p (some measured) (takeChargeFault .overcurrent p)

/-- OVERCURRENT (R131). -/
def execOvercurrent (measured : BitVec 10) (s : State) : Answer :=
  if overcurrentSeen measured.toNat s.part then .next (s.on (takeOvercurrent measured.toNat)) else .next s

/-- The cooldown ends (R133). -/
def cooldownEnded (p : Part) : Part := enterWakingSession (clearFault .penCooldown p)

/-- COOLDOWN_EXPIRY (R133). -/
def execCooldownExpiry (s : State) : Answer :=
  if stateDue .cooldown s.part then .next (s.on (moment cooldownEnded)) else .next s

/-- FAULT_HISTORY_EXPIRY (R132). -/
def execFaultHistoryExpiry (s : State) : Answer :=
  if timerDue s.part.cc.history s.part.tb then
    .next (s.on fun p => { p with cc := { p.cc with history := none } })
  else .next s

/-- The argument of a PEN_CONTROL (13.4). -/
def Request.isPenControl (arg : Nat) (r : Request) : Bool := r.is 7 && r.arg 0 == arg

/-- The argument of a PEN_CONTROL is none of STOP, RESUME and CLEAR_LOCKOUT (R119). -/
def Request.isBadPenControl (r : Request) : Bool := r.is 7 && (r.arg 0 == 0 || decide (3 < r.arg 0))

/-- HOST joins or leaves the pause causes. -/
def setHostCause (on : Bool) (p : Part) : Part :=
  { p with cc := { p.cc with causes := { p.cc.causes with host := on } } }

/-- STOP (R114, R134); in PRECHARGE and CHARGING outside a window it leads to PAUSED, whatever causes stand (log entry 52). -/
def penStop (r : Request) (p : Part) : Part :=
  if p.cc.session = .absent then completeFailed r rcNoPen p
  else completeDone r rcOk [] (moment (fun p => reactToCauses (setHostCause true p)) p)

/-- RESUME in SILENT (R115, R119). -/
def resumeSilent (p : Part) : Part := enterWakingSession (clearFault .penSilent (setHostCause false p))

/-- RESUME elsewhere (R114, R134): the set becoming empty in PAUSED outside a window leads to WAKING. -/
def resumeHost (p : Part) : Part :=
  let q := setHostCause false p
  if !q.cc.causes.any ∧ q.cc.session = .paused ∧ q.pn.phase = .idle then enterWakingSession q else q

/-- RESUME (R119, R134). -/
def penResume (r : Request) (p : Part) : Part :=
  if p.cc.session = .absent then completeFailed r rcNoPen p
  else if p.cc.session = .silent then completeDone r rcOk [] (moment resumeSilent p)
  else if p.cc.causes.host then completeDone r rcOk [] (moment resumeHost p)
  else completeFailed r rcWrongState p

/-- The lockout is cleared (R134). -/
def lockoutCleared (p : Part) : Part :=
  let q := clearFault .penLockout p
  enterWakingSession { q with cc := { q.cc with history := none } }

/-- CLEAR_LOCKOUT (R119, R134). -/
def penClearLockout (r : Request) (p : Part) : Part :=
  if p.cc.session = .absent then completeFailed r rcNoPen p
  else if p.cc.session = .lockout then completeDone r rcOk [] (moment lockoutCleared p)
  else completeFailed r rcWrongState p

/-- A PEN_CONTROL with a bad argument (R119). -/
def penBadArg (r : Request) (p : Part) : Part :=
  completeFailed r (if p.cc.session = .absent then rcNoPen else rcBadArg) p

/-- CC takes the request at the head of its queue where it is one of these (R119). -/
def takePenControl (want : Request → Bool) (f : Request → Part → Part) (s : State) : State :=
  match headOf want s.part.rq.cc with
  | some (r, rs) => s.on fun p => f r { p with rq := { p.rq with cc := rs } }
  | none => s

/-- PEN_CONTROL_STOP (R134). -/
def execPenControlStop (s : State) : Answer := .next (takePenControl (Request.isPenControl 1) penStop s)

/-- PEN_CONTROL_RESUME (R134). -/
def execPenControlResume (s : State) : Answer := .next (takePenControl (Request.isPenControl 2) penResume s)

/-- PEN_CONTROL_CLEAR_LOCKOUT (R134). -/
def execPenControlClearLockout (s : State) : Answer :=
  .next (takePenControl (Request.isPenControl 3) penClearLockout s)

/-- PEN_CONTROL_BAD_ARG (R119). -/
def execPenControlBadArg (s : State) : Answer := .next (takePenControl Request.isBadPenControl penBadArg s)

end Sys2Proof.Machine
end

