-- ==== Sys2Proof/Machine/AdvisorCommands.lean ====
section
/-! DEFINITION. The meanings of the sleep advisor: SET_HOST_STATE and its timers. -/

namespace Sys2Proof.Machine

/-- The host state that a SET_HOST_STATE names (13.4). -/
def hostStateOf (n : Nat) : Option HostState :=
  match n with
  | 1 => some .running
  | 2 => some .sleeping
  | 3 => some .off
  | _ => none

/-- The host state changes (R139): SP, CC, NU and BL are told, in this order (log entry 4), and SA sets its own state. -/
def changeHostState (h : HostState) (p : Part) : Part :=
  let q := { p with sa := { p.sa with hostState := h }, sp := sensorHostState h p.tb p.sp }
  let q := nuHostState h (chargeHostState h q)
  advisorHostState h (modeOrder (orderFor h q.sa.posture) q)

/-- SA takes a SET_HOST_STATE (R138). -/
def setHost (r : Request) (p : Part) : Part :=
  match hostStateOf (r.arg 0) with
  | none => completeFailed r rcBadArg p
  | some h => completeDone r rcOk [] (if h = p.sa.hostState then p else changeHostState h p)

/-- SET_HOST_STATE (R138). -/
def execSetHostState (s : State) : Answer :=
  match headOf (Request.is 3) s.part.rq.sa with
  | some (r, rs) => .next (s.on fun p => setHost r { p with rq := { p.rq with sa := rs } })
  | none => .next s

/-- INACTIVITY_EXPIRY (R143). -/
def execInactivityExpiry (s : State) : Answer :=
  if timerDue s.part.sa.inactivity s.part.tb then .next (s.on inactivityExpired) else .next s

/-- GRACE_EXPIRY (R145). -/
def execGraceExpiry (s : State) : Answer :=
  if timerDue s.part.sa.grace s.part.tb then .next (s.on graceExpired) else .next s

end Sys2Proof.Machine
end

