-- ==== Sys2Proof/Machine/NoticeCommands.lean ====
section
/-! DEFINITION. The meanings of the notice unit: publications, WAKE, and REFRESH. -/

namespace Sys2Proof.Machine

/-- A record publication writes its words and ends (R176). -/
def finishPublication (c : NoticeClass) (ws : List Word) (s : State) : State :=
  { s with part := publicationEnded c s.part, xm := s.xm.writeAll (recordBase c) ws }

/-- RECORD_PUBLICATION_END (R176), of the class whose record is being written (R158). -/
def execRecordPublicationEnd (c : NoticeClass) (s : State) : Answer :=
  match (s.part.nu.classes.get c).publishing with
  | some ws => if s.part.nu.writing.head? = some c then .next (finishPublication c ws s) else .next s
  | none => .next s

/-- WAKE_PULSE_END (R184), 1 ms after the pulse's start. -/
def execWakePulseEnd (s : State) : Answer :=
  match s.part.nu.wake with
  | some t =>
    if 1 ≤ (s.part.tb - t).toNat then .next (s.on fun p => { p with nu := { p.nu with wake := none } }) else .next s
  | none => .next s

/-- The wake repeat timer expires (R184). -/
def wakeRepeated (p : Part) : Part :=
  let q := { p with nu := { p.nu with wakeTimer := none } }
  if q.nu.hostState ≠ .running ∧ wakeWaiting q.sl.inForce q.nu.classes then pulseWake q else q

/-- WAKE_REPEAT_EXPIRY (R184). -/
def execWakeRepeatExpiry (s : State) : Answer :=
  if timerDue s.part.nu.wakeTimer s.part.tb then .next (s.on wakeRepeated) else .next s

/-- BASE is offered with its present content and no event (R78, R185). -/
def offerBaseNow (p : Part) : Part := offer (.content (.base (baseContent 0#12 p))) p

/-- FAULT is offered with an empty event set (R185). -/
def offerFaultNow (p : Part) : Part := offer (.content (.fault 0#7)) p

/-- The six offers of a REFRESH (R185). -/
def refreshOffers (p : Part) : Part :=
  offerFaultNow (offerCharge (offerPen (offerBaseNow (offerOrientation (offerPosture p)))))

/-- REFRESH (R185). -/
def execRefresh (s : State) : Answer :=
  match headOf (Request.is 10) s.part.rq.nu with
  | some (r, rs) =>
    .next (s.on fun p => completeDone r rcOk [] (refreshOffers { p with rq := { p.rq with nu := rs } }))
  | none => .next s

end Sys2Proof.Machine
end

