-- ==== Sys2Proof/Machine/PortCommands.lean ====
section
/-! DEFINITION. The meanings of the host port: transactions, and the accesses to single words that have rows of their own. -/

namespace Sys2Proof.Machine

/-- ACKNOWLEDGE (R181): a read of the word 0x003. -/
def execAcknowledge (s : State) : Answer := .next (hostRead 3 1 s)

/-- TAKE (R182): a write of the word 0x004. -/
def execTake (value : Word) (s : State) : Answer := .next (hostWrite 4 [value] s)

/-- END_SERVICE (R183): a write of the word 0x005. -/
def execEndService (value : Word) (s : State) : Answer := .next (hostWrite 5 [value] s)

/-- ATTENTION (R163): a write of the word 0x002. -/
def execAttention (value : Word) (s : State) : Answer := .next (hostWrite 2 [value] s)

/-- XM_WORD_WRITE (R156): a write of one word. -/
def execXmWordWrite (address value : Word) (s : State) : Answer := .next (hostWrite address.toNat [value] s)

/-- READ (R151). -/
def execRead (address : Word) (count : Nat) (s : State) : Answer := .next (hostRead address.toNat count s)

/-- WRITE (R152). -/
def execWrite (address : Word) (words : List Word) (s : State) : Answer := .next (hostWrite address.toNat words s)

/-- UPDATE (R153). -/
def execUpdate (address expected : Word) (new : Option Word) (s : State) : Answer :=
  .next (hostUpdate address.toNat expected new s)

/-- PORT_READ (R155). -/
def execPortRead (index : Byte) (s : State) : Answer := .next (hostPortRead index s)

/-- UNKNOWN_COMMAND (R150). -/
def execUnknownCommand (byte : Byte) (s : State) : Answer := .next (hostUnknown byte s)

/-- TRANSACTION_END (R154). -/
def execTransactionEnd (s : State) : Answer := .next (s.on hostTransEnd)

end Sys2Proof.Machine
end

