-- ==== Sys2Proof/Machine/RequestCommands.lean ====
section
/-! DEFINITION. The meanings of the requests of the dispatcher and the settings loader, and of the completion of a slot. -/

namespace Sys2Proof.Machine

/-- The slot state of a completion (13.4): DONE 3, FAILED 4. -/
def Completion.stateWord (c : Completion) : Word := if c.done then 3#16 else 4#16

/-- The slot's words after a completion: the result data and the result code, then the state word (R165). -/
def completeSlot (c : Completion) (m : Memory) : Memory :=
  ((m.writeAll (slotBase c.slot + 17) c.data).write (slotBase c.slot + 16) c.code).write (slotBase c.slot) c.stateWord

/-- The next completion begins to be written, and REQUEST is offered with the slot's bit (R165). -/
def completionEnded (c : Completion) (rest : List Completion) (p : Part) : Part :=
  let q := { p with rq := { p.rq with completions := rest } }
  let q := match rest with
    | n :: _ => beginHold (slotBase n.slot, 32) q
    | [] => q
  offer (.content (.request (1#8 <<< c.slot))) q

/-- SLOT_COMPLETION_END (R165). -/
def execSlotCompletionEnd (s : State) : Answer :=
  match s.part.rq.completions with
  | c :: rest => .next { s with part := completionEnded c rest s.part, xm := completeSlot c s.xm }
  | [] => .next s

/-- SL takes the request at the head of its queue where it is of this kind and SL has none (R169). -/
def takeSettings (kind : Nat) (f : Request → Part → Part) (s : State) : State :=
  match s.part.sl.current, headOf (Request.is kind) s.part.rq.sl with
  | none, some (r, rs) => s.on fun p => f r { p with rq := { p.rq with sl := rs } }
  | _, _ => s

/-- APPLY_SETTINGS (R170). -/
def execApplySettings (s : State) : Answer := .next (takeSettings 1 takeApply s)

/-- SETTINGS_SNAPSHOT_END (R170). -/
def execSettingsSnapshotEnd (s : State) : Answer :=
  match s.part.sl.op with
  | .snapshot => .next (s.on (snapshotJudged (s.xm.readAll settingsBase 224)))
  | _ => .next s

/-- SETTINGS_WRITE_BACK_END (R172). -/
def execSettingsWriteBackEnd (s : State) : Answer :=
  match s.part.sl.op with
  | .writeBack ws new code => .next { s with part := applied new code s.part, xm := s.xm.writeAt settingsBase ws }
  | _ => .next s

/-- The lock is set, and the request completes (R169). -/
def lockTaken (r : Request) (p : Part) : Part := completeDone r rcOk [] { p with sl := { p.sl with lock := true } }

/-- LOCK_SETTINGS (R169). -/
def execLockSettings (s : State) : Answer := .next (takeSettings 2 lockTaken s)

/-- RQ takes the request at the head of its queue where it is one of these (R167). -/
def takeOwn (want : Request → Bool) (f : Request → Part → Part) (s : State) : State :=
  match headOf want s.part.rq.rq with
  | some (r, rs) => s.on fun p => f r { p with rq := { p.rq with rq := rs } }
  | none => s

/-- The result data of a TIME_CAPTURE (R167): the acceptance time, and the four words of the host's value. -/
def captureData (r : Request) : List Word :=
  [hiWord r.time, loWord r.time] ++ [0, 1, 2, 3].map fun i => word (r.arg i)

/-- TIME_CAPTURE (R167). -/
def execTimeCapture (s : State) : Answer :=
  .next (takeOwn (Request.is 8) (fun r p => completeDone r rcOk (captureData r) p) s)

/-- A COUNTERS request in this form (13.4). -/
def Request.isCounters (form : Nat) (r : Request) : Bool := r.is 9 && r.arg 0 == form

/-- The counters' words (R168). -/
def counterWords (p : Part) : List Word := (counters p).map word

/-- COUNTERS_READ (R168). -/
def execCountersRead (s : State) : Answer :=
  .next (takeOwn (Request.isCounters 1) (fun r p => completeDone r rcOk (counterWords p) p) s)

/-- COUNTERS_READ_AND_CLEAR (R168). -/
def execCountersReadAndClear (s : State) : Answer :=
  .next (takeOwn (Request.isCounters 2) (fun r p => completeDone r rcOk (counterWords p) (clearCounters p)) s)

/-- A COUNTERS request in no form (R168). -/
def Request.isBadCounters (r : Request) : Bool := r.is 9 && (r.arg 0 == 0 || decide (2 < r.arg 0))

/-- COUNTERS_BAD_ARG (R168). -/
def execCountersBadArg (s : State) : Answer :=
  .next (takeOwn Request.isBadCounters (fun r p => completeFailed r rcBadArg p) s)

/-- A bad kind: 0 or above 10 (R167). -/
def Request.isBadKind (r : Request) : Bool := r.kind == 0#16 || decide (10 < r.kind.toNat)

/-- BAD_KIND (R167). -/
def execBadKind (s : State) : Answer := .next (takeOwn Request.isBadKind (fun r p => completeFailed r rcBadKind p) s)

end Sys2Proof.Machine
end

