-- ==== Sys2Proof/Machine/Dispatch.lean ====
section
/-! DEFINITION. The dispatch of a command to its meaning. -/

namespace Sys2Proof.Machine

/-- The effect of a command on everything but the queue. -/
def exec (i : Instr) (s : State) : Host.Outcome State Fault Refusal :=
  match i with
  | .fullReset => Sys2Proof.Machine.execFullReset s
  | .softReset => Sys2Proof.Machine.execSoftReset s
  | .resetWorkEnd => Sys2Proof.Machine.execResetWorkEnd s
  | .tbTick => Sys2Proof.Machine.execTbTick s
  | .configurationStepEnd first second => Sys2Proof.Machine.execConfigurationStepEnd first second s
  | .sampleDue => Sys2Proof.Machine.execSampleDue s
  | .sampleArrival attempt retry => Sys2Proof.Machine.execSampleArrival attempt retry s
  | .faultAttemptDue => Sys2Proof.Machine.execFaultAttemptDue s
  | .faultAttemptEnd first second attempt retry => Sys2Proof.Machine.execFaultAttemptEnd first second attempt retry s
  | .filteredLevelChange input high => Sys2Proof.Machine.execFilteredLevelChange input high s
  | .debounceExpiry input => Sys2Proof.Machine.execDebounceExpiry input s
  | .holdTimerExpiry => Sys2Proof.Machine.execHoldTimerExpiry s
  | .postureDwellExpiry => Sys2Proof.Machine.execPostureDwellExpiry s
  | .orientationDwellExpiry => Sys2Proof.Machine.execOrientationDwellExpiry s
  | .lineBreakReceived noise => Sys2Proof.Machine.execLineBreakReceived noise s
  | .frameGapTimeout noise => Sys2Proof.Machine.execFrameGapTimeout noise s
  | .frameDiscard chars => Sys2Proof.Machine.execFrameDiscard chars s
  | .hello noise seq cls revision accessory => Sys2Proof.Machine.execHello noise seq cls revision accessory s
  | .keys noise seq events heldCount => Sys2Proof.Machine.execKeys noise seq events heldCount s
  | .motion noise seq x y z counter => Sys2Proof.Machine.execMotion noise seq x y z counter s
  | .status noise seq mode flags draw held => Sys2Proof.Machine.execStatus noise seq mode flags draw held s
  | .reply noise seq attrId result value => Sys2Proof.Machine.execReply noise seq attrId result value s
  | .exchangeSent => Sys2Proof.Machine.execExchangeSent s
  | .replyTimerExpiry => Sys2Proof.Machine.execReplyTimerExpiry s
  | .powerGoodExpiry => Sys2Proof.Machine.execPowerGoodExpiry s
  | .lineResetEnd => Sys2Proof.Machine.execLineResetEnd s
  | .activateTimeExpiry => Sys2Proof.Machine.execActivateTimeExpiry s
  | .helloTimerExpiry => Sys2Proof.Machine.execHelloTimerExpiry s
  | .stallIdleExpiry => Sys2Proof.Machine.execStallIdleExpiry s
  | .minimumHibernateExpiry => Sys2Proof.Machine.execMinimumHibernateExpiry s
  | .wakeBreakEnd => Sys2Proof.Machine.execWakeBreakEnd s
  | .baseRetry => Sys2Proof.Machine.execBaseRetry s
  | .profileSnapshotEnd => Sys2Proof.Machine.execProfileSnapshotEnd s
  | .baseAttribute => Sys2Proof.Machine.execBaseAttribute s
  | .profileReload => Sys2Proof.Machine.execProfileReload s
  | .settlingExpiry => Sys2Proof.Machine.execSettlingExpiry s
  | .windowDue => Sys2Proof.Machine.execWindowDue s
  | .quietEnd => Sys2Proof.Machine.execQuietEnd s
  | .breakEnd => Sys2Proof.Machine.execBreakEnd s
  | .pollSent => Sys2Proof.Machine.execPollSent s
  | .syncStart => Sys2Proof.Machine.execSyncStart s
  | .syncWaitExpiry => Sys2Proof.Machine.execSyncWaitExpiry s
  | .syncMeasureTimeout => Sys2Proof.Machine.execSyncMeasureTimeout s
  | .syncReceived bitTime char stopHigh => Sys2Proof.Machine.execSyncReceived bitTime char stopHigh s
  | .reportStart => Sys2Proof.Machine.execReportStart s
  | .reportWaitExpiry => Sys2Proof.Machine.execReportWaitExpiry s
  | .reportGapTimeout => Sys2Proof.Machine.execReportGapTimeout s
  | .report framingError penId battery temperature soc requested flags check => Sys2Proof.Machine.execReport framingError penId battery temperature soc requested flags check s
  | .grantSent => Sys2Proof.Machine.execGrantSent s
  | .prechargeExpiry => Sys2Proof.Machine.execPrechargeExpiry s
  | .overcurrent measured => Sys2Proof.Machine.execOvercurrent measured s
  | .cooldownExpiry => Sys2Proof.Machine.execCooldownExpiry s
  | .faultHistoryExpiry => Sys2Proof.Machine.execFaultHistoryExpiry s
  | .penControlStop => Sys2Proof.Machine.execPenControlStop s
  | .penControlResume => Sys2Proof.Machine.execPenControlResume s
  | .penControlClearLockout => Sys2Proof.Machine.execPenControlClearLockout s
  | .penControlBadArg => Sys2Proof.Machine.execPenControlBadArg s
  | .setHostState => Sys2Proof.Machine.execSetHostState s
  | .inactivityExpiry => Sys2Proof.Machine.execInactivityExpiry s
  | .graceExpiry => Sys2Proof.Machine.execGraceExpiry s
  | .recordPublicationEnd cls => Sys2Proof.Machine.execRecordPublicationEnd cls s
  | .wakePulseEnd => Sys2Proof.Machine.execWakePulseEnd s
  | .wakeRepeatExpiry => Sys2Proof.Machine.execWakeRepeatExpiry s
  | .acknowledge => Sys2Proof.Machine.execAcknowledge s
  | .take value => Sys2Proof.Machine.execTake value s
  | .endService value => Sys2Proof.Machine.execEndService value s
  | .attention value => Sys2Proof.Machine.execAttention value s
  | .slotCompletionEnd => Sys2Proof.Machine.execSlotCompletionEnd s
  | .xmWordWrite address value => Sys2Proof.Machine.execXmWordWrite address value s
  | .read address count => Sys2Proof.Machine.execRead address count s
  | .write address words => Sys2Proof.Machine.execWrite address words s
  | .update address expected new => Sys2Proof.Machine.execUpdate address expected new s
  | .portRead index => Sys2Proof.Machine.execPortRead index s
  | .unknownCommand byte => Sys2Proof.Machine.execUnknownCommand byte s
  | .transactionEnd => Sys2Proof.Machine.execTransactionEnd s
  | .applySettings => Sys2Proof.Machine.execApplySettings s
  | .settingsSnapshotEnd => Sys2Proof.Machine.execSettingsSnapshotEnd s
  | .lockSettings => Sys2Proof.Machine.execLockSettings s
  | .timeCapture => Sys2Proof.Machine.execTimeCapture s
  | .countersRead => Sys2Proof.Machine.execCountersRead s
  | .countersReadAndClear => Sys2Proof.Machine.execCountersReadAndClear s
  | .countersBadArg => Sys2Proof.Machine.execCountersBadArg s
  | .badKind => Sys2Proof.Machine.execBadKind s
  | .refresh => Sys2Proof.Machine.execRefresh s
  | .resetnRelease hcsLow => Sys2Proof.Machine.execResetnRelease hcsLow s
  | .profileResultWriteEnd => Sys2Proof.Machine.execProfileResultWriteEnd s
  | .settingsWriteBackEnd => Sys2Proof.Machine.execSettingsWriteBackEnd s

end Sys2Proof.Machine
end

