-- ==== Sys2Proof/Safety.lean ====
section
/-! DEFINITION. What holds of a safe state: the invariants that the chapters state of the whole part, block by block. Each is a
proposition about plain data that can be decided. -/

namespace Sys2Proof.Machine

/-! ### Commands that complete -/

/-- The command answers a next state, of which P holds. -/
abbrev Completes (i : Instr) (s : State) (P : State → Prop) : Prop := ∃ t, exec i s = .next t ∧ P t

/-! ### What a command reaches -/

/-- The kinds of state that the spec gives the part. `settings` is SL's current request and held operation; the settings in
force, the lock, the host state and the active fault set stand apart, since few commands reach them. -/
inductive Block where
  | timeBase | resetLine | resetWork | partState | sensorPort | inputs | angle | posture | orientation | link | profile | keys
  | penLink | charge | advisor | hostPort | requests | settings | inForce | lock | hostState | notices | faultSet | memory
  deriving DecidableEq, Repr

/-- A block holds in t what it held in s. -/
def Block.same (b : Block) (s t : State) : Prop :=
  match b with
  | .timeBase => t.part.tb = s.part.tb
  | .resetLine => t.part.resetLow = s.part.resetLow
  | .resetWork => t.part.resetWork = s.part.resetWork
  | .partState => t.part.partState = s.part.partState
  | .sensorPort => t.part.sp = s.part.sp
  | .inputs => t.part.inp = s.part.inp
  | .angle => t.part.ae = s.part.ae
  | .posture => t.part.pc = s.part.pc
  | .orientation => t.part.ot = s.part.ot
  | .link => t.part.bl = s.part.bl
  | .profile => t.part.pw = s.part.pw
  | .keys => t.part.kt = s.part.kt
  | .penLink => t.part.pn = s.part.pn
  | .charge => t.part.cc = s.part.cc
  | .advisor => t.part.sa = s.part.sa
  | .hostPort => t.part.hp = s.part.hp
  | .requests => t.part.rq = s.part.rq
  | .settings => t.part.sl.current = s.part.sl.current ∧ t.part.sl.op = s.part.sl.op
  | .inForce => t.part.sl.inForce = s.part.sl.inForce
  | .lock => t.part.sl.lock = s.part.sl.lock
  | .hostState => t.part.sa.hostState = s.part.sa.hostState ∧ t.part.nu.hostState = s.part.nu.hostState
  | .notices => t.part.nu = s.part.nu
  | .faultSet => t.part.nu.faults = s.part.nu.faults ∧ t.part.nu.lastFault = s.part.nu.lastFault
  | .memory => t.xm = s.xm

/-- Every block. -/
def allBlocks : List Block :=
  [.timeBase, .resetLine, .resetWork, .partState, .sensorPort, .inputs, .angle, .posture, .orientation, .link, .profile, .keys,
   .penLink, .charge, .advisor, .hostPort, .requests, .settings, .inForce, .lock, .hostState, .notices, .faultSet, .memory]

/-- What an offer reaches: NU, and the port's transaction, which keeps the record's range (R158). -/
def offerReach : List Block := [.notices, .hostPort]

/-- What a change of link state, a delivery or a posture publication reaches (R32, R45, R62). -/
def linkReach : List Block :=
  [.link, .posture, .orientation, .profile, .keys, .advisor, .requests] ++ offerReach

/-- What an attach, a HELLO or a stop of the link reaches besides (R72, R76). -/
def attachReach : List Block := [.charge, .faultSet] ++ linkReach

/-- What the pen's session reaches (6.4, 7.7). -/
def penReach : List Block := [.penLink, .charge] ++ offerReach

/-- The blocks that a command reaches; 95_what_each_step_holds.md lists the same command by command. -/
def Instr.reaches : Instr → List Block
  | .fullReset | .softReset => allBlocks
  | .resetnRelease _ => [.resetLine, .sensorPort, .inputs, .advisor, .hostPort]
  | .resetWorkEnd => [.resetWork, .partState, .keys, .faultSet, .memory] ++ offerReach
  | .tbTick => [.timeBase]
  | .configurationStepEnd .. | .sampleArrival .. => [.sensorPort, .partState, .angle, .faultSet] ++ linkReach
  | .sampleDue | .faultAttemptDue => [.sensorPort]
  | .faultAttemptEnd .. => [.sensorPort, .partState, .faultSet] ++ offerReach
  | .filteredLevelChange .. => [.inputs] ++ penReach
  | .debounceExpiry _ => [.inputs, .penLink] ++ attachReach
  | .holdTimerExpiry => [.angle] ++ linkReach
  | .postureDwellExpiry => linkReach
  | .orientationDwellExpiry => [.orientation, .advisor] ++ offerReach
  | .lineBreakReceived _ | .frameGapTimeout _ | .frameDiscard _ | .motion .. => [.link]
  | .hello .. | .replyTimerExpiry | .activateTimeExpiry | .helloTimerExpiry | .baseRetry => attachReach
  | .status .. => [.charge] ++ linkReach
  | .keys .. | .reply .. | .exchangeSent | .powerGoodExpiry | .lineResetEnd | .stallIdleExpiry | .minimumHibernateExpiry
  | .wakeBreakEnd | .baseAttribute | .profileReload => linkReach
  | .profileSnapshotEnd | .profileResultWriteEnd => [.memory] ++ linkReach
  | .quietEnd | .breakEnd | .pollSent | .syncStart | .reportStart => [.penLink]
  | .settlingExpiry | .windowDue | .prechargeExpiry => penReach
  | .syncWaitExpiry | .syncMeasureTimeout | .syncReceived .. | .reportWaitExpiry | .reportGapTimeout | .report ..
  | .grantSent | .overcurrent _ | .cooldownExpiry => [.faultSet] ++ penReach
  | .faultHistoryExpiry => [.charge]
  | .penControlStop => [.requests] ++ penReach
  | .penControlResume | .penControlClearLockout => [.requests, .faultSet] ++ penReach
  | .penControlBadArg => [.requests, .hostPort]
  | .setHostState => [.hostState, .sensorPort, .charge] ++ linkReach
  | .inactivityExpiry | .graceExpiry => [.advisor] ++ offerReach
  | .recordPublicationEnd _ => [.notices, .memory, .hostPort]
  | .wakePulseEnd | .wakeRepeatExpiry => [.notices]
  | .acknowledge | .take _ | .read .. => offerReach
  | .endService _ => [.keys] ++ offerReach
  | .attention _ => [.hostPort, .requests, .memory]
  | .xmWordWrite .. | .write .. | .update .. => [.requests, .memory, .keys] ++ offerReach
  | .portRead _ | .unknownCommand _ | .transactionEnd => [.hostPort]
  | .applySettings => [.settings, .requests, .hostPort]
  | .settingsSnapshotEnd => [.settings, .inForce, .inputs, .angle, .penLink] ++ attachReach
  | .settingsWriteBackEnd => [.settings, .inForce, .inputs, .angle, .penLink, .memory] ++ attachReach
  | .lockSettings => [.lock, .requests, .hostPort]
  | .timeCapture | .countersRead | .countersBadArg | .badKind => [.requests, .hostPort]
  | .countersReadAndClear => [.requests, .hostPort, .link, .penLink, .keys, .posture]
  | .refresh => [.requests, .posture, .charge] ++ offerReach
  | .slotCompletionEnd => [.requests, .memory] ++ offerReach

/-! ### When an event can occur -/

/-- The state is one in which the event can occur (log entry 1): what it ends is under way, its timer has run out, the request it
takes waits at the head of its queue, the receiver listens or has noise to count, or the port takes transactions. -/
def Instr.occurs (i : Instr) (s : State) : Bool :=
  let p := s.part
  match i with
  | .fullReset => true
  | .softReset | .acknowledge | .take _ | .endService _ | .attention _ | .xmWordWrite .. | .read .. | .write .. | .update ..
  | .portRead _ | .unknownCommand _ => portFree p
  | .transactionEnd => !p.resetLow && (p.hp.blocked || p.hp.trans.isSome)
  | .resetnRelease _ => p.resetLow
  | .resetWorkEnd => p.resetWork.isSome && !p.resetLow
  | .tbTick => !p.resetLow
  | .configurationStepEnd .. => (match p.sp.flight with | .config _ => true | _ => false)
  | .sampleArrival .. => (match p.sp.flight with | .sample _ => true | _ => false)
  | .faultAttemptEnd .. => (match p.sp.flight with | .attempt _ => true | _ => false)
  | .sampleDue => (sampleDueNow p).isSome
  | .faultAttemptDue => (attemptDueNow p).isSome
  | .filteredLevelChange k high => (p.inp.get k).level != high
  | .debounceExpiry k => timerDue (p.inp.get k).timer p.tb
  | .holdTimerExpiry => timerDue p.ae.hold p.tb
  | .postureDwellExpiry => timerDue p.pc.dwell p.tb
  | .orientationDwellExpiry => timerDue p.ot.dwell p.tb
  | .lineBreakReceived n | .frameGapTimeout n | .hello n .. | .keys n .. | .motion n .. | .status n .. | .reply n .. =>
    noiseCounts n p
  | .frameDiscard cs => noiseCounts (noisyChars cs) p
  | .exchangeSent => (match p.bl.tx with | some (.frame ..) => true | _ => false)
  | .lineResetEnd => (match p.bl.tx with | some (.lineReset t _) => t.due p.tb | _ => false)
  | .wakeBreakEnd => (match p.bl.tx with | some (.wakeBreak _) => true | _ => false)
  | .replyTimerExpiry => timerDue p.bl.replyTimer p.tb
  | .powerGoodExpiry => timerDue p.bl.powerTimer p.tb
  | .activateTimeExpiry => timerDue p.bl.activateTimer p.tb
  | .helloTimerExpiry => timerDue p.bl.helloTimer p.tb
  | .stallIdleExpiry => timerDue p.bl.stallTimer p.tb
  | .minimumHibernateExpiry => timerDue p.bl.minHibTimer p.tb
  | .baseRetry => (headOf (Request.is 5) p.rq.bl).isSome
  | .profileSnapshotEnd => p.pw.op == .snapshot && p.resetWork.isNone
  | .profileResultWriteEnd => p.pw.op == .resultWrite && p.pw.ending.isSome && p.resetWork.isNone
  | .baseAttribute => profileRequestReady 4 p
  | .profileReload => profileRequestReady 6 p
  | .settlingExpiry => stateDue .settling p
  | .prechargeExpiry => stateDue .precharge p
  | .cooldownExpiry => stateDue .cooldown p
  | .windowDue => timerDue p.cc.windowTimer p.tb
  | .faultHistoryExpiry => timerDue p.cc.history p.tb
  | .quietEnd => p.pn.phase == .quiet
  | .breakEnd => p.pn.phase == .breaking
  | .pollSent => p.pn.phase == .poll
  | .syncStart | .syncWaitExpiry => p.pn.phase == .waitSync
  | .syncMeasureTimeout | .syncReceived .. => p.pn.phase == .sync
  | .reportStart | .reportWaitExpiry => p.pn.phase == .waitReport
  | .reportGapTimeout | .report .. => p.pn.phase == .report
  | .grantSent => p.pn.phase == .grant && p.pn.outcome.isSome
  | .overcurrent m => overcurrentSeen m.toNat p
  | .penControlStop => (headOf (Request.isPenControl 1) p.rq.cc).isSome
  | .penControlResume => (headOf (Request.isPenControl 2) p.rq.cc).isSome
  | .penControlClearLockout => (headOf (Request.isPenControl 3) p.rq.cc).isSome
  | .penControlBadArg => (headOf Request.isBadPenControl p.rq.cc).isSome
  | .setHostState => (headOf (Request.is 3) p.rq.sa).isSome
  | .inactivityExpiry => timerDue p.sa.inactivity p.tb
  | .graceExpiry => timerDue p.sa.grace p.tb
  | .recordPublicationEnd c => (p.nu.classes.get c).publishing.isSome && p.nu.writing.head? == some c
  | .wakePulseEnd => (match p.nu.wake with | some t => decide (1 ≤ (p.tb - t).toNat) | none => false)
  | .wakeRepeatExpiry => timerDue p.nu.wakeTimer p.tb
  | .slotCompletionEnd => !p.rq.completions.isEmpty
  | .applySettings => p.sl.current.isNone && (headOf (Request.is 1) p.rq.sl).isSome
  | .lockSettings => p.sl.current.isNone && (headOf (Request.is 2) p.rq.sl).isSome
  | .settingsSnapshotEnd => p.sl.op == .snapshot
  | .settingsWriteBackEnd => (match p.sl.op with | .writeBack .. => true | _ => false)
  | .timeCapture => (headOf (Request.is 8) p.rq.rq).isSome
  | .countersRead => (headOf (Request.isCounters 1) p.rq.rq).isSome
  | .countersReadAndClear => (headOf (Request.isCounters 2) p.rq.rq).isSome
  | .countersBadArg => (headOf Request.isBadCounters p.rq.rq).isSome
  | .badKind => (headOf Request.isBadKind p.rq.rq).isSome
  | .refresh => (headOf (Request.is 10) p.rq.nu).isSome

/-! ### What the statements say of a state -/

/-- A fault stands in the active fault set (R178). -/
abbrev FaultActive (f : FaultName) (t : State) : Prop := t.part.nu.faults &&& f.set ≠ 0#7

/-- A request has completed with this result code and data, and its slot is written or about to be (R165). -/
abbrev CompletedWith (r : Request) (done : Bool) (code : Word) (data : List Word) (t : State) : Prop :=
  (⟨r.slot, done, code, resultData data⟩ : Completion) ∈ t.part.rq.completions

/-- A record of the class is being written, or its content waits in the shadow (R175, R177). -/
abbrev NoticeUnderWay (c : NoticeClass) (t : State) : Prop :=
  (t.part.nu.classes.get c).publishing ≠ none ∨ (t.part.nu.classes.get c).shadow ≠ none

/-- The class's publication starts between s and t with this coalesce count and payload: its 48 words are the header of R176, the
payload, and 0 after it (R176, R187). -/
abbrev Publishes (c : NoticeClass) (coalesce : Nat) (payload : List Word) (s t : State) : Prop :=
  (t.part.nu.classes.get c).publishing =
    some ([(s.part.nu.classes.get c).seq + 1#16, s.part.tb.extractLsb' 16 16, s.part.tb.extractLsb' 0 16,
      word (classNumber c), word coalesce] ++ payload ++ List.replicate (43 - payload.length) 0#16)

/-- An offer to the class publishes at once: it is IDLE and not publishing, and the reset's work has ended (R174, R175). -/
abbrev PublishesAtOnce (c : NoticeClass) (s : State) : Prop :=
  s.part.resetWork = none ∧ (s.part.nu.classes.get c).state = .idle ∧ (s.part.nu.classes.get c).publishing = none

/-- The class that an offer reaches (R175, R178). -/
def Offer.cls : Offer → NoticeClass
  | .content c => c.cls
  | .faults _ _ => .fault

/-- The fault that an offer has join the active fault set (R178). -/
def Offer.joins : Offer → Option FaultName
  | .content _ => none
  | .faults join _ => join

/-- The faults that an offer has leave the active fault set (R178). -/
def Offer.leaves : Offer → FaultSet
  | .content _ => 0#7
  | .faults _ leave => leave

/-- The faults (11.1). -/
def allFaults : List FaultName :=
  [.sensorFault, .linkFault, .baseRefused, .penSilent, .penCooldown, .penLockout, .settingsRejected]

/-- The inactivity timer has been restarted at the TB value of s (R142). -/
abbrev InactivityRestarted (s t : State) : Prop :=
  t.part.sa.inactivity =
    (if s.part.sl.inForce.inactivityTime = 0 ∨ s.part.sl.inForce.keepAwake = true then none
     else some ⟨s.part.tb, s.part.sl.inForce.inactivityTime * 1000⟩)

/-- One advice of this kind code and these causes has been offered between s and t, with this posture told to SA and the rest of
SA's state as t has it: it is published, where ADVICE can publish at once (R149). -/
abbrev Advised (kind causes : Word) (q : Posture) (s t : State) : Prop :=
  PublishesAtOnce .advice s → Publishes .advice 0
    [kind, causes, word q.code, word t.part.sa.hostState.code, word t.part.sa.advisor.code, flagWord t.part.sa.dimmed] s t

/-- One activity has been taken between s and t while the host runs (R142). -/
abbrev ActivityTaken (s t : State) : Prop :=
  InactivityRestarted s t ∧
  (s.part.sa.advisor = .idle →
    t.part.sa.advisor = .active ∧ t.part.sa.dimmed = false ∧ Advised 2#16 0#16 s.part.sa.posture s t) ∧
  (s.part.sa.advisor ≠ .idle →
    t.part.sa.advisor = s.part.sa.advisor ∧ t.part.sa.dimmed = s.part.sa.dimmed ∧
    t.part.nu.classes.advice = s.part.nu.classes.advice)

/-- A wake cause has been taken between s and t in WATCHING, with this posture told to SA: WAKE is advised, and a link in HIBERNATE
is ordered to STALL (R147, R148). -/
abbrev WakeAdvised (cause : Word) (q : Posture) (s t : State) : Prop :=
  t.part.sa.advisor = .watching ∧ Advised 5#16 cause q s t ∧
  (s.part.bl.link = .hibernate →
    t.part.bl.target = .stall ∧
    (t.part.bl.link = .waking ∨ (t.part.bl.link = .hibernate ∧ t.part.bl.pendingWake = true)))

/-- A pending wake stands in HIBERNATE although the minimum time has passed (R70): no command leaves it so (`LinkInv`). -/
abbrev WakeOverdue (s : State) : Prop :=
  s.part.bl.link = .hibernate ∧ s.part.bl.pendingWake = true ∧ s.part.bl.minHibTimer = none

/-- The setpoint that stood before a window, reduced to the limits in force (R107, R127). -/
def restoredSetpoint (p : Part) : Nat :=
  let b := min (min 500 p.sl.inForce.ceiling) (minLimit p.cc.budgetLimit p.cc.thermalLimit)
  if p.pn.restore ≤ b then p.pn.restore else if b < 20 then 0 else b / 10 * 10

/-- The request r at the head of its owner's queue has been taken, `q` being the queues after it, and its completion stands last
in line (R165). -/
abbrev TakenWith (r : Request) (done : Bool) (code : Word) (data : List Word) (q : Rq) (t : State) : Prop :=
  t.part.rq = { q with completions := q.completions ++ [⟨r.slot, done, code, resultData data⟩] }

/-- A class is eligible for a claim (R179): PENDING, unmasked, and its priority value below the service level. -/
abbrev Claimable (s : State) (c : NoticeClass) : Prop :=
  (s.part.nu.classes.get c).state = .pending ∧ (s.part.sl.inForce.classes.get c).mask = false ∧
  (s.part.sl.inForce.classes.get c).priority < s.part.nu.serviceLevel

/-- SILENT has been entered with its fault (R115). -/
abbrev GoneSilent (s t : State) : Prop :=
  t.part.cc.session = .silent ∧ t.part.cc.setpoint = 0 ∧ t.part.cc.windowTimer = none ∧
  (s.part.resetWork = none → FaultActive .penSilent t)

/-- A failed window has led to PAUSED, for a pause cause that stands (R114, log entry 20). -/
abbrev FailedIntoPause (s t : State) : Prop :=
  t.part.cc.session = .paused ∧ t.part.cc.setpoint = 0 ∧ t.part.cc.stateTimer = none ∧
  t.part.cc.windowTimer = some ⟨s.part.tb, s.part.sl.inForce.chargePeriod⟩

/-- The talk window in progress in s has failed in t (R107, R111). -/
abbrev WindowFailed (s t : State) : Prop :=
  (t.part.pn.phase = .idle ∧ t.part.pn.granted = 0 ∧
    t.part.pn.failedWindows = min (s.part.pn.failedWindows + 1) 65535) ∧
  (s.part.cc.session = .waking →
    (s.part.cc.wakingWindows < 3 →
      t.part.cc.session = .waking ∧ t.part.cc.setpoint = 0 ∧ t.part.cc.windowTimer = some ⟨s.part.tb, 50⟩) ∧
    (3 ≤ s.part.cc.wakingWindows → s.part.cc.prechargeRounds < 2 →
      (t.part.cc.session = .precharge ∨ (t.part.cc.session = .paused ∧ t.part.cc.causes.any = true)) ∧
      t.part.cc.prechargeRounds = s.part.cc.prechargeRounds + 1) ∧
    (3 ≤ s.part.cc.wakingWindows → 2 ≤ s.part.cc.prechargeRounds → GoneSilent s t)) ∧
  (s.part.cc.session ∈ [.charging, .topped, .paused] →
    t.part.pn.failures = s.part.pn.failures + 1 ∧
    (3 ≤ s.part.pn.failures + 1 → GoneSilent s t) ∧
    (s.part.pn.failures + 1 < 3 →
      if s.part.cc.session = .charging ∧ t.part.cc.causes.any = true then FailedIntoPause s t
      else t.part.cc.session = s.part.cc.session ∧ t.part.cc.windowTimer = some ⟨s.part.tb, 50⟩)) ∧
  (s.part.cc.session = .precharge →
    if t.part.cc.causes.any = true then FailedIntoPause s t
    else t.part.cc.session = .precharge ∧ t.part.cc.stateTimer = s.part.cc.stateTimer ∧
      t.part.cc.windowTimer = s.part.cc.windowTimer) ∧
  (s.part.cc.session ≠ .waking → t.part.cc.setpoint ≤ s.part.pn.restore) ∧
  (s.part.cc.session ∈ [.precharge, .charging] → t.part.cc.session = s.part.cc.session →
    t.part.cc.setpoint = restoredSetpoint s.part) ∧
  (s.part.cc.session = .topped ∨ s.part.cc.session = .paused → t.part.cc.setpoint = 0)

/-- A charge fault of this kind has been taken between s and t (R131). -/
abbrev ChargeFaulted (k : ChargeFault) (s t : State) : Prop :=
  (t.part.cc.lastFault = k ∧ t.part.cc.setpoint = 0 ∧ t.part.pn.phase = .idle) ∧
  (s.part.cc.session ≠ .lockout → s.part.cc.history = none →
    t.part.cc.session = .cooldown ∧ t.part.cc.stateTimer = some ⟨s.part.tb, 5000⟩ ∧
    t.part.cc.history = some ⟨s.part.tb, 60000⟩ ∧
    (s.part.resetWork = none → FaultActive .penCooldown t ∧ t.part.nu.lastFault = some .penCooldown)) ∧
  (s.part.cc.session ≠ .lockout → s.part.cc.history ≠ none →
    t.part.cc.session = .lockout ∧ t.part.cc.stateTimer = none ∧ t.part.cc.history = none ∧
    (s.part.resetWork = none →
      FaultActive .penLockout t ∧ ¬ FaultActive .penCooldown t ∧ t.part.nu.lastFault = some .penLockout)) ∧
  (s.part.cc.session = .lockout → t.part.cc.session = .lockout ∧ t.part.cc.history = s.part.cc.history)

/-- The command is a host's transaction on the port. -/
def Instr.isHostAccess : Instr → Bool
  | .acknowledge | .take _ | .endService _ | .attention _ | .xmWordWrite .. | .read .. | .write .. | .update .. | .portRead _
  | .unknownCommand _ | .transactionEnd => true
  | .fullReset | .softReset | .resetWorkEnd | .tbTick | .configurationStepEnd .. | .sampleDue | .sampleArrival ..
  | .faultAttemptDue | .faultAttemptEnd .. | .filteredLevelChange .. | .debounceExpiry _ | .holdTimerExpiry
  | .postureDwellExpiry | .orientationDwellExpiry | .lineBreakReceived _ | .frameGapTimeout _ | .frameDiscard _ | .hello ..
  | .keys .. | .motion .. | .status .. | .reply .. | .exchangeSent | .replyTimerExpiry | .powerGoodExpiry | .lineResetEnd
  | .activateTimeExpiry | .helloTimerExpiry | .stallIdleExpiry | .minimumHibernateExpiry | .wakeBreakEnd | .baseRetry
  | .profileSnapshotEnd | .baseAttribute | .profileReload | .settlingExpiry | .windowDue | .quietEnd | .breakEnd
  | .pollSent | .syncStart | .syncWaitExpiry | .syncMeasureTimeout | .syncReceived .. | .reportStart
  | .reportWaitExpiry | .reportGapTimeout | .report .. | .grantSent | .prechargeExpiry | .overcurrent _
  | .cooldownExpiry | .faultHistoryExpiry | .penControlStop | .penControlResume | .penControlClearLockout
  | .penControlBadArg | .setHostState | .inactivityExpiry | .graceExpiry | .recordPublicationEnd _ | .wakePulseEnd
  | .wakeRepeatExpiry | .slotCompletionEnd | .applySettings | .settingsSnapshotEnd | .lockSettings | .timeCapture
  | .countersRead | .countersReadAndClear | .countersBadArg | .badKind | .refresh | .resetnRelease _
  | .profileResultWriteEnd | .settingsWriteBackEnd => false

/-- The four inputs. -/
def allInputs : List Input := [.lidh, .foldh, .penh, .bpres]

/-- The settings area as it stands. -/
def areaOf (s : State) : List Word := s.xm.readAll settingsBase 224

/-! ### Exchange memory, slots and held operations -/

/-- The content of a word after a full reset (R160): the control words, the default settings, and 0 elsewhere; ACKNOWLEDGE
answers that no class is eligible. -/
def fullResetWord (a : Nat) : Word :=
  match a with
  | 0 => 1#16
  | 1 => 1#16
  | 3 => 0xFFFF#16
  | 7 => 1#16
  | _ => if 0x20 ≤ a ∧ a < 0x100 then settingsDefault (a - 0x20) else 0#16

/-- XM is in its canonical form. -/
abbrev MemoryInv (s : State) : Prop := s.xm.wf = true

/-- Every request that the part holds: the owners' queues, the current requests of PW and SL. -/
def heldRequests (p : Part) : List Request :=
  p.rq.sl ++ p.rq.sa ++ p.rq.pw ++ p.rq.bl ++ p.rq.cc ++ p.rq.rq ++ p.rq.nu
    ++ (p.pw.current.map (·.1)).toList ++ p.sl.current.toList

/-- The slots of the requests that the part holds and of the completions being written. -/
def busySlots (p : Part) : List Nat := (heldRequests p).map (·.slot) ++ p.rq.completions.map (·.slot)

/-- R162: each request and each completion stands for one ACCEPTED slot of its own. -/
abbrev SlotInv (s : State) : Prop :=
  (busySlots s.part).Nodup ∧ ∀ n ∈ busySlots s.part, n < 8 ∧ s.xm.read (slotBase n) = slotAccepted

/-- The words that held operations and the reset's work will write lie in their own ranges (R158). -/
abbrev WritesInv (p : Part) : Prop :=
  (∀ w, p.resetWork = some w → ∀ r ∈ w.writes, r.1 < 224) ∧
  (∀ ws new code, p.sl.op = .writeBack ws new code → ∀ r ∈ ws, r.1 < 224) ∧
  (∀ c ∈ p.rq.completions, c.data.length = 15) ∧
  p.pw.results.length = 32

/-! ### Notices (chapter 11) -/

/-- A class that is publishing is IDLE, and its record has 48 words (R176). -/
abbrev CellInv (c : ClassCell) : Prop := ∀ ws, c.publishing = some ws → c.state = .idle ∧ ws.length = 48

/-- R158, R176: the classes that are publishing stand in line for their records once each. R177, R178: a shadow holds content of
its own class, and KEYS keeps none. R176, R179: the cells, the service level and ATTN. -/
abbrev NoticeInv (p : Part) : Prop :=
  p.nu.writing.Nodup ∧
  (∀ c ∈ allClasses, c ∈ p.nu.writing ↔ (p.nu.classes.get c).publishing ≠ none) ∧
  (∀ c ∈ allClasses, CellInv (p.nu.classes.get c)) ∧
  (∀ c ∈ allClasses, ∀ h ∈ (p.nu.classes.get c).shadow, h.cls = c ∧ c ≠ .keys) ∧
  p.nu.serviceLevel = serviceLevelOf p.sl.inForce p.nu.classes ∧
  p.nu.attn = allClasses.any (eligibleAt p.sl.inForce p.nu.classes p.nu.serviceLevel)

/-! ### The charge controller (chapters 6 and 7) -/

/-- R116, R123, R127, R128: the budget limit is that of B and the reservation; the setpoint keeps under every limit, and is 0
outside PRECHARGE and CHARGING, in a talk window and under the contact guard; no window runs under the guard. -/
abbrev ChargeInv (p : Part) : Prop :=
  p.cc.budgetLimit = budgetLimitOf p.cc.budget p.cc.reservation ∧
  p.cc.setpoint ≤ p.cc.budgetLimit ∧
  p.cc.setpoint ≤ p.sl.inForce.ceiling ∧
  p.cc.setpoint ≤ minLimit 500 p.cc.thermalLimit ∧
  (0 < p.cc.setpoint →
    (p.cc.session = .precharge ∨ p.cc.session = .charging) ∧ p.pn.phase = .idle ∧ p.cc.guard = none) ∧
  (p.cc.guard ≠ none → p.pn.phase = .idle)

/-! ### The base link and the key tracker (chapters 4 and 5) -/

/-- The link state permits the exchange (R59). -/
def Link.permits (l : Link) : Exchange → Bool
  | .mode .. => l.sendsMode
  | .query => l.sendsQuery
  | .attr _ => l.sendsAttr

/-- R59: the exchange outstanding or being sent is one that the link state permits. R76: no reservation without VBASE_EN. R62,
R64, R67, R70: each timer of the link runs only in the states that it times. R70: in WAKING no MODE is queued, being sent or
outstanding until the wake break, which comes first, and the activate time after it have ended; a pending wake waits in HIBERNATE
for the minimum time alone. -/
abbrev LinkInv (p : Part) : Prop :=
  (∀ x, p.bl.exch = some x → p.bl.link.permits x = true) ∧
  (p.bl.vbaseEn = false → p.bl.reservation = 0) ∧
  (p.bl.powerTimer ≠ none → p.bl.link = .powering) ∧
  (p.bl.helloTimer ≠ none → p.bl.link = .identifying) ∧
  (p.bl.stallTimer ≠ none → p.bl.link = .active) ∧
  (p.bl.minHibTimer ≠ none → p.bl.link = .hibernate) ∧
  (p.bl.activateTimer ≠ none → p.bl.link = .activating ∨ p.bl.link = .waking) ∧
  (p.bl.pendingWake = true → p.bl.link = .hibernate ∧ p.bl.minHibTimer ≠ none) ∧
  (p.bl.lineOrder = some .wakeBreak →
    p.bl.link = .waking ∧ p.bl.activateTimer = none ∧ p.bl.tx ≠ some (.wakeBreak true)) ∧
  (p.bl.tx = some (.wakeBreak true) → p.bl.link = .waking ∧ p.bl.activateTimer = none) ∧
  (p.bl.link = .waking →
    p.bl.lineOrder = some .wakeBreak ∨ p.bl.tx = some (.wakeBreak true) ∨ p.bl.activateTimer ≠ none →
    p.bl.qMode = none ∧ p.bl.exch = none)

/-- R95, R96: D is contained in P, both hold no code twice and at most 16, the key queue and D hold at most 32 together, and D is
empty under suppression and outside ACTIVE and STALL. R94, R97, R99: no code stands in both D and I, and I is contained in P while
suppression is off. -/
abbrev KeyInv (p : Part) : Prop :=
  p.kt.held.Nodup ∧ p.kt.held.length ≤ 16 ∧ p.kt.down.Nodup ∧ (∀ k ∈ p.kt.down, k ∈ p.kt.held) ∧
  p.kt.queue.length + p.kt.down.length ≤ 32 ∧
  (p.kt.suppression = true ∨ p.bl.link.live = false → p.kt.down = []) ∧
  (∀ k ∈ p.kt.down, k ∉ p.kt.ignored) ∧
  (p.kt.suppression = false → ∀ k ∈ p.kt.ignored, k ∈ p.kt.held)

/-! ### Angle, posture and orientation (chapters 2 and 3) -/

/-- R26, R28, R30: F lies on the circle; an angle is published exactly while the validity is not UNKNOWN, and lies in 0..2880;
the hold timer runs then. -/
abbrev AngleInv (p : Part) : Prop :=
  p.ae.f < 46080 ∧
  (p.ae.validity = .unknown → p.ae.published = none ∧ p.ae.hold = none ∧ p.ae.base = none) ∧
  (p.ae.validity ≠ .unknown → p.ae.hold ≠ none ∧ p.ae.base ≠ none ∧ p.ae.published ≠ none) ∧
  (∀ a, p.ae.published = some a → a ≤ 2880)

/-- R42: with the link not attached DETACHED is published and no dwell runs. -/
abbrev PostureInv (p : Part) : Prop :=
  p.bl.link.attached = false → p.pc.published = .detached ∧ p.pc.dwell = none

/-- R51: the hold is that of the settings and the posture, and a held rotation has no candidate. -/
abbrev OrientationInv (p : Part) : Prop :=
  p.ot.hold = holdFor p.sl.inForce p.ot.posture ∧
  (p.ot.hold ≠ .none → p.ot.candidate = none ∧ p.ot.dwell = none) ∧
  (p.ot.hold = .posture → p.ot.rotation = .rot0)

/-! ### The sleep advisor, and what blocks are told (chapter 8) -/

/-- 8.1: WATCHING exactly while the host does not run, and no timer of SA runs then. -/
abbrev AdvisorInv (p : Part) : Prop :=
  (p.sa.advisor = .watching ↔ p.sa.hostState ≠ .running) ∧
  (p.sa.advisor = .watching → p.sa.inactivity = none ∧ p.sa.grace = none)

/-- Blocks hold what they were last told: the posture (R45), suppression (R44, R77), the reservation (R76), the host state and
the budget (R122, R139), and the sampling rate (R9). -/
abbrev AgreeInv (p : Part) : Prop :=
  p.sa.posture = p.pc.published ∧ p.ot.posture = p.pc.published ∧
  p.kt.suppression = p.pc.suppression ∧ p.bl.quiet = p.pc.suppression ∧
  p.cc.reservation = p.bl.reservation ∧ p.nu.hostState = p.sa.hostState ∧
  p.cc.budget = budgetOf p.sl.inForce p.sa.hostState ∧ p.sp.rate = rateOf p.sa.hostState

/-! ### A full reset in force (R160) -/

/-- While RESETN is low the part holds its reset values, and follows only the levels of the pins (R160, log entry 30). -/
abbrev ResetLineInv (p : Part) : Prop :=
  p.resetLow = true → p = Part.reset (pinLevels p) Settings.default ⟨[], false⟩ true

/-! ### PART_STATE (chapter 1) -/

/-- R5, R10: STARTING while the configuration step or the reset's work runs; after it DEGRADED exactly while the sensor is
FAULTED. The configuration step of a reset is in flight only in CONFIGURING (R4), a sample only in HEALTHY, and an attempt only
in FAULTED (R6, R11). -/
abbrev PartStateInv (p : Part) : Prop :=
  (∀ t, p.sp.flight = .config t → p.sp.health = .configuring) ∧
  (∀ t, p.sp.flight = .sample t → p.sp.health = .healthy) ∧
  (∀ t, p.sp.flight = .attempt t → p.sp.health = .faulted) ∧
  (p.resetWork ≠ none ∨ p.sp.health = .configuring → p.partState = .starting) ∧
  (p.resetWork = none ∧ p.sp.health = .healthy → p.partState = .ready) ∧
  (p.resetWork = none ∧ p.sp.health = .faulted → p.partState = .degraded)

end Sys2Proof.Machine
end

