-- ==== Sys2Proof/Certificates/Slice0/Obligations.lean ====
section
/-! DEFINITION. The statements for the provers, one proposition each; OBLIGATIONS.json lists them. -/

open Sys2Proof Sys2Proof.Machine

/-- O1. For every command c and state s, step of s with c put at the front of its queue is exec of c on s with the queue's
rest. On an empty queue the step answers the same state; that idling is the model's choice (log entry 24).
(95_what_each_step_holds.md, introduction, 00_scope.md, Block overview) -/
def Obligations.StepRunsTheFrontCommand : Prop :=
  (∀ (c : Instr) (s : State),
    step { s with pending := c :: s.pending } = exec c s) ∧
  (∀ (s : State),
    s.pending = [] → step s = .next s)

/-- O2. Every command, in every state and with any operands, answers a next state (never a fault or a refusal), in which
the commands that wait are those that waited before. (00_scope.md, Block overview, 95_what_each_step_holds.md,
introduction) -/
def Obligations.EveryCommandAnswersANextStateAndKeepsTheQueue : Prop :=
  ∀ (i : Instr) (s : State),
    Completes i s fun t => t.pending = s.pending

/-- O3. For every command and state, each kind of state (Safety.lean, Block) that the command is not said to reach
(Instr.reaches) holds after it what it held before: timers, registers, sets, queues, the settings in force, the active
fault set and every word of the exchange memory. It is the frame of every command, block by block.
(95_what_each_step_holds.md, the list of steps, 00_scope.md, Block overview) -/
def Obligations.BlocksOutOfReachKeep : Prop :=
  ∀ (i : Instr) (s : State),
    Completes i s fun t => ∀ b ∈ allBlocks, b ∉ Instr.reaches i → b.same s t

/-- O4. Where the event of a command cannot occur (Instr.occurs: a timer that does not run or has not run out, a held
operation that is not under way, a request that does not stand at the head of its queue, a frame while the receiver does
not listen that has no noisy character complete while it did or that comes under a full reset in force, a transaction that
the port does not take), the command answers the same state. It is the model's choice for such commands (log entry 1); the
rules give these events no occurrence. (R2, R53, R160, 95_what_each_step_holds.md, introduction) -/
def Obligations.EventsThatCannotOccurChangeNothing : Prop :=
  ∀ (i : Instr) (s : State),
    Instr.occurs i s = false → exec i s = .next s

/-- O5. After FULL_RESET every block holds its reset values under the default settings, with the pins' levels kept, RESETN
low and the reset's work on XM running; every word of XM reads what the table of R160 gives (ACKNOWLEDGE, read without its
claim, 0xFFFF). Values that no rule gives are the model's (log entries 7 to 12), and that no word of a held operation cut
short is written is log entry 13. When RESETN rises the configuration step starts, the inactivity timer starts unless its
time is 0 or keep-awake is on, each input whose filtered state differs from its debounced state starts its debounce, and
with HCS already low the port takes no transaction. Each millisecond outside a full reset adds one to TB modulo 2^32 and
changes nothing else. (R1, R4, R16, R34, R47, R63, R80, R91, R109, R137, R160, R174) -/
def Obligations.FullResetAndTimeBase : Prop :=
  (∀ (s : State),
    Completes .fullReset s fun t =>
      t.part = Part.reset (pinLevels s.part) Settings.default ⟨[], false⟩ true ∧
      ∀ a, a < 0x800 → peek t a = fullResetWord a) ∧
  (∀ (hcsLow : Bool) (s : State),
    s.part.resetLow = true →
    Completes (.resetnRelease hcsLow) s fun t =>
      t.part.resetLow = false ∧
      t.part.hp = { s.part.hp with blocked := hcsLow } ∧
      t.part.sp = { s.part.sp with flight := .config s.part.tb } ∧
      t.part.sa = { s.part.sa with
        inactivity := if s.part.sl.inForce.inactivityTime = 0 ∨ s.part.sl.inForce.keepAwake = true then none
          else some ⟨s.part.tb, s.part.sl.inForce.inactivityTime * 1000⟩ } ∧
      ∀ k ∈ allInputs,
        (t.part.inp.get k).level = (s.part.inp.get k).level ∧
        (t.part.inp.get k).debounced = (s.part.inp.get k).debounced ∧
        (t.part.inp.get k).timer =
          (if filteredActive s.part.sl.inForce k (s.part.inp.get k).level = (s.part.inp.get k).debounced then none
           else some ⟨s.part.tb,
             debounceTime k (filteredActive s.part.sl.inForce k (s.part.inp.get k).level)⟩)) ∧
  (∀ (s : State),
    s.part.resetLow = false →
    exec .tbTick s = .next { s with part := { s.part with tb := s.part.tb + 1#32 } })

/-- O6. While the port takes transactions SOFT_RESET sets TB to 0, every block to its reset values under the settings that
the apply of R173 gives, starts the configuration step, starts the inactivity timer unless its time is 0 or keep-awake is
on, starts the debounce of each input whose filtered state is active, its level kept, and starts the reset's work with the
words of that apply. The settings area, the attach profile table and the host area keep their words; every other word
above the control words reads 0. An area that the structural checks refuse gives the default settings and the whole
default area to write. That the applied settings are in force from the command on is log entry 21, and that their words
are written at RESET_WORK_END log entry 13; the values kept where no rule gives one are log entries 7 to 12. (R159, R161,
R173, R1, R4, R16, R63, R80, R91, R109, R137, R174) -/
def Obligations.SoftReset : Prop :=
  ∀ (s : State),
    portFree s.part = true →
    Completes .softReset s fun t =>
      (t.part.tb = 0#32 ∧ t.part.resetLow = false ∧ t.part.partState = .starting) ∧
      t.part.resetWork = some (softApply (areaOf s)).2 ∧
      t.part.sl = Sl.reset (softApply (areaOf s)).1 ∧
      (t.part.cc = Cc.reset (softApply (areaOf s)).1 ∧ t.part.ot = Ot.reset (softApply (areaOf s)).1) ∧
      (t.part.sp = { Sp.reset with flight := .config 0#32 } ∧ t.part.ae = .reset ∧ t.part.pc = .reset) ∧
      (t.part.bl = .reset ∧ t.part.pw = .reset ∧ t.part.kt = .reset ∧ t.part.pn = .reset) ∧
      (t.part.hp = .reset ∧ t.part.rq = .reset ∧ t.part.nu = .reset) ∧
      t.part.sa = { Sa.reset with
        inactivity :=
          if t.part.sl.inForce.inactivityTime = 0 ∨ t.part.sl.inForce.keepAwake = true then none
          else some ⟨0#32, t.part.sl.inForce.inactivityTime * 1000⟩ } ∧
      (∀ k ∈ allInputs,
        t.part.inp.get k = ⟨(s.part.inp.get k).level, false,
          if filteredActive t.part.sl.inForce k (s.part.inp.get k).level = true
          then some ⟨0#32, debounceTime k true⟩ else none⟩) ∧
      (∀ a, keptAtSoftReset a = true → t.xm.read a = s.xm.read a) ∧
      (∀ a, keptAtSoftReset a = false → t.xm.read a = 0#16) ∧
      (offences (areaOf s) ≠ [] → t.part.sl.inForce = Settings.default ∧ t.part.resetWork = some ⟨defaultArea, true⟩)

/-- O7. With RESETN high, the end of the reset's work writes each of its words into the settings area (offsets below 224,
each once, in a memory in canonical form) and no other word; no offer waits after it: the class of each that waited is
publishing or has it in its shadow (KEYS out of IDLE leaves it in the key queue), a fault that a waiting offer raised is
active unless a later one clears it, one that it cleared is not unless one raises it, and the code of the last that raised
stands; PART_STATE leaves STARTING when the configuration step has ended, for DEGRADED while the sensor is FAULTED and for
READY otherwise, and stays as it is in every other case; and where the area was refused SETTINGS_REJECTED is active unless
a waiting offer clears it, its code standing unless one raises a fault (log entry 42). That the words are written at this
command is log entry 13. (R5, R158, R161, R173, R174, R178, R175) -/
def Obligations.ResetWorkEnds : Prop :=
  ∀ (w : ResetWork) (s : State),
    s.part.resetWork = some w → s.part.resetLow = false →
    (∀ r ∈ w.writes, r.1 < 224) → (w.writes.map (·.1)).Nodup → MemoryInv s →
    Completes .resetWorkEnd s fun t =>
      t.part.resetWork = none ∧ t.part.nu.deferred = [] ∧
      (∀ r ∈ w.writes, t.xm.read (settingsBase + r.1) = r.2) ∧
      (∀ a, (∀ r ∈ w.writes, a ≠ settingsBase + r.1) → t.xm.read a = s.xm.read a) ∧
      t.part.partState =
        (if s.part.partState = .starting ∧ s.part.sp.health ≠ .configuring
         then (if s.part.sp.health = .faulted then .degraded else .ready) else s.part.partState) ∧
      (w.rejected = true →
        ((∀ o ∈ s.part.nu.deferred, o.leaves &&& FaultName.settingsRejected.set = 0#7) → FaultActive .settingsRejected t) ∧
        ((∀ o ∈ s.part.nu.deferred, o.joins = none) → t.part.nu.lastFault = some .settingsRejected)) ∧
      (∀ o ∈ s.part.nu.deferred,
        NoticeUnderWay o.cls t ∨ (o.cls = .keys ∧ s.part.nu.classes.keys.state ≠ .idle)) ∧
      (∀ f ∈ allFaults, ∀ k < s.part.nu.deferred.length,
        (s.part.nu.deferred[k]?.bind Offer.joins = some f →
          ((∀ o ∈ s.part.nu.deferred.drop (k + 1), o.leaves &&& f.set = 0#7) → FaultActive f t) ∧
          ((∀ o ∈ s.part.nu.deferred.drop (k + 1), o.joins = none) → t.part.nu.lastFault = some f)) ∧
        ((s.part.nu.deferred[k]?.map Offer.leaves).getD 0#7 &&& f.set ≠ 0#7 →
          (∀ o ∈ s.part.nu.deferred.drop k, o.joins ≠ some f) → ¬ FaultActive f t))

/-- O8. A step in flight succeeds when one of its two tries reads the identity 0x5C and the range back as written: health
becomes HEALTHY, the failure run 0, and the first sample is due at once unless the schedule is stopped. Otherwise health
becomes FAULTED with both runs 0 and the next attempt due 1000 ms after the step began, AE becomes UNKNOWN with reason
SENSOR_FAULT, and, once the reset's work has ended, SENSOR_FAULT is active with its code. PART_STATE leaves STARTING, for
READY or DEGRADED, when the reset's work has ended. (R4, R5, R9, R10, R31) -/
def Obligations.ConfigurationStepEnds : Prop :=
  (∀ (start : Time) (f g : ConfigTry) (s : State),
    s.part.sp.flight = .config start →
    (f.identity = 0x5C#8 ∧ f.rangeHeld = true) ∨ (g.identity = 0x5C#8 ∧ g.rangeHeld = true) →
    Completes (.configurationStepEnd f g) s fun t =>
      t.part.sp = { s.part.sp with
        flight := .none, health := .healthy, failureRun := 0
        nextDue := if s.part.sp.rate = .stopped then none else some s.part.tb } ∧
      t.part.partState =
        (if s.part.partState = .starting ∧ s.part.resetWork = none then .ready else s.part.partState)) ∧
  (∀ (start : Time) (f g : ConfigTry) (s : State),
    s.part.sp.flight = .config start →
    ¬ (f.identity = 0x5C#8 ∧ f.rangeHeld = true) → ¬ (g.identity = 0x5C#8 ∧ g.rangeHeld = true) →
    Completes (.configurationStepEnd f g) s fun t =>
      t.part.sp = { s.part.sp with
        flight := .none, health := .faulted, failureRun := 0, goodRun := 0
        nextDue := if s.part.sp.rate = .stopped then none else some (start + 1000#32) } ∧
      (t.part.ae.validity = .unknown ∧ t.part.ae.reason = .sensorFault ∧ t.part.ae.published = none ∧
        t.part.ae.hold = none) ∧
      (s.part.resetWork = none → FaultActive .sensorFault t ∧ t.part.nu.lastFault = some .sensorFault) ∧
      t.part.partState =
        (if s.part.partState = .ready ∨ (s.part.partState = .starting ∧ s.part.resetWork = none) then .degraded
         else s.part.partState))

/-- O9. While HEALTHY, at its due time SP starts a sample unless something is in flight, and the next due time lies one
period (10 ms or 80 ms) after this one whatever is in flight. While FAULTED the same holds of attempts, on a grid of 1000
ms. Nothing else changes. The due time of the last sample started is kept for the change of rate (log entry 6). That an
attempt due while one is in flight is passed over is log entry 31, and that a due time past when it is set counts as
reached log entry 35. An attempt in flight is good when a try of its configuration step succeeds and an attempt of its
sample does. A failed attempt sets the good run to 0 and a good one below the fifth adds one to it, with nothing else
changed. The fifth makes health HEALTHY with both runs 0 and fresh start set, the next sample due one period after this
attempt's due time (none while the schedule is stopped), PART_STATE READY from DEGRADED, and takes SENSOR_FAULT from the
active fault set without a new fault code. (R6, R9, R11, R178) -/
def Obligations.DueTimesAndFaultedAttempts : Prop :=
  (∀ (d : Time) (s : State),
    s.part.sp.health = .healthy → s.part.sp.nextDue = some d → reached s.part.tb d = true →
    exec .sampleDue s = .next { s with part := { s.part with sp := { s.part.sp with
      nextDue := some (d + BitVec.ofNat 32 s.part.sp.rate.period)
      flight := if s.part.sp.flight = .none then .sample d else s.part.sp.flight
      lastDue := if s.part.sp.flight = .none then some d else s.part.sp.lastDue } } }) ∧
  (∀ (d : Time) (s : State),
    s.part.sp.health = .faulted → s.part.sp.nextDue = some d → reached s.part.tb d = true →
    exec .faultAttemptDue s = .next { s with part := { s.part with sp := { s.part.sp with
      nextDue := some (d + 1000#32)
      flight := if s.part.sp.flight = .none then .attempt d else s.part.sp.flight } } }) ∧
  (∀ (due : Time) (f g : ConfigTry) (a r : SampleTry) (s : State),
    s.part.sp.flight = .attempt due → attemptGood f g a r = false →
    exec (.faultAttemptEnd f g a r) s = .next { s with part := { s.part with sp := { s.part.sp with
      flight := .none, goodRun := 0 } } }) ∧
  (∀ (due : Time) (f g : ConfigTry) (a r : SampleTry) (s : State),
    s.part.sp.flight = .attempt due → attemptGood f g a r = true → s.part.sp.goodRun + 1 < 5 →
    exec (.faultAttemptEnd f g a r) s = .next { s with part := { s.part with sp := { s.part.sp with
      flight := .none, goodRun := s.part.sp.goodRun + 1 } } }) ∧
  (∀ (due : Time) (f g : ConfigTry) (a r : SampleTry) (s : State),
    s.part.sp.flight = .attempt due → attemptGood f g a r = true → 5 ≤ s.part.sp.goodRun + 1 →
    Completes (.faultAttemptEnd f g a r) s fun t =>
      t.part.sp = { s.part.sp with
        flight := .none, health := .healthy, failureRun := 0, goodRun := 0, fresh := true
        lastDue := if s.part.sp.rate = .stopped then none else some due
        nextDue := if s.part.sp.rate = .stopped then none
          else some (due + BitVec.ofNat 32 s.part.sp.rate.period) } ∧
      t.part.partState = (if s.part.partState = .degraded then .ready else s.part.partState) ∧
      (s.part.resetWork = none → ¬ FaultActive .sensorFault t ∧ t.part.nu.lastFault = s.part.nu.lastFault))

/-- O10. A sample in flight is good when its attempt or its retry reads identity 0x5C with data ready: the failure run and
the fresh start flag clear, SA keeps its axes, and AE has made a delivery. A failed sample adds one to the failure run and
changes nothing else while the run stays below 3. The failed sample that brings it to 3 makes health FAULTED with both
runs 0 and the next attempt due 1000 ms after this sample's due time, makes AE UNKNOWN with reason SENSOR_FAULT, moves
PART_STATE from READY to DEGRADED, and raises SENSOR_FAULT. (R7, R8, R9, R10, R31, R141) -/
def Obligations.SampleOutcome : Prop :=
  (∀ (due : Time) (v : Int × Int × Int) (a r : SampleTry) (s : State),
    s.part.sp.flight = .sample due → sampleReading a r = some v →
    Completes (.sampleArrival a r) s fun t =>
      t.part.sp = { s.part.sp with flight := .none, failureRun := 0, fresh := false } ∧
      t.part.sa.previous = some v ∧ t.part.pc.stored = t.part.ae.delivery) ∧
  (∀ (due : Time) (a r : SampleTry) (s : State),
    s.part.sp.flight = .sample due →
    ¬ (a.identity = 0x5C#8 ∧ a.ready = true) → ¬ (r.identity = 0x5C#8 ∧ r.ready = true) →
    s.part.sp.failureRun + 1 < 3 →
    exec (.sampleArrival a r) s = .next { s with part := { s.part with sp := { s.part.sp with
      flight := .none, failureRun := s.part.sp.failureRun + 1 } } }) ∧
  (∀ (due : Time) (a r : SampleTry) (s : State),
    s.part.sp.flight = .sample due →
    ¬ (a.identity = 0x5C#8 ∧ a.ready = true) → ¬ (r.identity = 0x5C#8 ∧ r.ready = true) →
    3 ≤ s.part.sp.failureRun + 1 →
    Completes (.sampleArrival a r) s fun t =>
      t.part.sp = { s.part.sp with
        flight := .none, health := .faulted, failureRun := 0, goodRun := 0
        nextDue := if s.part.sp.rate = .stopped then none else some (due + 1000#32) } ∧
      (t.part.ae.validity = .unknown ∧ t.part.ae.reason = .sensorFault ∧ t.part.ae.published = none) ∧
      t.part.partState = (if s.part.partState = .ready then .degraded else s.part.partState) ∧
      (s.part.resetWork = none → FaultActive .sensorFault t ∧ t.part.nu.lastFault = some .sensorFault))

/-- O11. A level that differs from the filtered level becomes it; the debounce timer is cancelled when the filtered state
equals the debounced state and otherwise started with the input's debounce time toward it; no other input and, but for
PENH, no other state changes. While RESETN is low the level alone is kept. A raw PENH absence while the pen is debounced
present and the guard is off turns the guard on: the setpoint is 0 and a window in progress is given up. A raw presence
under the guard ends it: in CHARGING and PRECHARGE, and in WAKING, TOPPED and PAUSED with the window due flag set, a
window starts, and its QUIET counts from the guard's cut; with the flag clear nothing follows; in SETTLING the 200 ms
start anew. That the 2 ms are measured in TB is log entry 32, and that a reset in force keeps the level alone log entry
30. (R13, R14, R16, R116, R117) -/
def Obligations.FilteredLevelsAndTheContactGuard : Prop :=
  (∀ (k : Input) (high : Bool) (s : State),
    (s.part.inp.get k).level ≠ high → s.part.resetLow = false →
    Completes (.filteredLevelChange k high) s fun t =>
      t.part.inp = s.part.inp.set k
        ⟨high, (s.part.inp.get k).debounced,
         if filteredActive s.part.sl.inForce k high = (s.part.inp.get k).debounced then none
         else some ⟨s.part.tb, debounceTime k (filteredActive s.part.sl.inForce k high)⟩⟩ ∧
      (k ≠ .penh → t = { s with part := { s.part with inp := t.part.inp } })) ∧
  (∀ (k : Input) (high : Bool) (s : State),
    (s.part.inp.get k).level ≠ high → s.part.resetLow = true →
    exec (.filteredLevelChange k high) s = .next { s with part := { s.part with
      inp := s.part.inp.set k { s.part.inp.get k with level := high } } }) ∧
  (∀ (high : Bool) (s : State),
    s.part.inp.penh.level ≠ high → s.part.resetLow = false →
    high ≠ s.part.sl.inForce.activeHigh.penh → s.part.inp.penh.debounced = true → s.part.cc.guard = none →
    Completes (.filteredLevelChange .penh high) s fun t =>
      t.part.cc.guard = some s.part.tb ∧ t.part.cc.setpoint = 0 ∧ t.part.pn.phase = .idle ∧
      (s.part.pn.phase ≠ .idle → t.part.cc.windowDue = true)) ∧
  (∀ (high : Bool) (since : Time) (s : State),
    s.part.inp.penh.level ≠ high → s.part.resetLow = false →
    high = s.part.sl.inForce.activeHigh.penh → s.part.cc.guard = some since →
    Completes (.filteredLevelChange .penh high) s fun t =>
      t.part.cc.guard = none ∧
      (s.part.cc.session = .charging ∨ s.part.cc.session = .precharge →
        t.part.pn.phase = (if 2 ≤ (s.part.tb - since).toNat then .breaking else .quiet) ∧ t.part.cc.setpoint = 0) ∧
      (s.part.cc.session ∈ [.waking, .topped, .paused] → s.part.cc.windowDue = true →
        t.part.pn.phase = (if 2 ≤ (s.part.tb - since).toNat then .breaking else .quiet) ∧ t.part.cc.setpoint = 0 ∧
        t.part.cc.windowDue = false ∧ t.part.cc.windowTimer = none ∧ t.part.pn.restore = 0 ∧
        t.part.cc.wakingWindows =
          (if s.part.cc.session = .waking then s.part.cc.wakingWindows + 1 else s.part.cc.wakingWindows)) ∧
      (s.part.cc.session ∈ [.waking, .topped, .paused] → s.part.cc.windowDue = false →
        t.part.pn = s.part.pn ∧ t.part.cc = { s.part.cc with guard := none }) ∧
      (s.part.cc.session = .settling → t.part.cc.stateTimer = some ⟨s.part.tb, 200⟩))

/-- O12. When a debounce timer has run out the debounced state takes the filtered state and the timer is cancelled, for
this input alone. A change of LIDH or FOLDH with the host RUNNING and a link in ACTIVE that no order takes to HIBERNATE
makes PC evaluate the delivery it holds: zone, seam side, candidate, dwell and suppression as at a sample. A pen come
present while ABSENT enters SETTLING for 200 ms with no pause cause and no failure counted. A pen gone enters ABSENT:
setpoint, grant, guard, history, report and identity are cleared, the window is given up, and the fault that the session
held leaves the active fault set. A base come present in DETACHED enters POWERING with the 5 ms timer and a reservation of
1200 mW. A base gone enters DETACHED: no exchange, no timer of the link, no pending wake, no held HELLO, no reservation,
no identity, and DETACHED is published. (R14, R64, R73, R76, R110, R118, R35, R37, R40, R44) -/
def Obligations.DebouncedChangesReachTheirBlocks : Prop :=
  (∀ (k : Input) (s : State),
    timerDue (s.part.inp.get k).timer s.part.tb = true →
    Completes (.debounceExpiry k) s fun t =>
      t.part.inp = s.part.inp.set k
        ⟨(s.part.inp.get k).level, filteredActive s.part.sl.inForce k (s.part.inp.get k).level, none⟩) ∧
  (∀ (k : Input) (s : State),
    timerDue (s.part.inp.get k).timer s.part.tb = true → k ∈ [.lidh, .foldh] →
    s.part.bl.link = .active → s.part.bl.target ≠ .hibernate → s.part.sa.hostState = .running →
    Completes (.debounceExpiry k) s fun t =>
      t.part.pc.stored = s.part.pc.stored ∧
      t.part.pc.zone = nextZone s.part.sl.inForce s.part.pc.stored s.part.pc.zone ∧
      t.part.pc.seam = nextSeam (s.part.pc.stored.validity == .unknown) t.part.inp.lidh.debounced t.part.inp.foldh.debounced
        s.part.pc.zone t.part.pc.zone s.part.pc.seam ∧
      t.part.pc.candidate = candidateOf .active t.part.inp.lidh.debounced t.part.inp.foldh.debounced t.part.pc ∧
      t.part.pc.published = s.part.pc.published ∧
      t.part.pc.dwell =
        (if t.part.pc.candidate = t.part.pc.published then none
         else if t.part.pc.candidate = s.part.pc.candidate then s.part.pc.dwell
         else some ⟨s.part.tb, s.part.sl.inForce.postureDwell⟩) ∧
      t.part.pc.suppression = suppressionAfter s.part.sl.inForce.suppressionMask s.part.pc.suppression
        t.part.pc.candidate t.part.pc.published ∧
      (t.part.pc.suppression ≠ s.part.pc.suppression →
        t.part.kt.suppression = t.part.pc.suppression ∧ t.part.bl.quiet = t.part.pc.suppression)) ∧
  (∀ (s : State),
    timerDue s.part.inp.penh.timer s.part.tb = true →
    filteredActive s.part.sl.inForce .penh s.part.inp.penh.level = true → s.part.cc.session = .absent →
    Completes (.debounceExpiry .penh) s fun t =>
      t.part.cc.session = .settling ∧ t.part.cc.stateTimer = some ⟨s.part.tb, 200⟩ ∧
      t.part.cc.causes = ⟨false, false, false⟩ ∧ t.part.cc.prechargeRounds = 0 ∧ t.part.pn.failures = 0) ∧
  (∀ (s : State),
    timerDue s.part.inp.penh.timer s.part.tb = true →
    filteredActive s.part.sl.inForce .penh s.part.inp.penh.level = false →
    Completes (.debounceExpiry .penh) s fun t =>
      (t.part.cc.session = .absent ∧ t.part.cc.setpoint = 0 ∧ t.part.cc.grant = 0 ∧ t.part.cc.guard = none ∧
        t.part.cc.history = none ∧ t.part.cc.stateTimer = none ∧ t.part.cc.windowTimer = none ∧
        t.part.cc.thermalLimit = none ∧ t.part.cc.causes = ⟨false, false, false⟩) ∧
      (t.part.pn.phase = .idle ∧ t.part.pn.penId = none ∧ t.part.pn.report = none ∧ t.part.pn.failures = 0) ∧
      ∀ f ∈ (sessionFault s.part.cc.session).toList, s.part.resetWork = none → ¬ FaultActive f t) ∧
  (∀ (s : State),
    timerDue s.part.inp.bpres.timer s.part.tb = true →
    filteredActive s.part.sl.inForce .bpres s.part.inp.bpres.level = true → s.part.bl.link = .detached →
    Completes (.debounceExpiry .bpres) s fun t =>
      t.part.bl.link = .powering ∧ t.part.bl.powerTimer = some ⟨s.part.tb, 5⟩ ∧ t.part.bl.reservation = 1200 ∧
      t.part.bl.expSeq = none ∧ t.part.bl.helloAttempts = 0 ∧ t.part.bl.vbaseEn = true ∧
      (s.part.bl.exch = none → t.part.bl.txSeq = 0#4)) ∧
  (∀ (s : State),
    timerDue s.part.inp.bpres.timer s.part.tb = true →
    filteredActive s.part.sl.inForce .bpres s.part.inp.bpres.level = false → s.part.bl.link ≠ .detached →
    Completes (.debounceExpiry .bpres) s fun t =>
      (t.part.bl.link = .detached ∧ t.part.bl.reservation = 0 ∧ t.part.bl.vbaseEn = false ∧ t.part.bl.ident = none ∧
        t.part.bl.status = none ∧ t.part.bl.ovReply = none ∧ t.part.bl.ovStall = none) ∧
      (t.part.bl.exch = none ∧ t.part.bl.quietQueue = true ∧ t.part.bl.replyTimer = none ∧
        t.part.bl.helloTimer = none ∧ t.part.bl.stallTimer = none ∧ t.part.bl.powerTimer = none ∧
        t.part.bl.activateTimer = none ∧ t.part.bl.minHibTimer = none ∧ t.part.bl.pendingWake = false ∧
        t.part.bl.heldHello = none) ∧
      t.part.pc.published = .detached)

/-- O13. At a lid sample that passes every check while validity is UNKNOWN, F becomes the sample value (16 times the raw
angle), the snap counter 0, validity VALID, reason NONE, the hold timer starts at this TB value, and the published angle
is that of F by R28 for the seam side at the arrival. Nothing of the F before enters. At a valid lid sample in VALID or
HELD, F and the snap counter follow the filter (R26), validity is VALID, the hold timer restarts, and the angle published
is that of the new F. At an invalid one F, the snap counter, the published angle, the hold timer and the valid base stay;
VALID and HELD become HELD, UNKNOWN stays, and the reason is that of the first check that failed. At the expiry validity
becomes UNKNOWN, the published angle none, the snap counter 0, the valid base absent and the timer is cancelled, F
standing as it was. The reason stays that of the last invalid sample; from VALID it is NO_BASE in host state OFF and NONE
otherwise. PC holds the UNKNOWN delivery. The difference is the signed shortest way round the circle; one above 128 times
the snap threshold counts a jump and leaves F as it is until the snap count is reached, when F becomes the sample value
and the counter 0. (R20, R25, R26, R28, R29, R30, R32) -/
def Obligations.SamplesAndTheHoldTimerSetTheAngle : Prop :=
  (∀ (due : Time) (v : Int × Int × Int) (b : BaseSample) (a r : SampleTry) (s : State),
    s.part.sp.flight = .sample due → sampleReading a r = some v → s.part.bl.sample = some b →
    failedCheck s.part.sl.inForce s.part.bl.link s.part.sa.hostState s.part.tb s.part.bl.absent s.part.bl.sample v = none →
    s.part.ae.validity = .unknown →
    Completes (.sampleArrival a r) s fun t =>
      t.part.ae =
        { validity := .valid
          reason := .none
          f := 16 * rawAngleOf (s.part.sl.inForce.lidMap.apply v) (s.part.sl.inForce.baseMap.apply b.reading)
          snap := 0
          published := some (publishedAngle s.part.sl.inForce s.part.pc.seam
            (16 * rawAngleOf (s.part.sl.inForce.lidMap.apply v) (s.part.sl.inForce.baseMap.apply b.reading)))
          hold := some ⟨s.part.tb, 2000⟩
          base := some (s.part.sl.inForce.baseMap.apply b.reading).2 }) ∧
  (∀ (due : Time) (v : Int × Int × Int) (b : BaseSample) (a r : SampleTry) (s : State),
    s.part.sp.flight = .sample due → sampleReading a r = some v → s.part.bl.sample = some b →
    failedCheck s.part.sl.inForce s.part.bl.link s.part.sa.hostState s.part.tb s.part.bl.absent s.part.bl.sample v = none →
    s.part.ae.validity ≠ .unknown →
    Completes (.sampleArrival a r) s fun t =>
      (t.part.ae.f, t.part.ae.snap) =
        filterAngle s.part.sl.inForce
          (16 * rawAngleOf (s.part.sl.inForce.lidMap.apply v) (s.part.sl.inForce.baseMap.apply b.reading))
          s.part.ae.f s.part.ae.snap ∧
      (t.part.ae.validity = .valid ∧ t.part.ae.reason = .none ∧ t.part.ae.hold = some ⟨s.part.tb, 2000⟩) ∧
      t.part.ae.base = some (s.part.sl.inForce.baseMap.apply b.reading).2 ∧
      t.part.ae.published = some (publishedAngle s.part.sl.inForce s.part.pc.seam t.part.ae.f)) ∧
  (∀ (due : Time) (v : Int × Int × Int) (why : Reason) (a r : SampleTry) (s : State),
    s.part.sp.flight = .sample due → sampleReading a r = some v →
    failedCheck s.part.sl.inForce s.part.bl.link s.part.sa.hostState s.part.tb s.part.bl.absent s.part.bl.sample v = some why →
    Completes (.sampleArrival a r) s fun t =>
      t.part.ae = { s.part.ae with
        validity := if s.part.ae.validity = .unknown then .unknown else .held
        reason := why }) ∧
  (∀ (s : State),
    timerDue s.part.ae.hold s.part.tb = true →
    Completes .holdTimerExpiry s fun t =>
      t.part.ae =
        { validity := .unknown
          reason := if s.part.ae.validity = .valid then (if s.part.sa.hostState = .off then .noBase else .none)
            else s.part.ae.reason
          f := s.part.ae.f, snap := 0, published := none, hold := none, base := none } ∧
      t.part.pc.stored = ⟨none, .unknown, t.part.ae.reason, none⟩ ∧ t.part.pc.zone = .none) ∧
  (∀ (c : Settings) (v f snap : Nat),
    v < 46080 → f < 46080 →
    (-23040 ≤ circleDiff v f ∧ circleDiff v f ≤ 23039 ∧ (circleDiff v f - ((v : Int) - f)) % 46080 = 0) ∧
    (128 * c.snapThreshold < (circleDiff v f).natAbs →
      (c.snapCount ≤ snap + 1 → filterAngle c v f snap = (v, 0)) ∧
      (snap + 1 < c.snapCount → filterAngle c v f snap = (f, snap + 1))) ∧
    ((circleDiff v f).natAbs ≤ 128 * c.snapThreshold →
      filterAngle c v f snap = ((((f : Int) + filterStep c.smoothingShift (circleDiff v f)) % 46080).toNat, 0)))

/-- O14. The check that a lid sample fails: NO_BASE exactly when there is no base sample, the absence mark is set or the
link is neither ACTIVE nor STALL; else STALE_BASE exactly when the base sample's age is above 40 ms in RUNNING or 200 ms
in SLEEPING and OFF; else MOTION exactly when a raw reading is saturated or a remapped squared magnitude lies outside the
closed window; else PROJECTION exactly when a squared projection is below the square of the floor; else none. (R17, R20,
R21, R22, R23) -/
def Obligations.ValidityChecksComeInOrder : Prop :=
  (∀ (c : Settings) (link : Link) (h : HostState) (now : Time) (absent : Bool) (base : Option BaseSample) (v : Int × Int × Int),
    failedCheck c link h now absent base v = some .noBase ↔ base = none ∨ absent = true ∨ link.live = false) ∧
  (∀ (c : Settings) (link : Link) (h : HostState) (now : Time) (b : BaseSample) (v : Int × Int × Int),
    link.live = true →
    (failedCheck c link h now false (some b) v = some .staleBase ↔
      (if h = .running then 40 else 200) < (now - b.time).toNat)) ∧
  (∀ (c : Settings) (link : Link) (h : HostState) (now : Time) (b : BaseSample) (v : Int × Int × Int),
    link.live = true → (now - b.time).toNat ≤ (if h = .running then 40 else 200) →
    (failedCheck c link h now false (some b) v = some .motion ↔
      saturatedReading v = true ∨ saturatedReading b.reading = true ∨
      inMotionWindow c.motionTolerance (c.lidMap.apply v) = false ∨
      inMotionWindow c.motionTolerance (c.baseMap.apply b.reading) = false)) ∧
  (∀ (c : Settings) (link : Link) (h : HostState) (now : Time) (b : BaseSample) (v : Int × Int × Int),
    link.live = true → (now - b.time).toNat ≤ (if h = .running then 40 else 200) →
    saturatedReading v = false → saturatedReading b.reading = false →
    inMotionWindow c.motionTolerance (c.lidMap.apply v) = true →
    inMotionWindow c.motionTolerance (c.baseMap.apply b.reading) = true →
    failedCheck c link h now false (some b) v =
      (if projectionSquare (c.baseMap.apply b.reading) < (c.projectionFloor : Int) * c.projectionFloor ∨
          projectionSquare (c.lidMap.apply v) < (c.projectionFloor : Int) * c.projectionFloor
       then some .projection else none))

/-- O15. For every k and d: where 2|d| is at least 2^k the step e is a nearest integer to d / 2^k, and at a tie the one
farther from zero; where d is smaller but not 0 it is +1 or -1 with the sign of d; for 0 it is 0; with k = 0 it is d. F
after a sample within the threshold is F plus the step modulo 46080, in 0..46079, and with k = 0 the sample value. The ten
entries of the rule's table hold. (R27) -/
def Obligations.FilterStepRoundsHalvesAwayFromZero : Prop :=
  (∀ (k : Nat) (d : Int),
    (2 ^ k ≤ 2 * d.natAbs →
      2 * (2 ^ k * filterStep k d - d).natAbs ≤ 2 ^ k ∧
      (2 * (2 ^ k * filterStep k d - d).natAbs = 2 ^ k → d.natAbs < (2 ^ k * filterStep k d).natAbs)) ∧
    (2 * d.natAbs < 2 ^ k → filterStep k d = d.sign) ∧
    filterStep 0 d = d) ∧
  (∀ (c : Settings) (v f snap : Nat),
    v < 46080 → f < 46080 → (circleDiff v f).natAbs ≤ 128 * c.snapThreshold →
    filterAngle c v f snap = ((((f : Int) + filterStep c.smoothingShift (circleDiff v f)) % 46080).toNat, 0) ∧
    (filterAngle c v f snap).1 < 46080 ∧
    (c.smoothingShift = 0 → (filterAngle c v f snap).1 = v)) ∧
  ([640, 46, 2, -1, -6].map (filterStep 2) = [160, 12, 1, -1, -2] ∧
    [640, 46, 2, -1, -6].map (filterStep 4) = [40, 3, 1, -1, -1])

/-- O16. The raw angle lies in 0..2879, is the same for every positive multiple of its vector, and is 0, 720, 1440 and
2160 on the four half axes. A quarter turn adds 720 modulo 2880, and within a quadrant the angle rises with the direction;
between the axes it has the values of a table of directions, which stand on both sides of its rounding boundaries. The
published angle lies in 0..2880; it is F/16 to the nearest modulo 2880 but for the clamp: on the near side a value of 8*b4
or more is 0, on the far side a value below 8*b1 is 2880, and 2880 arises in no other way. (R24, R28) -/
def Obligations.RawAngleAndPublishedAngle : Prop :=
  (∀ (k : Nat) (x y : Int),
    0 < k → rawAngle (k * y) (k * x) = rawAngle y x ∧ rawAngle y x < 2880) ∧
  (∀ (n : Nat),
    0 < n → rawAngle 0 n = 0 ∧ rawAngle n 0 = 720 ∧ rawAngle 0 (-n) = 1440 ∧ rawAngle (-n) 0 = 2160) ∧
  (∀ (x y : Int),
    x ≠ 0 ∨ y ≠ 0 → rawAngle x (-y) = (rawAngle y x + 720) % 2880) ∧
  (∀ (x y x1 y1 : Int),
    0 < x → 0 ≤ y → 0 < x1 → 0 ≤ y1 → y * x1 ≤ y1 * x → rawAngle y x ≤ rawAngle y1 x1) ∧
  ([(1088649, 999999407, 0), (1093012, 999999403, 1), (3270305, 999994653, 1),
      (86071185, 996288990, 40), (88240197, 996099226, 40), (172575965, 984996211, 80),
      (174720185, 984618128, 80), (257767338, 966207017, 120), (259870446, 965643491, 120),
      (340996945, 940064404, 160), (343042936, 939319724, 160), (421631360, 906767333, 200),
      (423604662, 905847167, 200), (499056906, 866569215, 240), (500942501, 865480566, 240),
      (572684327, 819775982, 280), (574467865, 818527136, 280), (641953275, 766743759, 320),
      (643621182, 765344219, 320), (706336571, 707876153, 360), (707876153, 706336571, 360),
      (765344219, 643621182, 400), (766743759, 641953275, 400), (818527136, 574467865, 440),
      (819775982, 572684327, 440), (865480566, 500942501, 480), (866569215, 499056906, 480),
      (905847167, 423604662, 520), (906767333, 421631360, 520), (939319724, 343042936, 560),
      (940064404, 340996945, 560), (965643491, 259870446, 600), (966207017, 257767338, 600),
      (984618128, 174720185, 640), (984996211, 172575965, 640), (996099226, 88240197, 680),
      (996288990, 86071185, 680), (999994653, 3270305, 719), (999999403, 1093012, 719),
      (999999407, 1088649, 720)].all
      (fun (r : Int × Int × Nat) => rawAngle r.1 r.2.1 == r.2.2) = true) ∧
  (∀ (c : Settings) (f : Nat),
    (8 * c.b4 ≤ (f + 8) / 16 % 2880 → publishedAngle c .near f = 0) ∧
    ((f + 8) / 16 % 2880 < 8 * c.b4 → publishedAngle c .near f = (f + 8) / 16 % 2880) ∧
    ((f + 8) / 16 % 2880 < 8 * c.b1 → publishedAngle c .far f = 2880) ∧
    (8 * c.b1 ≤ (f + 8) / 16 % 2880 → publishedAngle c .far f = (f + 8) / 16 % 2880) ∧
    publishedAngle c .near f < 2880 ∧ publishedAngle c .far f ≤ 2880)

/-- O17. An angle lies in SEAM exactly when it is 8*b4 or more or below 8*b1, in OPEN, FLAT and FOLDED exactly when it
lies in the rule's interval, for boundaries that rise and a last boundary of at most 355; 2880 lies in SEAM. Each retained
band is the interval of the second table, ends included, for a hysteresis up to 5. With the default settings the bands are
those of the last sentence. (R36) -/
def Obligations.ZonesAndRetainedBands : Prop :=
  (∀ (c : Settings) (a : Nat),
    c.b1 < c.b2 → c.b2 < c.b3 → c.b3 < c.b4 → c.b4 ≤ 355 →
    (zoneOf c a = .seam ↔ 8 * c.b4 ≤ a ∨ a < 8 * c.b1) ∧
    (zoneOf c a = .opened ↔ 8 * c.b1 ≤ a ∧ a < 8 * c.b2) ∧
    (zoneOf c a = .flat ↔ 8 * c.b2 ≤ a ∧ a < 8 * c.b3) ∧
    (zoneOf c a = .folded ↔ 8 * c.b3 ≤ a ∧ a < 8 * c.b4) ∧ zoneOf c 2880 = .seam) ∧
  (∀ (c : Settings) (a : Nat),
    c.hysteresis ≤ 5 →
    (retained c .seam a = true ↔ 8 * (c.b4 - c.hysteresis) ≤ a ∨ a ≤ 8 * (c.b1 + c.hysteresis)) ∧
    (retained c .opened a = true ↔ 8 * (c.b1 - c.hysteresis) ≤ a ∧ a ≤ 8 * (c.b2 + c.hysteresis)) ∧
    (retained c .flat a = true ↔ 8 * (c.b2 - c.hysteresis) ≤ a ∧ a ≤ 8 * (c.b3 + c.hysteresis)) ∧
    (retained c .folded a = true ↔ 8 * (c.b3 - c.hysteresis) ≤ a ∧ a ≤ 8 * (c.b4 + c.hysteresis))) ∧
  (∀ (a : Nat),
    (retained Settings.default .seam a = true ↔ 2608 ≤ a ∨ a ≤ 192) ∧
    (retained Settings.default .opened a = true ↔ 128 ≤ a ∧ a ≤ 1392) ∧
    (retained Settings.default .flat a = true ↔ 1328 ≤ a ∧ a ≤ 1552) ∧
    (retained Settings.default .folded a = true ↔ 1488 ≤ a ∧ a ≤ 2672))

/-- O18. With the host RUNNING and a link in ACTIVE that no order takes to HIBERNATE, a delivered sample leaves PC with
the delivery stored, the zone and seam side that R37 to R39 give from it and the zone before, the candidate of R40, and
the published posture as it was. The dwell is cancelled where the candidate is the published posture, runs on where it is
the candidate before, and else starts anew. Suppression is decided by R44, and KT and BL hold a changed suppression. (R35,
R37, R38, R39, R40, R42, R44, R77) -/
def Obligations.PostureEvaluationAtASample : Prop :=
  (∀ (due : Time) (v : Int × Int × Int) (a r : SampleTry) (s : State),
    s.part.sp.flight = .sample due → sampleReading a r = some v →
    s.part.bl.link = .active → s.part.bl.target ≠ .hibernate → s.part.sa.hostState = .running →
    Completes (.sampleArrival a r) s fun t =>
      t.part.pc.stored = t.part.ae.delivery ∧
      t.part.pc.zone = nextZone s.part.sl.inForce t.part.pc.stored s.part.pc.zone ∧
      t.part.pc.seam = nextSeam (t.part.ae.validity == .unknown) s.part.inp.lidh.debounced s.part.inp.foldh.debounced
        s.part.pc.zone t.part.pc.zone s.part.pc.seam ∧
      t.part.pc.candidate = candidateOf .active s.part.inp.lidh.debounced s.part.inp.foldh.debounced t.part.pc ∧
      t.part.pc.published = s.part.pc.published ∧
      t.part.pc.dwell =
        (if t.part.pc.candidate = t.part.pc.published then none
         else if t.part.pc.candidate = s.part.pc.candidate then s.part.pc.dwell
         else some ⟨s.part.tb, s.part.sl.inForce.postureDwell⟩) ∧
      t.part.pc.suppression = suppressionAfter s.part.sl.inForce.suppressionMask s.part.pc.suppression
        t.part.pc.candidate t.part.pc.published ∧
      (t.part.pc.suppression ≠ s.part.pc.suppression →
        t.part.kt.suppression = t.part.pc.suppression ∧ t.part.bl.quiet = t.part.pc.suppression)) ∧
  (∀ (c : Settings) (d : StoredDelivery) (z : Zone) (a : Nat),
    c.b1 + 10 ≤ c.b2 → c.b2 + 10 ≤ c.b3 → c.b3 + 10 ≤ c.b4 → 5 ≤ c.b1 → c.b4 ≤ 355 → c.hysteresis ≤ 5 →
    d.angle = some a → d.validity ≠ .unknown → a ≤ 2880 →
    (retained c z a = true → nextZone c d z = z) ∧
    (retained c z a = false → nextZone c d z = zoneOf c a ∧ nextZone c d z ≠ z))

/-- O19. At the expiry the candidate becomes the published posture (but where the host's reaction to it has woken a
hibernating link, whose entry into WAKING publishes DETACHED at once). A change is told: SA and OT hold the posture
published. With the host RUNNING and the link in ACTIVE without an order to HIBERNATE, the dwell is cancelled, suppression
is decided for the candidate, and a changed posture is offered as POSTURE once the reset's work has ended. With such a
host and link a changed posture restarts SA's inactivity timer. CLOSED, with close-sleep on and keep-awake off, takes
ACTIVE and IDLE to CLOSE_PENDING with the grace timer and without an advice; otherwise IDLE returns to ACTIVE with UNDIM
(these advices stated with OT at ROT0, where no rotation change follows). Any other posture takes CLOSE_PENDING to ACTIVE,
its grace cancelled, with UNDIM where the display was dimmed, and SLEEP_ADVISED to ACTIVE with CANCEL_SLEEP. In WATCHING a
posture after CLOSED, but DETACHED, advises WAKE with LID_OPEN and orders a hibernating link to STALL, and no other gives
an advice; with the host SLEEPING, CLOSED orders HIBERNATE and cancels a pending wake, and every other posture orders
STALL. (R43, R44, R45, R42, R140, R142, R144, R145, R147, R148, R149) -/
def Obligations.PostureDwellExpiry : Prop :=
  (∀ (s : State),
    timerDue s.part.pc.dwell s.part.tb = true →
    Completes .postureDwellExpiry s fun t =>
      (t.part.pc.published = s.part.pc.candidate ∨ (t.part.bl.link = .waking ∧ t.part.pc.published = .detached)) ∧
      (s.part.pc.candidate ≠ s.part.pc.published →
        t.part.sa.posture = t.part.pc.published ∧ t.part.ot.posture = t.part.pc.published)) ∧
  (∀ (s : State),
    timerDue s.part.pc.dwell s.part.tb = true → s.part.bl.link = .active → s.part.bl.target ≠ .hibernate →
    s.part.sa.hostState = .running →
    Completes .postureDwellExpiry s fun t =>
      t.part.pc.published = s.part.pc.candidate ∧ t.part.pc.dwell = none ∧
      t.part.pc.suppression = suppressionAfter s.part.sl.inForce.suppressionMask s.part.pc.suppression
        s.part.pc.candidate s.part.pc.candidate ∧
      (s.part.pc.candidate ≠ s.part.pc.offered.posture → s.part.resetWork = none → NoticeUnderWay .posture t)) ∧
  (∀ (s : State),
    timerDue s.part.pc.dwell s.part.tb = true → s.part.bl.link = .active → s.part.bl.target ≠ .hibernate →
    s.part.sa.hostState = .running → s.part.pc.candidate ≠ s.part.pc.published →
    Completes .postureDwellExpiry s fun t =>
      InactivityRestarted s t ∧
      (s.part.pc.candidate = .closed → s.part.sl.inForce.closeSleep = true → s.part.sl.inForce.keepAwake = false →
        s.part.sa.advisor = .active ∨ s.part.sa.advisor = .idle →
        t.part.sa.advisor = .closePending ∧ t.part.sa.grace = some ⟨s.part.tb, s.part.sl.inForce.closeGrace⟩ ∧
        (s.part.ot.rotation = .rot0 →
          t.part.sa.dimmed = s.part.sa.dimmed ∧ t.part.nu.classes.advice = s.part.nu.classes.advice)) ∧
      (s.part.pc.candidate ≠ .closed ∨ s.part.sl.inForce.closeSleep = false ∨ s.part.sl.inForce.keepAwake = true →
        (s.part.sa.advisor = .active →
          t.part.sa.advisor = .active ∧ t.part.nu.classes.advice = s.part.nu.classes.advice) ∧
        (s.part.sa.advisor = .idle → t.part.sa.advisor = .active ∧ t.part.sa.dimmed = false ∧
          (s.part.ot.rotation = .rot0 → Advised 2#16 0#16 s.part.pc.candidate s t))) ∧
      (s.part.pc.candidate ≠ .closed → s.part.sa.advisor = .closePending →
        t.part.sa.advisor = .active ∧ t.part.sa.grace = none ∧ t.part.sa.dimmed = false ∧
        (s.part.sa.dimmed = true → Advised 2#16 0#16 s.part.pc.candidate s t) ∧
        (s.part.sa.dimmed = false → t.part.nu.classes.advice = s.part.nu.classes.advice)) ∧
      (s.part.pc.candidate ≠ .closed → s.part.sa.advisor = .sleepAdvised →
        t.part.sa.advisor = .active ∧ t.part.sa.dimmed = false ∧ Advised 4#16 0#16 s.part.pc.candidate s t) ∧
      (s.part.pc.candidate = .closed → s.part.sa.advisor = .closePending ∨ s.part.sa.advisor = .sleepAdvised →
        t.part.sa.advisor = s.part.sa.advisor ∧ t.part.sa.grace = s.part.sa.grace ∧
        t.part.nu.classes.advice = s.part.nu.classes.advice)) ∧
  (∀ (s : State),
    timerDue s.part.pc.dwell s.part.tb = true → s.part.sa.hostState ≠ .running → s.part.sa.advisor = .watching →
    s.part.pc.candidate ≠ s.part.pc.published →
    Completes .postureDwellExpiry s fun t =>
      (s.part.sa.posture = .closed → s.part.pc.candidate ∉ [.closed, .detached] →
        WakeAdvised 2#16 s.part.pc.candidate s t) ∧
      (s.part.sa.posture ≠ .closed ∨ s.part.pc.candidate ∈ [.closed, .detached] →
        t.part.nu.classes.advice = s.part.nu.classes.advice) ∧
      (s.part.sa.hostState = .sleeping → s.part.pc.candidate = .closed →
        t.part.bl.target = .hibernate ∧
        (s.part.bl.link = .hibernate → t.part.bl.link = .hibernate ∧ t.part.bl.pendingWake = false)) ∧
      (s.part.sa.hostState = .sleeping → s.part.pc.candidate ≠ .closed → t.part.bl.target = .stall))

/-- O20. Of the four rotations the best has the largest component; the published one is best when it shares the largest,
and else the lowest of those that do. While no hold stands, a lid too near horizontal sets tilted and forgets the
candidate; otherwise tilted clears, and the best rotation becomes the candidate when it differs and 8*v_best is at least
(8 + h8)*v_cur, with the dwell started anew for a new candidate; else the candidate and dwell are cleared. A held rotation
takes no action. A dwell that has run out publishes the candidate at this TB value and offers ORIENTATION. With the host
RUNNING and a link in ACTIVE that no order takes to HIBERNATE, a delivered sample makes OT evaluate its remapped lx and ly
so. (R48, R49, R50, R52) -/
def Obligations.OrientationDecision : Prop :=
  (∀ (pub r : Rotation) (lx ly : Int),
    r.component lx ly ≤ (bestRotation pub lx ly).component lx ly ∧
    (bestRotation pub lx ly ≠ pub →
      pub.component lx ly < (bestRotation pub lx ly).component lx ly ∧
      (r.component lx ly = (bestRotation pub lx ly).component lx ly → (bestRotation pub lx ly).code ≤ r.code))) ∧
  (∀ (c : Settings) (now : Time) (lx ly : Int) (o : Ot),
    (o.hold ≠ .none → evaluateRotation c now lx ly o = o) ∧
    (o.hold = .none → lx * lx + ly * ly < (c.tiltFloor : Int) * c.tiltFloor →
      evaluateRotation c now lx ly o = { o with tilted := true, candidate := none, dwell := none }) ∧
    (o.hold = .none → (c.tiltFloor : Int) * c.tiltFloor ≤ lx * lx + ly * ly →
      evaluateRotation c now lx ly o =
        (if bestRotation o.rotation lx ly ≠ o.rotation ∧
            (8 + (c.orientationHysteresis : Int)) * o.rotation.component lx ly
              ≤ 8 * (bestRotation o.rotation lx ly).component lx ly
         then { o with
           tilted := false, candidate := some (bestRotation o.rotation lx ly)
           dwell := if o.candidate = some (bestRotation o.rotation lx ly) then o.dwell
             else some ⟨now, c.orientationDwell⟩ }
         else { o with tilted := false, candidate := none, dwell := none }))) ∧
  (∀ (q : Rotation) (s : State),
    timerDue s.part.ot.dwell s.part.tb = true → s.part.ot.candidate = some q →
    Completes .orientationDwellExpiry s fun t =>
      t.part.ot = { s.part.ot with rotation := q, candidate := none, dwell := none, time := s.part.tb } ∧
      (s.part.resetWork = none → NoticeUnderWay .orientation t)) ∧
  (∀ (due : Time) (v : Int × Int × Int) (a r : SampleTry) (s : State),
    s.part.sp.flight = .sample due → sampleReading a r = some v →
    s.part.bl.link = .active → s.part.bl.target ≠ .hibernate → s.part.sa.hostState = .running →
    Completes (.sampleArrival a r) s fun t =>
      t.part.ot = evaluateRotation s.part.sl.inForce s.part.tb (s.part.sl.inForce.lidMap.apply v).1
        (s.part.sl.inForce.lidMap.apply v).2.1 s.part.ot)

/-- O21. A noisy character counts by the link state in which it was complete: those complete while the receiver listened
count whatever state their frame ends in. While the receiver listens: a line break adds the noisy characters of the frame
it cut to the noise counter; a frame gap adds them and one framing error; a received frame adds its noisy characters and,
as the first offence met in it says, one framing error, one check error or nothing. All saturate at 65535, and nothing
else of the part changes. Where it does not, every received frame, break, gap or discard counts the noisy characters
complete while it did and changes nothing else (outside a full reset in force, O57). That noise is counted with the
frame's own command is log entry 33. In ACTIVE and STALL the frame's raw axes and counter with this TB value replace the
latest base sample and clear the absence mark; in every other state in which the receiver listens they do not. In both the
noise and the lost frames are counted and the next number is expected, and nothing else changes. (R21, R53, R54, R58, R66)
-/
def Obligations.ReceiverCountsAndMotion : Prop :=
  (∀ (n : NoiseCount) (s : State),
    s.part.bl.link.listens = true →
    exec (.lineBreakReceived n) s = .next { s with part := { s.part with bl := { s.part.bl with
      noise := min (s.part.bl.noise + (n.earlier + n.present)) 65535 } } }) ∧
  (∀ (n : NoiseCount) (s : State),
    s.part.bl.link.listens = true →
    exec (.frameGapTimeout n) s = .next { s with part := { s.part with bl := { s.part.bl with
      noise := min (s.part.bl.noise + (n.earlier + n.present)) 65535
      framing := min (s.part.bl.framing + 1) 65535 } } }) ∧
  (∀ (cs : List RxChar) (s : State),
    s.part.bl.link.listens = true →
    exec (.frameDiscard cs) s = .next { s with part := { s.part with bl := { s.part.bl with
      noise := min (s.part.bl.noise + ((noisyChars cs).earlier + (noisyChars cs).present)) 65535
      framing := if judgeFrame cs = some .framing then min (s.part.bl.framing + 1) 65535 else s.part.bl.framing
      check := if judgeFrame cs = some .check then min (s.part.bl.check + 1) 65535 else s.part.bl.check } } }) ∧
  (∀ (c : RxChar) (cs : List RxChar) (len : RxChar),
    (c.framingError = true → judgeFrame (c :: cs) = some .framing) ∧
    (c.framingError = false → len.framingError = false → 24 < len.byte.toNat →
      judgeFrame (c :: len :: cs) = some .check)) ∧
  (∀ (noise : NoiseCount) (seq : BitVec 4) (x y z : Word) (counter : Byte) (s : State),
    s.part.bl.link.listens = true →
    exec (.motion noise seq x y z counter) s = .next { s with part := { s.part with bl := { s.part.bl with
      noise := min (s.part.bl.noise + (noise.earlier + noise.present)) 65535
      expSeq := s.part.bl.expSeq.map (fun _ => seq + 1#4)
      lost := if s.part.bl.expSeq = none then s.part.bl.lost
        else min (s.part.bl.lost + seqGap s.part.bl seq) 65535
      sample := if s.part.bl.link = .active ∨ s.part.bl.link = .stall then some ⟨x, y, z, counter, s.part.tb⟩
        else s.part.bl.sample
      absent := if s.part.bl.link = .active ∨ s.part.bl.link = .stall then false else s.part.bl.absent } } }) ∧
  (∀ (b : Bl) (seq e : BitVec 4),
    b.expSeq = some e →
    seqGap b seq < 16 ∧ e + BitVec.ofNat 4 (seqGap b seq) = seq) ∧
  (∀ (n : NoiseCount) (cs : List RxChar) (seq : BitVec 4) (cls rev mode flags counter heldCount result value : Byte)
    (acc : BitVec 32) (es : List KeyEvent) (x y z draw id : Word) (held : List Byte) (s : State),
    s.part.resetLow = false → s.part.bl.link.listens = false → 0 < n.earlier → noisyChars cs = n →
    ∀ i ∈ ([.lineBreakReceived n, .frameGapTimeout n, .frameDiscard cs, .hello n seq cls rev acc, .keys n seq es heldCount,
        .motion n seq x y z counter, .status n seq mode flags draw held, .reply n seq id result value] : List Instr),
      exec i s = .next { s with part := { s.part with bl := { s.part.bl with
        noise := min (s.part.bl.noise + n.earlier) 65535 } } }) ∧
  (∀ (c : RxChar) (cs : List RxChar),
    (noisyChars (c :: cs)).earlier = (noisyChars cs).earlier + (if c.noise = true ∧ c.earlier = true then 1 else 0) ∧
    (noisyChars (c :: cs)).present = (noisyChars cs).present + (if c.noise = true ∧ c.earlier = false then 1 else 0))

/-- O22. In ACTIVATING the latest HELLO is held. In IDENTIFYING, and as a restart in PROFILING, ACTIVE, STALL, HIBERNATE
and WAKING, a HELLO of a known class that the allowed class mask holds and with a revision other than 0 takes the link to
PROFILING: its identity is kept, the next number is expected, the reservation is its class allowance and the overrides
end. Any other takes it to REFUSED: the reservation is 0, VBASE_EN off, and BASE_REFUSED is active once the reset's work
has ended. The noisy characters are counted, with the frame's own command (log entry 33). (R53, R58, R64, R71, R72, R76)
-/
def Obligations.HelloAttachesOrRefuses : Prop :=
  (∀ (noise : NoiseCount) (seq : BitVec 4) (cls rev : Byte) (acc : BitVec 32) (s : State),
    s.part.bl.link = .activating →
    Completes (.hello noise seq cls rev acc) s fun t =>
      t.part.bl.link = .activating ∧ t.part.bl.heldHello = some ⟨seq, cls, rev, acc⟩ ∧
      t.part.bl.noise = min (s.part.bl.noise + (noise.earlier + noise.present)) 65535) ∧
  (∀ (noise : NoiseCount) (seq : BitVec 4) (cls rev : Byte) (acc : BitVec 32) (mw : Nat) (s : State),
    s.part.bl.link ∈ [.identifying, .profiling, .active, .stall, .hibernate, .waking] →
    allowance cls = some mw → s.part.sl.inForce.classMask.getLsbD cls.toNat = true → rev ≠ 0#8 →
    Completes (.hello noise seq cls rev acc) s fun t =>
      t.part.bl.link = .profiling ∧ t.part.bl.ident = some ⟨cls, rev, acc⟩ ∧ t.part.bl.reservation = mw ∧
      t.part.bl.expSeq = some (seq + 1#4) ∧ t.part.bl.ovReply = none ∧ t.part.bl.ovStall = none ∧
      t.part.bl.noise = min (s.part.bl.noise + (noise.earlier + noise.present)) 65535 ∧ t.part.bl.vbaseEn = true ∧
      (s.part.pw.op = .idle → s.part.pw.walk ≠ .attach →
        t.part.pw.op = .snapshot ∧ t.part.pw.walk = .attach)) ∧
  (∀ (noise : NoiseCount) (seq : BitVec 4) (cls rev : Byte) (acc : BitVec 32) (s : State),
    s.part.bl.link ∈ [.identifying, .profiling, .active, .stall, .hibernate, .waking] →
    allowance cls = none ∨ s.part.sl.inForce.classMask.getLsbD cls.toNat = false ∨ rev = 0#8 →
    Completes (.hello noise seq cls rev acc) s fun t =>
      t.part.bl.link = .refused ∧ t.part.bl.ident = some ⟨cls, rev, acc⟩ ∧ t.part.bl.reservation = 0 ∧
      t.part.bl.vbaseEn = false ∧ t.part.bl.exch = none ∧ t.part.bl.expSeq = none ∧
      t.part.bl.noise = min (s.part.bl.noise + (noise.earlier + noise.present)) 65535 ∧
      (s.part.resetWork = none → FaultActive .baseRefused t ∧ t.part.nu.lastFault = some .baseRefused))

/-- O23. In ACTIVE without an order to HIBERNATE, a frame of one transition acts so: a press of a valid code outside P
with room and suppression off joins P and D, and its transition, with the low half of TB, is queued, or is published with
the queue when the KEYS class is idle; with 16 transitions queued the press joins P alone and is counted as dropped; a
press of a code in P changes nothing, one with P full is counted as dropped, and one under suppression joins P alone; a
release of a reported code leaves P and D and is queued, and any other leaves P, and I where it is ignored; an invalid
code is counted. A frame of several transitions acts as its transitions one after another (stated while KEYS cannot
publish). A frame in STALL returns the link to ACTIVE. Every KEYS frame that the receiver takes counts its noise, with its
own command (log entry 33), and the frames lost before it. A frame behind a gap, or whose held count differs from the size
of P after it (a count above 16 while P holds 16 apart), asks for a QUERY, which waits behind one outstanding; no other
frame does. (R58, R66, R67, R92, R93, R94, R97, R100, R98) -/
def Obligations.KeysFrame : Prop :=
  (∀ (noise : NoiseCount) (seq : BitVec 4) (code flags heldCount : Byte) (s : State),
    s.part.bl.link = .active → s.part.bl.target ≠ .hibernate → flags.getLsbD 0 = false →
    0 < code.toNat → code.toNat < 128 → code.toNat ∉ s.part.kt.held → s.part.kt.held.length < 16 →
    s.part.kt.suppression = false → s.part.kt.queue.length < 16 →
    Completes (.keys noise seq [⟨code, flags⟩] heldCount) s fun t =>
      t.part.kt.held = insertCode code.toNat s.part.kt.held ∧
      t.part.kt.down = insertCode code.toNat s.part.kt.down ∧
      ((s.part.nu.classes.keys.state ≠ .idle ∨ s.part.nu.classes.keys.publishing ≠ none ∨ s.part.resetWork ≠ none) →
        t.part.kt.queue = s.part.kt.queue ++ [⟨code.toNat, false, false, loWord s.part.tb⟩]) ∧
      (s.part.nu.classes.keys.state = .idle → s.part.nu.classes.keys.publishing = none → s.part.resetWork = none →
        t.part.kt.queue = [] ∧ t.part.nu.classes.keys.publishing ≠ none)) ∧
  (∀ (noise : NoiseCount) (seq : BitVec 4) (code flags heldCount : Byte) (s : State),
    s.part.bl.link = .active → s.part.bl.target ≠ .hibernate → flags.getLsbD 0 = false →
    0 < code.toNat → code.toNat < 128 → code.toNat ∉ s.part.kt.held → s.part.kt.held.length < 16 →
    s.part.kt.suppression = false → 16 ≤ s.part.kt.queue.length →
    Completes (.keys noise seq [⟨code, flags⟩] heldCount) s fun t =>
      t.part.kt.held = insertCode code.toNat s.part.kt.held ∧ t.part.kt.down = s.part.kt.down ∧
      t.part.kt.queue = s.part.kt.queue ∧
      t.part.kt.droppedPresses = min (s.part.kt.droppedPresses + 1) 65535 ∧
      t.part.kt.dropped = min (s.part.kt.dropped + 1) 65535) ∧
  (∀ (noise : NoiseCount) (seq : BitVec 4) (code flags heldCount : Byte) (s : State),
    s.part.bl.link = .active → s.part.bl.target ≠ .hibernate → flags.getLsbD 0 = true →
    0 < code.toNat → code.toNat < 128 → code.toNat ∈ s.part.kt.down → code.toNat ∉ s.part.kt.ignored →
    s.part.kt.suppression = false →
    Completes (.keys noise seq [⟨code, flags⟩] heldCount) s fun t =>
      t.part.kt.held = dropCode code.toNat s.part.kt.held ∧ t.part.kt.down = dropCode code.toNat s.part.kt.down ∧
      ((s.part.nu.classes.keys.state ≠ .idle ∨ s.part.nu.classes.keys.publishing ≠ none ∨ s.part.resetWork ≠ none) →
        t.part.kt.queue = s.part.kt.queue ++ [⟨code.toNat, true, false, loWord s.part.tb⟩])) ∧
  (∀ (noise : NoiseCount) (seq : BitVec 4) (code flags heldCount : Byte) (s : State),
    s.part.bl.link = .active → s.part.bl.target ≠ .hibernate → code.toNat = 0 ∨ 128 ≤ code.toNat →
    Completes (.keys noise seq [⟨code, flags⟩] heldCount) s fun t =>
      t.part.kt = { s.part.kt with invalidCodes := min (s.part.kt.invalidCodes + 1) 65535 }) ∧
  (∀ (noise : NoiseCount) (seq : BitVec 4) (code flags heldCount : Byte) (s : State),
    s.part.bl.link = .active → s.part.bl.target ≠ .hibernate → flags.getLsbD 0 = false →
    0 < code.toNat → code.toNat < 128 →
    Completes (.keys noise seq [⟨code, flags⟩] heldCount) s fun t =>
      (code.toNat ∈ s.part.kt.held → t.part.kt = s.part.kt) ∧
      (code.toNat ∉ s.part.kt.held → 16 ≤ s.part.kt.held.length →
        t.part.kt = { s.part.kt with
          droppedPresses := min (s.part.kt.droppedPresses + 1) 65535, dropped := min (s.part.kt.dropped + 1) 65535 }) ∧
      (code.toNat ∉ s.part.kt.held → s.part.kt.held.length < 16 → s.part.kt.suppression = true →
        t.part.kt = { s.part.kt with held := insertCode code.toNat s.part.kt.held })) ∧
  (∀ (noise : NoiseCount) (seq : BitVec 4) (code flags heldCount : Byte) (s : State),
    s.part.bl.link = .active → s.part.bl.target ≠ .hibernate → flags.getLsbD 0 = true →
    0 < code.toNat → code.toNat < 128 →
    Completes (.keys noise seq [⟨code, flags⟩] heldCount) s fun t =>
      (s.part.kt.suppression = true ∨ (code.toNat ∉ s.part.kt.ignored ∧ code.toNat ∉ s.part.kt.down) →
        t.part.kt = { s.part.kt with held := dropCode code.toNat s.part.kt.held }) ∧
      (s.part.kt.suppression = false → code.toNat ∈ s.part.kt.ignored →
        t.part.kt = { s.part.kt with
          held := dropCode code.toNat s.part.kt.held, ignored := dropCode code.toNat s.part.kt.ignored })) ∧
  (∀ (noise : NoiseCount) (seq : BitVec 4) (e : KeyEvent) (es : List KeyEvent) (heldCount : Byte) (s : State),
    s.part.bl.link = .active → s.part.bl.target ≠ .hibernate → 1 ≤ es.length → es.length ≤ 5 →
    s.part.nu.classes.keys.state ≠ .idle ∨ s.part.nu.classes.keys.publishing ≠ none ∨ s.part.resetWork ≠ none →
    Completes (.keys noise seq [e] heldCount) s fun u => Completes (.keys noise seq es heldCount) u fun v =>
      Completes (.keys noise seq (e :: es) heldCount) s fun t => t.part.kt = v.part.kt) ∧
  (∀ (k a : Nat) (l : List Nat),
    (a ∈ insertCode k l ↔ a = k ∨ a ∈ l) ∧ (a ∈ dropCode k l ↔ a ∈ l ∧ a ≠ k)) ∧
  (∀ (noise : NoiseCount) (seq : BitVec 4) (es : List KeyEvent) (heldCount : Byte) (s : State),
    s.part.bl.link.listens = true → 1 ≤ es.length → es.length ≤ 6 →
    Completes (.keys noise seq es heldCount) s fun t =>
      t.part.bl.expSeq = s.part.bl.expSeq.map (fun _ => seq + 1#4) ∧
      t.part.bl.lost =
        (if s.part.bl.expSeq = none then s.part.bl.lost
         else min (s.part.bl.lost + seqGap s.part.bl seq) 65535) ∧
      t.part.bl.noise = min (s.part.bl.noise + (noise.earlier + noise.present)) 65535 ∧
      (s.part.bl.link = .stall → s.part.bl.target ≠ .hibernate → t.part.bl.link = .active)) ∧
  (∀ (noise : NoiseCount) (seq : BitVec 4) (es : List KeyEvent) (heldCount : Byte) (s : State),
    s.part.bl.link ∈ [.active, .stall] → s.part.bl.target ≠ .hibernate → 1 ≤ es.length → es.length ≤ 6 →
    Completes (.keys noise seq es heldCount) s fun t =>
      if (s.part.bl.expSeq ≠ none ∧ s.part.bl.expSeq ≠ some seq) ∨
          (heldCount.toNat ≠ t.part.kt.held.length ∧ ¬ (16 < heldCount.toNat ∧ t.part.kt.held.length = 16))
      then t.part.bl.link = .active ∧ (t.part.bl.qQuery = true ∨ t.part.bl.exch = some .query) ∧
        (s.part.bl.exch = some .query → 0 < s.part.bl.attempts → t.part.bl.qQuery = true ∧ t.part.bl.exch = some .query)
      else (s.part.bl.qQuery = false → t.part.bl.qQuery = false) ∧
        (s.part.bl.qQuery = false → s.part.bl.exch ≠ some .query → t.part.bl.exch ≠ some .query))

/-- O24. In PROFILING, ACTIVE, STALL, HIBERNATE and WAKING a STATUS with at most 16 codes is kept (draw at most 5000,
mode, quiet, lost-settings) and the reservation becomes the greater of the class allowance and the draw. Where it names
ACTIVE and a MODE ACTIVE is outstanding, PROFILING goes to ACTIVE with the absence mark set, WAKING to ACTIVE, or to
PROFILING where settings were lost, with ACTIVE as the target. Where a QUERY is outstanding in ACTIVE without an order to
HIBERNATE, P becomes the set of its valid codes. That a STATUS in HIBERNATE or WAKING changes the reservation is log entry
26, and that its noise is counted with it log entry 33. A reservation that leaves the setpoint within its bounds leaves
the session, the setpoint and the pause causes as they stand, whatever causes stand. (R57, R58, R62, R65, R70, R76, R78,
R99, R114, R127) -/
def Obligations.StatusFrame : Prop :=
  (∀ (noise : NoiseCount) (seq : BitVec 4) (mode flags : Byte) (draw : Word) (held : List Byte) (s : State),
    s.part.bl.link ∈ [.profiling, .active, .stall, .hibernate, .waking] → held.length ≤ 16 →
    Completes (.status noise seq mode flags draw held) s fun t =>
      t.part.bl.status = some ⟨min 5000 draw.toNat, modeOfByte mode, flags.getLsbD 1, flags.getLsbD 0⟩ ∧
      t.part.bl.reservation =
        (match s.part.bl.ident with
         | some i => max ((allowance i.cls).getD 0) (min 5000 draw.toNat)
         | none => min 5000 draw.toNat) ∧
      t.part.bl.noise = min (s.part.bl.noise + (noise.earlier + noise.present)) 65535 ∧
      t.part.bl.expSeq = s.part.bl.expSeq.map (fun _ => seq + 1#4)) ∧
  (∀ (noise : NoiseCount) (seq : BitVec 4) (q : Bool) (flags : Byte) (draw : Word) (held : List Byte) (s : State),
    s.part.bl.link = .profiling ∨ s.part.bl.link = .waking → held.length ≤ 16 → s.part.bl.target = .active →
    s.part.bl.exch = some (.mode .active q) → 0 < s.part.bl.attempts →
    Completes (.status noise seq 1#8 flags draw held) s fun t =>
      (s.part.bl.link = .profiling ∨ flags.getLsbD 0 = false →
        t.part.bl.link = .active ∧ t.part.bl.absent = true) ∧
      (s.part.bl.link = .waking → flags.getLsbD 0 = true → t.part.bl.link = .profiling)) ∧
  (∀ (noise : NoiseCount) (seq : BitVec 4) (mode flags : Byte) (draw : Word) (held : List Byte) (s : State),
    s.part.bl.link = .active → held.length ≤ 16 → s.part.bl.target ≠ .hibernate →
    s.part.bl.exch = some .query → 0 < s.part.bl.attempts →
    Completes (.status noise seq mode flags draw held) s fun t =>
      ∀ k, k < 256 → (k ∈ t.part.kt.held ↔ 0 < k ∧ k < 128 ∧ BitVec.ofNat 8 k ∈ held)) ∧
  (∀ (noise : NoiseCount) (seq : BitVec 4) (mode flags : Byte) (draw : Word) (held : List Byte) (s : State),
    s.part.bl.link ∈ [.profiling, .active, .stall, .hibernate, .waking] → held.length ≤ 16 →
    s.part.cc.setpoint ≤ s.part.sl.inForce.ceiling → s.part.cc.setpoint ≤ minLimit 500 s.part.cc.thermalLimit →
    s.part.cc.setpoint ≤ budgetLimitOf s.part.cc.budget (statusReservation s.part.bl (min 5000 draw.toNat)) →
    Completes (.status noise seq mode flags draw held) s fun t =>
      t.part.cc.session = s.part.cc.session ∧ t.part.cc.setpoint = s.part.cc.setpoint ∧ t.part.cc.causes = s.part.cc.causes ∧
      t.part.cc.windowTimer = s.part.cc.windowTimer)

/-- O25. In a state that takes replies, a REPLY whose id is that of the outstanding ATTR answers it. For the ATTR of a
BASE_ATTRIBUTE the request completes DONE with the value, or FAILED with BASE_ERROR where the result is not OK. For the
ATTR of a walk the entry at the walk position has result OK or ERROR. Nothing is outstanding after it, and no exchange is
left where nothing waits. When the frame of an exchange has been sent its attempts advance by one and the reply timer
starts with the timeout in force (an override first); a transmission that has lost its effect only ends: attempts,
exchange and timer stand as before, but that an exchange that waits to be sent again follows on the free line (with its
quiet flag, log entry 18). A change of link state makes a MODE sent for the first time lose its place with its effect,
while one sent again stays outstanding (log entry 34). When the reply timer has run out below the configured attempts, the
line being free, the same frame goes out under the next sequence number. At the last attempt the link enters FAULT: no
exchange, no reservation, one no-reply counted, LINK_FAULT active once the reset's work has ended, and the BASE_ATTRIBUTE
whose ATTR it was completes FAILED with NO_REPLY. In HIBERNATE the sending and resending are those of MODE HIBERNATE; left
out is only a pending wake whose minimum time has passed, which no command leaves behind (O51). With a target of HIBERNATE
the end of an ATTR takes ACTIVE and STALL to HIBERNATE before PW's next ATTR joins the queue, which asks for a wake (log
entry 17). (R55, R57, R60, R61, R67, R72, R79, R83, R88, R165, R69, R87) -/
def Obligations.ExchangesAndTheirAnswers : Prop :=
  (∀ (noise : NoiseCount) (seq : BitVec 4) (op : AttrOp) (result value : Byte) (r : Request) (ph : ReqPhase) (s : State),
    s.part.bl.link ∈ [.profiling, .active, .stall, .hibernate, .waking] →
    s.part.bl.exch = some (.attr op) → 0 < s.part.bl.attempts →
    s.part.pw.inFlight = some .request → s.part.pw.current = some (r, ph) →
    Completes (.reply noise seq (op.id.setWidth 16) result value) s fun t =>
      (result = 0#8 → CompletedWith r true rcOk [value.setWidth 16] t) ∧
      (result ≠ 0#8 → CompletedWith r false rcBaseError [] t) ∧
      (t.part.bl.outstanding = none ∧ t.part.bl.replyTimer = none) ∧
      (s.part.bl.qMode = none → s.part.bl.qQuery = false → s.part.bl.qAttr = none → s.part.rq.pw = [] →
        s.part.bl.target ≠ .hibernate → t.part.bl.exch = none)) ∧
  (∀ (noise : NoiseCount) (seq : BitVec 4) (op : AttrOp) (result value : Byte) (s : State),
    s.part.bl.link ∈ [.profiling, .active, .stall, .hibernate, .waking] →
    s.part.bl.exch = some (.attr op) → 0 < s.part.bl.attempts →
    s.part.pw.inFlight = some .walkEntry → s.part.pw.position < s.part.pw.results.length →
    Completes (.reply noise seq (op.id.setWidth 16) result value) s fun t =>
      t.part.pw.results[s.part.pw.position]? = some (if result = 0#8 then EntryResult.ok else .error) ∧
      s.part.pw.position < t.part.pw.position ∧ t.part.bl.outstanding = none ∧ t.part.bl.replyTimer = none) ∧
  (∀ (bs : List Byte) (x : Exchange) (s : State),
    s.part.bl.tx = some (.frame bs true) → s.part.bl.exch = some x → s.part.bl.lineOrder = none →
    ¬ WakeOverdue s →
    Completes .exchangeSent s fun t =>
      t.part.bl.attempts = s.part.bl.attempts + 1 ∧ t.part.bl.exch = some x ∧ t.part.bl.tx = none ∧
      t.part.bl.replyTimer = some ⟨s.part.tb, s.part.bl.ovReply.getD s.part.sl.inForce.replyTimeout⟩) ∧
  (∀ (bs : List Byte) (s : State),
    s.part.bl.tx = some (.frame bs false) →
    ¬ WakeOverdue s → s.part.bl.lineOrder = none →
    Completes .exchangeSent s fun t =>
      (∀ x tm, s.part.bl.exch = some x → s.part.bl.replyTimer = some tm →
        t.part.bl.tx = none ∧ t.part.bl.exch = some x ∧ t.part.bl.replyTimer = some tm ∧
        t.part.bl.attempts = s.part.bl.attempts) ∧
      (∀ x, s.part.bl.exch = some x → s.part.bl.replyTimer = none →
        t.part.bl.tx = some (.frame (x.bytes s.part.bl.txSeq) true) ∧ t.part.bl.exch = some x ∧
        t.part.bl.replyTimer = none ∧ t.part.bl.attempts = s.part.bl.attempts) ∧
      (s.part.bl.quietQueue = true → s.part.bl.target ≠ .hibernate →
        t.part.bl.tx = none ∧ t.part.bl.exch = none ∧ t.part.bl.replyTimer = s.part.bl.replyTimer ∧
        t.part.bl.attempts = s.part.bl.attempts)) ∧
  (∀ (noise : NoiseCount) (seq : BitVec 4) (es : List KeyEvent) (heldCount : Byte) (bs : List Byte) (x : Exchange) (s : State),
    s.part.bl.link = .stall → s.part.bl.target ≠ .hibernate → 1 ≤ es.length → es.length ≤ 6 →
    s.part.bl.tx = some (.frame bs true) → s.part.bl.exch = some x →
    Completes (.keys noise seq es heldCount) s fun t =>
      t.part.bl.link = .active ∧ t.part.bl.tx = some (.frame bs false) ∧ t.part.bl.qMode = some .active ∧
      t.part.bl.attempts = s.part.bl.attempts ∧
      t.part.bl.exch = (if s.part.bl.attempts = 0 then none else some x)) ∧
  (∀ (x : Exchange) (s : State),
    timerDue s.part.bl.replyTimer s.part.tb = true → s.part.bl.attempts < s.part.sl.inForce.replyAttempts →
    s.part.bl.exch = some x → s.part.bl.tx = none → s.part.bl.lineOrder = none → ¬ WakeOverdue s →
    Completes .replyTimerExpiry s fun t =>
      t.part.bl.tx = some (.frame (x.bytes s.part.bl.txSeq) true) ∧ t.part.bl.txSeq = s.part.bl.txSeq + 1#4 ∧
      t.part.bl.exch = some x ∧ t.part.bl.attempts = s.part.bl.attempts ∧ t.part.bl.replyTimer = none) ∧
  (∀ (s : State),
    timerDue s.part.bl.replyTimer s.part.tb = true → s.part.sl.inForce.replyAttempts ≤ s.part.bl.attempts →
    Completes .replyTimerExpiry s fun t =>
      t.part.bl.link = .fault ∧ t.part.bl.exch = none ∧ t.part.bl.reservation = 0 ∧
      t.part.bl.noReply = min (s.part.bl.noReply + 1) 65535 ∧
      (s.part.resetWork = none → FaultActive .linkFault t ∧ t.part.nu.lastFault = some .linkFault)) ∧
  (∀ (op : AttrOp) (r : Request) (ph : ReqPhase) (s : State),
    timerDue s.part.bl.replyTimer s.part.tb = true → s.part.sl.inForce.replyAttempts ≤ s.part.bl.attempts →
    s.part.bl.exch = some (.attr op) → s.part.pw.inFlight = some .request → s.part.pw.current = some (r, ph) →
    Completes .replyTimerExpiry s fun t => CompletedWith r false rcNoReply [] t) ∧
  (∀ (noise : NoiseCount) (seq : BitVec 4) (op : AttrOp) (result value : Byte) (s : State),
    s.part.bl.link = .active ∨ s.part.bl.link = .stall →
    s.part.bl.target = .hibernate → s.part.bl.exch = some (.attr op) → 0 < s.part.bl.attempts →
    s.part.bl.qQuery = false → s.part.bl.qAttr = none → s.part.pw.wakeAsked = false →
    Completes (.reply noise seq (op.id.setWidth 16) result value) s fun t =>
      t.part.bl.link = .hibernate ∧ t.part.bl.exch ≠ some (.attr op) ∧
      (t.part.bl.qAttr ≠ none → t.part.bl.pendingWake = true ∧ t.part.pw.wakeAsked = true))

/-- O26. The power-good timer takes the link to RESETTING, where the line reset starts at once on a free line and else is
ordered. The end of a line reset that still counts takes RESETTING to ACTIVATING with the activate timer started. The
activate timer takes ACTIVATING to IDENTIFYING with one more hello attempt and the hello timer started, or, with an
allowed HELLO held, on to PROFILING; in WAKING it puts a MODE ACTIVE on a free line. The hello timer takes the link back
to RESETTING below the configured attempts, and else to FAULT with one no-reply counted and LINK_FAULT active once the
reset's work has ended. (R55, R64, R70, R72) -/
def Obligations.AttachTimers : Prop :=
  (∀ (s : State),
    timerDue s.part.bl.powerTimer s.part.tb = true →
    Completes .powerGoodExpiry s fun t =>
      t.part.bl.link = .resetting ∧ t.part.bl.powerTimer = none ∧
      (s.part.bl.tx = none →
        t.part.bl.tx = some (.lineReset ⟨s.part.tb, s.part.sl.inForce.lineReset⟩ true) ∧ t.part.bl.lineOrder = none) ∧
      (s.part.bl.tx ≠ none →
        t.part.bl.tx = s.part.bl.tx.map Tx.orphan ∧ t.part.bl.lineOrder = some .lineReset)) ∧
  (∀ (tm : Timer) (s : State),
    s.part.bl.tx = some (.lineReset tm true) → tm.due s.part.tb = true → s.part.bl.link = .resetting →
    Completes .lineResetEnd s fun t =>
      t.part.bl.link = .activating ∧ t.part.bl.activateTimer = some ⟨s.part.tb, s.part.sl.inForce.activateTime⟩) ∧
  (∀ (s : State),
    timerDue s.part.bl.activateTimer s.part.tb = true → s.part.bl.link = .activating →
    s.part.bl.heldHello = none →
    Completes .activateTimeExpiry s fun t =>
      t.part.bl.link = .identifying ∧ t.part.bl.activateTimer = none ∧
      t.part.bl.helloAttempts = s.part.bl.helloAttempts + 1 ∧
      t.part.bl.helloTimer = some ⟨s.part.tb, s.part.sl.inForce.helloTimeout⟩) ∧
  (∀ (h : Hello) (s : State),
    timerDue s.part.bl.activateTimer s.part.tb = true → s.part.bl.link = .activating →
    s.part.bl.heldHello = some h →
    Completes .activateTimeExpiry s fun t =>
      t.part.bl.heldHello = none ∧ t.part.bl.ident = some ⟨h.cls, h.revision, h.accessory⟩ ∧
      t.part.bl.link = (if helloAccepted s.part.sl.inForce.classMask h = true then .profiling else .refused)) ∧
  (∀ (s : State),
    timerDue s.part.bl.activateTimer s.part.tb = true → s.part.bl.link = .waking →
    Completes .activateTimeExpiry s fun t =>
      t.part.bl.link = .waking ∧ t.part.bl.activateTimer = none ∧
      (s.part.bl.tx = none → s.part.bl.lineOrder = none → s.part.bl.exch = none →
        t.part.bl.exch = some (.mode .active s.part.bl.quiet) ∧
        t.part.bl.tx = some (.frame ((Exchange.mode .active s.part.bl.quiet).bytes s.part.bl.txSeq) true))) ∧
  (∀ (s : State),
    timerDue s.part.bl.helloTimer s.part.tb = true → s.part.bl.helloAttempts < s.part.sl.inForce.helloAttempts →
    Completes .helloTimerExpiry s fun t => t.part.bl.link = .resetting ∧ t.part.bl.helloTimer = none) ∧
  (∀ (s : State),
    timerDue s.part.bl.helloTimer s.part.tb = true → s.part.sl.inForce.helloAttempts ≤ s.part.bl.helloAttempts →
    Completes .helloTimerExpiry s fun t =>
      t.part.bl.link = .fault ∧ t.part.bl.helloTimer = none ∧ t.part.bl.reservation = 0 ∧
      t.part.bl.noReply = min (s.part.bl.noReply + 1) 65535 ∧
      (s.part.resetWork = none → FaultActive .linkFault t))

/-- O27. The stall idle timer that has run out in ACTIVE, with no QUERY or ATTR queued and no order to HIBERNATE, takes
the link to STALL and puts a MODE STALL on a free line. The minimum hibernate timer that has run out in HIBERNATE takes
the link to WAKING where a wake is pending, with the wake break on a free line, and else leaves it in HIBERNATE without
the timer. The end of a wake break that still counts starts the activate timer in WAKING. (R55, R67, R69, R70) -/
def Obligations.StallHibernateAndWake : Prop :=
  (∀ (s : State),
    timerDue s.part.bl.stallTimer s.part.tb = true → s.part.bl.link = .active → s.part.bl.target ≠ .hibernate →
    s.part.bl.qQuery = false → s.part.bl.qAttr = none →
    Completes .stallIdleExpiry s fun t =>
      t.part.bl.link = .stall ∧ t.part.bl.stallTimer = none ∧
      (s.part.bl.tx = none → s.part.bl.lineOrder = none → s.part.bl.exch = none →
        t.part.bl.exch = some (.mode .stall t.part.bl.quiet))) ∧
  (∀ (s : State),
    timerDue s.part.bl.minHibTimer s.part.tb = true → s.part.bl.link = .hibernate → s.part.bl.pendingWake = true →
    Completes .minimumHibernateExpiry s fun t =>
      t.part.bl.link = .waking ∧ t.part.bl.minHibTimer = none ∧ t.part.bl.pendingWake = false ∧
      t.part.pc.published = .detached ∧ (s.part.bl.tx = none → t.part.bl.tx = some (.wakeBreak true))) ∧
  (∀ (s : State),
    timerDue s.part.bl.minHibTimer s.part.tb = true → s.part.bl.link = .hibernate →
    s.part.bl.pendingWake = false →
    Completes .minimumHibernateExpiry s fun t => t.part.bl.link = .hibernate ∧ t.part.bl.minHibTimer = none) ∧
  (∀ (s : State),
    s.part.bl.tx = some (.wakeBreak true) → s.part.bl.link = .waking →
    Completes .wakeBreakEnd s fun t =>
      t.part.bl.link = .waking ∧ t.part.bl.activateTimer = some ⟨s.part.tb, s.part.sl.inForce.activateTime⟩)

/-- O28. The BASE_RETRY at the head of BL's queue is taken. In FAULT and REFUSED the link enters POWERING with VBASE_EN
on, the 5 ms timer and a reservation of 1200 mW, the state's fault leaves the active fault set once the reset's work has
ended, and the request completes OK. In DETACHED it completes NOT_ATTACHED and in every other state WRONG_STATE, the link
staying as it is. (R74, R75, R76, R165) -/
def Obligations.BaseRetryRequest : Prop :=
  (∀ (r : Request) (rs : List Request) (s : State),
    s.part.rq.bl = r :: rs → r.kind = 5#16 → s.part.bl.link = .fault ∨ s.part.bl.link = .refused →
    Completes .baseRetry s fun t =>
      t.part.bl.link = .powering ∧ t.part.bl.vbaseEn = true ∧ t.part.bl.powerTimer = some ⟨s.part.tb, 5⟩ ∧
      t.part.bl.reservation = 1200 ∧ t.part.rq.bl = rs ∧ CompletedWith r true rcOk [] t ∧
      (s.part.resetWork = none →
        (s.part.bl.link = .fault → ¬ FaultActive .linkFault t) ∧
        (s.part.bl.link = .refused → ¬ FaultActive .baseRefused t))) ∧
  (∀ (r : Request) (rs : List Request) (s : State),
    s.part.rq.bl = r :: rs → r.kind = 5#16 → s.part.bl.link ≠ .fault → s.part.bl.link ≠ .refused →
    Completes .baseRetry s fun t =>
      t.part.bl = s.part.bl ∧ t.part.rq.bl = rs ∧
      CompletedWith r false (if s.part.bl.link = .detached then rcNotAttached else rcWrongState) [] t)

/-- O29. Outside the reset's work and with the memory in canonical form: the end of a profile snapshot writes NOT_RUN into
the 32 result words and no other word, and a walk that goes on holds the 32 entries of the table as they stood. The end of
a result write writes the 32 result codes and no other word, and the counts become those of the results; a complete attach
walk in PROFILING has MODE ACTIVE queued or being sent; and a reload request ends with its walk: DONE with the counts when
complete, FAILED with NO_REPLY or NOT_ATTACHED otherwise. That the words are written at the command that ends the
operation is log entry 13. A walk that has ended during its snapshot (one in which PW has a walk, R81, R84) goes on to
write 32 NOT_RUN results, but a reload walk that an attach walk replaces, which writes none. An attach walk that has
waited for a result write begins its snapshot at that write's end, with the end it has met meanwhile: a detach ends it
without taking it away (log entry 38). (R81, R84, R85, R89, R158, R65) -/
def Obligations.ProfileHeldOperations : Prop :=
  (∀ (s : State),
    s.part.pw.op = .snapshot → s.part.resetWork = none → MemoryInv s →
    Completes .profileSnapshotEnd s fun t =>
      (∀ n, n < 32 → t.xm.read (resultBase + n) = 0#16) ∧
      (∀ a, a < resultBase ∨ resultBase + 32 ≤ a → t.xm.read a = s.xm.read a) ∧
      (s.part.pw.ending = none → s.part.pw.walk ≠ .none → t.part.pw.snapshot = some (profileEntries s.xm))) ∧
  (∀ (e : WalkEnd) (s : State),
    s.part.pw.op = .resultWrite → s.part.pw.ending = some e → s.part.resetWork = none → MemoryInv s →
    s.part.pw.results.length = 32 →
    Completes .profileResultWriteEnd s fun t =>
      (∀ n, n < 32 → t.xm.read (resultBase + n) = word ((s.part.pw.results[n]?).getD .notRun).code) ∧
      (∀ a, a < resultBase ∨ resultBase + 32 ≤ a → t.xm.read a = s.xm.read a) ∧
      t.part.pw.counts = countResults s.part.pw.results ∧
      (e = .complete → s.part.pw.walk = .attach → s.part.pw.waiting = [] → s.part.bl.link = .profiling →
        t.part.bl.qMode = some .active ∨ t.part.bl.exch = some (.mode .active t.part.bl.quiet))) ∧
  (∀ (e : WalkEnd) (r : Request) (s : State),
    s.part.pw.op = .resultWrite → s.part.pw.ending = some e → s.part.resetWork = none →
    s.part.pw.current = some (r, .running) → r.kind = 6#16 →
    Completes .profileResultWriteEnd s fun t =>
      (e = .complete → CompletedWith r true rcOk
        [word (countResults s.part.pw.results).succeeded, word (countResults s.part.pw.results).errored,
         word (countResults s.part.pw.results).notRun] t) ∧
      (e = .noReply → CompletedWith r false rcNoReply [] t) ∧
      (e = .notAttached → CompletedWith r false rcNotAttached [] t)) ∧
  (∀ (e : WalkEnd) (s : State),
    s.part.pw.op = .snapshot → s.part.pw.ending = some e → s.part.resetWork = none →
    s.part.pw.walk ≠ .none →
    Completes .profileSnapshotEnd s fun t =>
      if e = .superseded ∧ s.part.pw.walk = .reload then
        t.part.pw.op = (if s.part.pw.waiting = [] then .idle else .snapshot) ∧ t.part.pw.counts = s.part.pw.counts
      else t.part.pw.op = .resultWrite ∧ t.part.pw.ending = some e ∧
        t.part.pw.results = List.replicate 32 .notRun ∧ t.part.pw.waiting = s.part.pw.waiting) ∧
  (∀ (e : WalkEnd) (o : Option WalkEnd) (os : List (Option WalkEnd)) (s : State),
    s.part.pw.op = .resultWrite → s.part.pw.ending = some e → s.part.resetWork = none → s.part.pw.waiting = o :: os →
    Completes .profileResultWriteEnd s fun t =>
      t.part.pw.op = .snapshot ∧ t.part.pw.walk = .attach ∧ t.part.pw.ending = o ∧ t.part.pw.waiting = os) ∧
  (∀ (os : List (Option WalkEnd)) (s : State),
    s.part.pw.op ≠ .idle → s.part.pw.waiting = os ++ [none] → timerDue s.part.inp.bpres.timer s.part.tb = true →
    filteredActive s.part.sl.inForce .bpres s.part.inp.bpres.level = false → s.part.bl.link ≠ .detached →
    Completes (.debounceExpiry .bpres) s fun t =>
      t.part.pw.op = s.part.pw.op ∧ t.part.pw.walk = s.part.pw.walk ∧ t.part.pw.waiting = os ++ [some .notAttached])

/-- O30. A BASE_ATTRIBUTE that PW takes completes BAD_ARG when an argument is outside its range; with good arguments it
completes NOT_ATTACHED in DETACHED, REFUSED and FAULT, runs in ACTIVE and STALL without a walk, with its ATTR queued or
being sent, and waits otherwise, asking a hibernating link to wake unless PW has asked already. A PROFILE_RELOAD likewise
completes NOT_ATTACHED, starts the reload walk with its snapshot, or waits. A request that runs or waits has left PW's
queue. (R86, R87, R88, R89, R81) -/
def Obligations.ProfileRequests : Prop :=
  (∀ (r : Request) (rs : List Request) (s : State),
    s.part.pw.current = none → s.part.rq.pw = r :: rs → r.kind = 4#16 →
    ¬ ((r.arg 0 = 1 ∨ r.arg 0 = 2) ∧ r.arg 1 ≤ 4095 ∧ r.arg 2 ≤ 255) →
    Completes .baseAttribute s fun t => CompletedWith r false rcBadArg [] t) ∧
  (∀ (r : Request) (rs : List Request) (s : State),
    s.part.pw.current = none → s.part.rq.pw = r :: rs → r.kind = 4#16 →
    (r.arg 0 = 1 ∨ r.arg 0 = 2) → r.arg 1 ≤ 4095 → r.arg 2 ≤ 255 →
    s.part.bl.link ∈ [.detached, .refused, .fault] →
    Completes .baseAttribute s fun t => CompletedWith r false rcNotAttached [] t) ∧
  (∀ (r : Request) (rs : List Request) (s : State),
    s.part.pw.current = none → s.part.rq.pw = r :: rs → r.kind = 4#16 →
    (r.arg 0 = 1 ∨ r.arg 0 = 2) → r.arg 1 ≤ 4095 → r.arg 2 ≤ 255 →
    s.part.bl.link = .active ∨ s.part.bl.link = .stall → s.part.pw.walk = .none →
    Completes .baseAttribute s fun t =>
      t.part.pw.current = some (r, .running) ∧ t.part.pw.inFlight = some .request ∧ t.part.rq.pw = rs ∧
      t.part.bl.link = .active ∧
      (t.part.bl.qAttr = some ⟨decide (r.arg 0 = 2), BitVec.ofNat 12 (r.arg 1), BitVec.ofNat 8 (r.arg 2)⟩ ∨
        t.part.bl.exch = some (.attr ⟨decide (r.arg 0 = 2), BitVec.ofNat 12 (r.arg 1), BitVec.ofNat 8 (r.arg 2)⟩))) ∧
  (∀ (r : Request) (rs : List Request) (s : State),
    s.part.pw.current = none → s.part.rq.pw = r :: rs → r.kind = 4#16 →
    (r.arg 0 = 1 ∨ r.arg 0 = 2) → r.arg 1 ≤ 4095 → r.arg 2 ≤ 255 →
    s.part.bl.link ∉ [.detached, .refused, .fault] →
    ¬ ((s.part.bl.link = .active ∨ s.part.bl.link = .stall) ∧ s.part.pw.walk = .none) →
    Completes .baseAttribute s fun t =>
      t.part.pw.current = some (r, .waiting) ∧ t.part.rq.pw = rs ∧
      (s.part.bl.link = .hibernate → s.part.pw.wakeAsked = false →
        t.part.bl.link = .waking ∨ t.part.bl.pendingWake = true)) ∧
  (∀ (r : Request) (rs : List Request) (s : State),
    s.part.pw.current = none → s.part.rq.pw = r :: rs → r.kind = 6#16 →
    Completes .profileReload s fun t =>
      (s.part.bl.link ∈ [.detached, .refused, .fault] → CompletedWith r false rcNotAttached [] t) ∧
      (s.part.bl.link = .active ∨ s.part.bl.link = .stall → s.part.pw.walk = .none →
        t.part.pw.current = some (r, .running) ∧ t.part.pw.walk = .reload ∧ t.part.pw.op = .snapshot ∧
        t.part.rq.pw = rs) ∧
      (s.part.bl.link ∉ [.detached, .refused, .fault] →
        ¬ ((s.part.bl.link = .active ∨ s.part.bl.link = .stall) ∧ s.part.pw.walk = .none) →
        t.part.pw.current = some (r, .waiting) ∧ t.part.rq.pw = rs))

/-- O31. When the state timer of SETTLING, PRECHARGE or COOLDOWN has run out the session enters WAKING and its first
window starts at once, counted as the first; under the contact guard the window due flag is set and no window is counted.
At the end of COOLDOWN PEN_COOLDOWN leaves the active fault set once the reset's work has ended, and the fault history
runs on. When the window timer has run out a window starts: QUIET, setpoint 0, the setpoint before kept for a failure, and
one more window counted in WAKING; under the guard the window due flag is set. A precharge time that runs out inside a
window starts one anew (log entry 27). The end of QUIET leads to BREAK, that of BREAK to POLL, that of the POLL character
to WAIT_SYNC, the start of SYNC to SYNC, a good SYNC (bit time 44.27..59.90 microseconds, character 0x55, stop bit high)
to WAIT_REPORT with the bit time kept, and the start of the report to REPORT. Nothing else of the state changes. In POLL
the character 0xC3 is what PN sends, in GRANT the GRANT frame, and in the other phases nothing. The bit time comes in
tenths of a microsecond (log entry 14). (R103, R104, R105, R107, R110, R111, R112, R113, R116, R133) -/
def Obligations.WindowsBeginAndAdvance : Prop :=
  (∀ (s : State),
    s.part.cc.session = .settling → timerDue s.part.cc.stateTimer s.part.tb = true →
    Completes .settlingExpiry s fun t =>
      t.part.cc.session = .waking ∧ t.part.cc.stateTimer = none ∧ t.part.cc.windowTimer = none ∧
      t.part.cc.prechargeRounds = s.part.cc.prechargeRounds ∧
      (s.part.cc.guard = none →
        t.part.pn.phase = .quiet ∧ t.part.cc.wakingWindows = 1 ∧ t.part.cc.setpoint = 0 ∧
        t.part.pn.restore = s.part.cc.setpoint) ∧
      (s.part.cc.guard ≠ none →
        t.part.cc.windowDue = true ∧ t.part.cc.wakingWindows = 0 ∧ t.part.pn.phase = s.part.pn.phase)) ∧
  (∀ (s : State),
    s.part.cc.session = .precharge → timerDue s.part.cc.stateTimer s.part.tb = true →
    Completes .prechargeExpiry s fun t =>
      t.part.cc.session = .waking ∧ t.part.cc.stateTimer = none ∧ t.part.cc.windowTimer = none ∧
      t.part.cc.prechargeRounds = s.part.cc.prechargeRounds ∧
      (s.part.cc.guard = none →
        t.part.pn.phase = .quiet ∧ t.part.cc.wakingWindows = 1 ∧ t.part.cc.setpoint = 0 ∧
        t.part.pn.restore = s.part.cc.setpoint) ∧
      (s.part.cc.guard ≠ none →
        t.part.cc.windowDue = true ∧ t.part.cc.wakingWindows = 0 ∧ t.part.pn.phase = s.part.pn.phase)) ∧
  (∀ (s : State),
    s.part.cc.session = .cooldown → timerDue s.part.cc.stateTimer s.part.tb = true →
    Completes .cooldownExpiry s fun t =>
      t.part.cc.session = .waking ∧ t.part.cc.stateTimer = none ∧ t.part.cc.windowTimer = none ∧
      t.part.cc.prechargeRounds = s.part.cc.prechargeRounds ∧
      (s.part.cc.guard = none →
        t.part.pn.phase = .quiet ∧ t.part.cc.wakingWindows = 1 ∧ t.part.cc.setpoint = 0 ∧
        t.part.pn.restore = s.part.cc.setpoint) ∧
      (s.part.cc.guard ≠ none →
        t.part.cc.windowDue = true ∧ t.part.cc.wakingWindows = 0 ∧ t.part.pn.phase = s.part.pn.phase) ∧
      t.part.cc.history = s.part.cc.history ∧ (s.part.resetWork = none → ¬ FaultActive .penCooldown t)) ∧
  (∀ (s : State),
    timerDue s.part.cc.windowTimer s.part.tb = true →
    Completes .windowDue s fun t =>
      t.part.cc.session = s.part.cc.session ∧ t.part.cc.windowTimer = none ∧
      (s.part.cc.guard = none →
        t.part.pn.phase = .quiet ∧ t.part.cc.setpoint = 0 ∧ t.part.cc.windowDue = false ∧
        t.part.pn.restore = s.part.cc.setpoint ∧
        t.part.cc.wakingWindows =
          (if s.part.cc.session = .waking then s.part.cc.wakingWindows + 1 else s.part.cc.wakingWindows)) ∧
      (s.part.cc.guard ≠ none →
        t.part.cc.windowDue = true ∧ t.part.pn.phase = s.part.pn.phase ∧ t.part.cc.setpoint = s.part.cc.setpoint)) ∧
  (∀ (s : State),
    (s.part.pn.phase = .quiet → exec .quietEnd s =
      .next { s with part := { s.part with pn := { s.part.pn with phase := .breaking } } }) ∧
    (s.part.pn.phase = .breaking → exec .breakEnd s =
      .next { s with part := { s.part with pn := { s.part.pn with phase := .poll } } }) ∧
    (s.part.pn.phase = .poll → exec .pollSent s =
      .next { s with part := { s.part with pn := { s.part.pn with phase := .waitSync } } }) ∧
    (s.part.pn.phase = .waitSync → exec .syncStart s =
      .next { s with part := { s.part with pn := { s.part.pn with phase := .sync } } }) ∧
    (s.part.pn.phase = .waitReport → exec .reportStart s =
      .next { s with part := { s.part with pn := { s.part.pn with phase := .report } } })) ∧
  (∀ (bitTime : Nat) (s : State),
    s.part.pn.phase = .sync → 4427 ≤ 10 * bitTime → 10 * bitTime ≤ 5990 →
    exec (.syncReceived bitTime 0x55#8 true) s =
      .next { s with part := { s.part with pn := { s.part.pn with
        phase := .waitReport, bitTime := some bitTime } } }) ∧
  (∀ (n : Pn),
    (n.phase = .poll → n.sends = [0xC3#8]) ∧ (n.phase = .grant → n.sends = n.grantFrame) ∧
    (n.phase ≠ .poll → n.phase ≠ .grant → n.sends = []))

/-- O32. A wait for SYNC or REPORT that runs out, a SYNC that is not measured or not good, and a REPORT that stalls, has a
framing error or a wrong sum fail the window: PENIO is idle, one failed window is counted, one SYNC error or bad frame
where it was one. In WAKING the next window is due in 50 ms up to the third, then PRECHARGE (or PAUSED, with a cause)
follows in the first two rounds and SILENT after them; in CHARGING, TOPPED and PAUSED the third failure in a run is SILENT
and before it the next window is due in 50 ms; PRECHARGE goes on with its timers; with a pause cause CHARGING and
PRECHARGE go to PAUSED and its period (log entry 20). The setpoint does not exceed what it was before the window; where
CHARGING or PRECHARGE stays it is that one if it keeps under 500, the ceiling, the thermal limit and the budget limit, and
else the greatest multiple of 10 under them, 0 below 20; it is 0 in TOPPED and PAUSED. SILENT raises PEN_SILENT. Failures
are kept through RESUME and may pass 3 (log entry 40). The bit time comes in tenths of a microsecond (log entry 14).
(R104, R105, R107, R111, R114, R115, R127) -/
def Obligations.FailedWindows : Prop :=
  (∀ (s : State),
    (s.part.pn.phase = .waitSync →
      Completes .syncWaitExpiry s fun t => WindowFailed s t ∧
        t.part.pn.syncErrors = s.part.pn.syncErrors ∧ t.part.pn.badFrames = s.part.pn.badFrames) ∧
    (s.part.pn.phase = .sync →
      Completes .syncMeasureTimeout s fun t => WindowFailed s t ∧
        t.part.pn.syncErrors = min (s.part.pn.syncErrors + 1) 65535 ∧ t.part.pn.badFrames = s.part.pn.badFrames) ∧
    (s.part.pn.phase = .waitReport →
      Completes .reportWaitExpiry s fun t => WindowFailed s t ∧
        t.part.pn.syncErrors = s.part.pn.syncErrors ∧ t.part.pn.badFrames = s.part.pn.badFrames) ∧
    (s.part.pn.phase = .report →
      Completes .reportGapTimeout s fun t => WindowFailed s t ∧
        t.part.pn.syncErrors = s.part.pn.syncErrors ∧ t.part.pn.badFrames = min (s.part.pn.badFrames + 1) 65535)) ∧
  (∀ (bitTime : Nat) (char : Byte) (stopHigh : Bool) (s : State),
    s.part.pn.phase = .sync →
    10 * bitTime < 4427 ∨ 5990 < 10 * bitTime ∨ char ≠ 0x55#8 ∨ stopHigh = false →
    Completes (.syncReceived bitTime char stopHigh) s fun t => WindowFailed s t ∧
      t.part.pn.syncErrors = min (s.part.pn.syncErrors + 1) 65535 ∧ t.part.pn.badFrames = s.part.pn.badFrames) ∧
  (∀ (framing : Bool) (penId : BitVec 32) (battery : Word) (temp soc : Byte) (asked : Word) (flags check : Byte) (s : State),
    s.part.pn.phase = .report → framing = true ∨ reportSum penId battery temp soc asked flags check ≠ 0#8 →
    Completes (.report framing penId battery temp soc asked flags check) s fun t => WindowFailed s t ∧
      t.part.pn.syncErrors = s.part.pn.syncErrors ∧ t.part.pn.badFrames = min (s.part.pn.badFrames + 1) 65535)

/-- O33. A REPORT without a framing error whose twelve characters sum to 0 is kept with each field clamped into its range.
A pen id that differs from the one known discards the fault history. THERMAL, the thermal limit, the grant and BUDGET
follow R124 and R125, the precharge rounds are 0, and the GRANT frame is sent: with the grant where the window will end in
CHARGING, with 0 otherwise. The outcome kept for the window's end is a pen fault when the pen reports one, and else the
state of R113: TOPPED when full, or kept with the SoC at or above the recharge threshold. THERMAL and the thermal limit
have the values of R124 and its table. (R105, R106, R108, R111, R113, R124, R125) -/
def Obligations.ReportAccepted : Prop :=
  (∀ (penId : BitVec 32) (battery : Word) (temp soc : Byte) (asked : Word) (flags check : Byte) (s : State),
    s.part.pn.phase = .report → reportSum penId battery temp soc asked flags check = 0#8 →
    Completes (.report false penId battery temp soc asked flags check) s fun t =>
      (t.part.pn.phase = .grant ∧ t.part.pn.penId = some penId ∧ t.part.cc.prechargeRounds = 0) ∧
      t.part.pn.report = some
        { battery := battery.toNat, temperature := max (-40) (min 125 temp.toInt), soc := min 100 soc.toNat
          requested := min 1000 asked.toNat, full := flags.getLsbD 0, fault := flags.getLsbD 1 } ∧
      (t.part.cc.history = if s.part.pn.penId = none ∨ s.part.pn.penId = some penId then s.part.cc.history else none) ∧
      t.part.cc.causes =
        { thermal := thermalAfter s.part.sl.inForce s.part.cc.causes.thermal (max (-40) (min 125 temp.toInt))
          budget := budgetCause s.part.sl.inForce (min 1000 asked.toNat) t.part.cc.thermalLimit s.part.cc.budgetLimit
          host := s.part.cc.causes.host } ∧
      t.part.cc.thermalLimit = some (thermalLimitOf s.part.sl.inForce t.part.cc.causes.thermal
        (max (-40) (min 125 temp.toInt))) ∧
      t.part.cc.grant = grantFor s.part.sl.inForce (min 1000 asked.toNat) t.part.cc.thermalLimit
        (some s.part.cc.budgetLimit) ∧
      t.part.pn.granted = (if t.part.pn.outcome = some (.session .charging) then t.part.cc.grant else 0) ∧
      t.part.pn.grantFrame = grantBytes t.part.pn.granted ∧
      (flags.getLsbD 1 = true → t.part.pn.outcome = some .penFault) ∧
      (flags.getLsbD 1 = false → flags.getLsbD 0 = true → t.part.pn.outcome = some (.session .topped)) ∧
      (flags.getLsbD 1 = false → flags.getLsbD 0 = false →
        ¬ (s.part.cc.session = .topped ∧ s.part.sl.inForce.rechargeThreshold ≤ min 100 soc.toNat) →
        t.part.pn.outcome = some (.session (if t.part.cc.causes.any = true then .paused else .charging))) ∧
      (flags.getLsbD 1 = false → s.part.cc.session = .topped →
        s.part.sl.inForce.rechargeThreshold ≤ min 100 soc.toNat → t.part.pn.outcome = some (.session .topped))) ∧
  (∀ (c : Settings) (before : Bool) (temp : Int),
    ((c.tStop : Int) ≤ temp → thermalAfter c before temp = true) ∧
    (temp < (c.tStop : Int) → before = true → temp ≤ (c.tResume : Int) → thermalAfter c before temp = false) ∧
    (temp < (c.tStop : Int) → ¬ (before = true ∧ temp ≤ (c.tResume : Int)) → thermalAfter c before temp = before)) ∧
  (∀ (c : Settings) (temp : Int),
    thermalLimitOf c true temp = 0 ∧
    (temp ≤ (c.tDerate : Int) → thermalLimitOf c false temp = c.ceiling) ∧
    ((c.tDerate : Int) < temp → temp < (c.tStop : Int) →
      thermalLimitOf c false temp % 10 = 0 ∧
      (thermalLimitOf c false temp : Int) * ((c.tStop : Int) - c.tDerate) ≤ (c.ceiling : Int) * ((c.tStop : Int) - temp) ∧
      (c.ceiling : Int) * ((c.tStop : Int) - temp) <
        ((thermalLimitOf c false temp : Int) + 10) * ((c.tStop : Int) - c.tDerate))) ∧
  ([(38, false), (41, false), (44, false), (49, false), (50, false), (47, true), (45, true)].map
      (fun (r : Int × Bool) => (thermalAfter Settings.default r.2 r.1,
        thermalLimitOf Settings.default (thermalAfter Settings.default r.2 r.1) r.1)) =
      [(false, 300), (false, 270), (false, 180), (false, 30), (true, 0), (true, 0), (false, 150)])

/-- O34. The grant for a request is at most the request, the ceiling, the thermal limit and the budget limit, is a
multiple of 10, is 0 or at least 20, and no greater multiple of 10 that is at least 20 keeps under all four. The budget
limit of B and a reservation is at most 500, a multiple of 10, five times it does not exceed what the reservation leaves
of B, and it is the greatest such. The values of R123's table hold. (R123, R125) -/
def Obligations.GrantsAndBudgetLimitsKeepTheirBounds : Prop :=
  (∀ (c : Settings) (asked th b g : Nat),
    (grantFor c asked (some th) (some b) ≤ asked ∧ grantFor c asked (some th) (some b) ≤ c.ceiling ∧
      grantFor c asked (some th) (some b) ≤ th ∧ grantFor c asked (some th) (some b) ≤ b) ∧
    grantFor c asked (some th) (some b) % 10 = 0 ∧
    (grantFor c asked (some th) (some b) = 0 ∨ 20 ≤ grantFor c asked (some th) (some b)) ∧
    (g % 10 = 0 → 20 ≤ g → g ≤ asked → g ≤ c.ceiling → g ≤ th → g ≤ b → g ≤ grantFor c asked (some th) (some b))) ∧
  (∀ (b r g : Nat),
    budgetLimitOf b r ≤ 500 ∧ budgetLimitOf b r % 10 = 0 ∧ 5 * budgetLimitOf b r ≤ b - r ∧
    (g % 10 = 0 → g ≤ 500 → 5 * g ≤ b - r → g ≤ budgetLimitOf b r)) ∧
  ([(4500, 0), (4500, 1200), (4500, 2600), (2500, 1200), (2500, 1245), (1500, 300), (1500, 1455), (1500, 2600)].map
      (fun r => budgetLimitOf r.1 r.2) = [500, 500, 380, 260, 250, 240, 0, 0])

/-- O35. When the GRANT of an accepted REPORT has been sent the window ends: PENIO is idle, no failure is counted, the
session is the outcome, or PAUSED where a pause cause stands at the end, and the next window is due one topped period
later in TOPPED and one charging report period later otherwise. The setpoint is 0 outside CHARGING, never above the grant
sent, the ceiling, the thermal limit or the budget limit, and equals the grant sent when the outcome is CHARGING, no cause
stands and the grant keeps under all of them. A pen fault outcome is a charge fault. (R106, R113, R114, R127, R128, R131)
-/
def Obligations.GrantSent : Prop :=
  (∀ (st : Session) (s : State),
    s.part.pn.phase = .grant → s.part.pn.outcome = some (.session st) →
    Completes .grantSent s fun t =>
      (t.part.pn.phase = .idle ∧ t.part.pn.failures = 0 ∧ t.part.pn.outcome = none) ∧
      (t.part.cc.session = st ∨ (t.part.cc.session = .paused ∧ t.part.cc.causes.any = true)) ∧
      t.part.cc.windowTimer = some ⟨s.part.tb,
        if t.part.cc.session = .topped then s.part.sl.inForce.toppedPeriod else s.part.sl.inForce.chargePeriod⟩ ∧
      (t.part.cc.session ≠ .charging → t.part.cc.setpoint = 0) ∧
      (t.part.cc.setpoint ≤ s.part.pn.granted ∧ t.part.cc.setpoint ≤ s.part.sl.inForce.ceiling ∧
        t.part.cc.setpoint ≤ s.part.cc.budgetLimit ∧ t.part.cc.setpoint ≤ minLimit 500 s.part.cc.thermalLimit) ∧
      (st = .charging → s.part.cc.causes.any = false → s.part.pn.granted ≤ s.part.sl.inForce.ceiling →
        s.part.pn.granted ≤ s.part.cc.budgetLimit → s.part.pn.granted ≤ minLimit 500 s.part.cc.thermalLimit →
        t.part.cc.session = .charging ∧ t.part.cc.setpoint = s.part.pn.granted)) ∧
  (∀ (s : State),
    s.part.pn.phase = .grant → s.part.pn.outcome = some .penFault →
    Completes .grantSent s fun t =>
      ChargeFaulted .penReported s t ∧ t.part.pn.failures = 0)

/-- O36. While the monitor runs (no talk use of PENIO, a session other than ABSENT), a measured current above the setpoint
plus 50 mA is a charge fault: the setpoint is 0, a window in progress is given up, the fault kind and the measurement are
kept; without a history the session enters COOLDOWN for 5000 ms, a history of 60000 ms starts and PEN_COOLDOWN is raised;
with one it enters LOCKOUT, the history ends, PEN_LOCKOUT is raised and PEN_COOLDOWN leaves; in LOCKOUT it stays. CHARGE
is under way after it. The expiry of the history timer ends the history and changes nothing else. (R130, R131, R132, R135)
-/
def Obligations.ChargeFaults : Prop :=
  (∀ (m : BitVec 10) (s : State),
    talkUse s.part.pn.phase = false → s.part.cc.session ≠ .absent → s.part.cc.setpoint + 50 < m.toNat →
    Completes (.overcurrent m) s fun t =>
      ChargeFaulted .overcurrent s t ∧ t.part.cc.measured = m.toNat ∧
      (s.part.resetWork = none → NoticeUnderWay .charge t)) ∧
  (∀ (s : State),
    timerDue s.part.cc.history s.part.tb = true →
    exec .faultHistoryExpiry s = .next { s with part := { s.part with cc := { s.part.cc with history := none } } })

/-- O37. The PEN_CONTROL at the head of CC's queue is taken. In ABSENT every form completes NO_PEN. STOP completes OK with
HOST among the causes, and CHARGING or PRECHARGE outside a window goes to PAUSED with setpoint 0. RESUME completes OK in
SILENT, which goes to WAKING and clears PEN_SILENT, and where HOST stands, which leaves the causes, PAUSED outside a
window without another cause going to WAKING; elsewhere it completes WRONG_STATE. CLEAR_LOCKOUT completes OK in LOCKOUT,
which goes to WAKING without a history and clears PEN_LOCKOUT; elsewhere WRONG_STATE. Any other argument completes
BAD_ARG. (R114, R115, R119, R132, R134, R165) -/
def Obligations.PenControlRequests : Prop :=
  (∀ (r : Request) (rs : List Request) (s : State),
    s.part.rq.cc = r :: rs → r.kind = 7#16 → r.arg 0 = 1 →
    Completes .penControlStop s fun t =>
      t.part.rq.cc = rs ∧
      (s.part.cc.session = .absent → t.part.cc = s.part.cc ∧ CompletedWith r false rcNoPen [] t) ∧
      (s.part.cc.session ≠ .absent → CompletedWith r true rcOk [] t ∧ t.part.cc.causes.host = true ∧
        (s.part.cc.session = .charging ∨ s.part.cc.session = .precharge → s.part.pn.phase = .idle →
          t.part.cc.session = .paused ∧ t.part.cc.setpoint = 0 ∧
          t.part.cc.windowTimer = some ⟨s.part.tb, s.part.sl.inForce.chargePeriod⟩))) ∧
  (∀ (r : Request) (rs : List Request) (s : State),
    s.part.rq.cc = r :: rs → r.kind = 7#16 → r.arg 0 = 2 →
    Completes .penControlResume s fun t =>
      t.part.rq.cc = rs ∧
      (s.part.cc.session = .absent → t.part.cc = s.part.cc ∧ CompletedWith r false rcNoPen [] t) ∧
      (s.part.cc.session = .silent → CompletedWith r true rcOk [] t ∧ t.part.cc.session = .waking ∧
        t.part.cc.causes.host = false ∧ (s.part.resetWork = none → ¬ FaultActive .penSilent t)) ∧
      (s.part.cc.session ≠ .absent → s.part.cc.session ≠ .silent → s.part.cc.causes.host = true →
        CompletedWith r true rcOk [] t ∧ t.part.cc.causes = { s.part.cc.causes with host := false } ∧
        t.part.cc.session =
          (if s.part.cc.session = .paused ∧ s.part.pn.phase = .idle ∧ s.part.cc.causes.thermal = false ∧
              s.part.cc.causes.budget = false then .waking else s.part.cc.session)) ∧
      (s.part.cc.session ≠ .absent → s.part.cc.session ≠ .silent → s.part.cc.causes.host = false →
        t.part.cc = s.part.cc ∧ CompletedWith r false rcWrongState [] t)) ∧
  (∀ (r : Request) (rs : List Request) (s : State),
    s.part.rq.cc = r :: rs → r.kind = 7#16 → r.arg 0 = 3 →
    Completes .penControlClearLockout s fun t =>
      t.part.rq.cc = rs ∧
      (s.part.cc.session = .absent → t.part.cc = s.part.cc ∧ CompletedWith r false rcNoPen [] t) ∧
      (s.part.cc.session = .lockout → CompletedWith r true rcOk [] t ∧ t.part.cc.session = .waking ∧
        t.part.cc.history = none ∧ (s.part.resetWork = none → ¬ FaultActive .penLockout t)) ∧
      (s.part.cc.session ≠ .absent → s.part.cc.session ≠ .lockout →
        t.part.cc = s.part.cc ∧ CompletedWith r false rcWrongState [] t)) ∧
  (∀ (r : Request) (rs : List Request) (s : State),
    s.part.rq.cc = r :: rs → r.kind = 7#16 → r.arg 0 = 0 ∨ 3 < r.arg 0 →
    Completes .penControlBadArg s fun t =>
      t.part.rq.cc = rs ∧ t.part.cc = s.part.cc ∧
      CompletedWith r false (if s.part.cc.session = .absent then rcNoPen else rcBadArg) [] t)

/-- O38. The SET_HOST_STATE at the head of SA's queue is taken. An argument that names no host state completes BAD_ARG and
the present one completes OK, either leaving the rest of the part as it is. A new host state completes OK: SA and NU hold
it, SP takes its rate, CC its budget, the link its target by the posture last told to SA, and the advisor is WATCHING
without timers unless the host runs; a host that runs has the display undimmed and the advisor in ACTIVE, or in
CLOSE_PENDING with the grace timer where the posture is CLOSED and close-sleep applies, and no repeat of WAKE. Where the
order is HIBERNATE and the link in ACTIVE or STALL has no QUERY or ATTR queued or outstanding, the link enters HIBERNATE:
the minimum hibernate timer starts, no stall idle timer runs, MODE HIBERNATE goes out on a free line or is queued behind
what stands, and BASE is offered with HIBERNATED. (R9, R69, R78, R122, R138, R139, R140, R184, R165) -/
def Obligations.SetHostState : Prop :=
  (∀ (r : Request) (rs : List Request) (s : State),
    s.part.rq.sa = r :: rs → r.kind = 3#16 →
    hostStateOf (r.arg 0) = none ∨ hostStateOf (r.arg 0) = some s.part.sa.hostState →
    Completes .setHostState s fun t =>
      t = { s with part := { s.part with rq := t.part.rq, hp := t.part.hp } } ∧
      (hostStateOf (r.arg 0) = none → TakenWith r false rcBadArg [] { s.part.rq with sa := rs } t) ∧
      (hostStateOf (r.arg 0) ≠ none → TakenWith r true rcOk [] { s.part.rq with sa := rs } t)) ∧
  (∀ (r : Request) (rs : List Request) (h : HostState) (s : State),
    s.part.rq.sa = r :: rs → r.kind = 3#16 → hostStateOf (r.arg 0) = some h → h ≠ s.part.sa.hostState →
    Completes .setHostState s fun t =>
      (t.part.rq.sa = rs ∧ CompletedWith r true rcOk [] t) ∧
      (t.part.sa.hostState = h ∧ t.part.nu.hostState = h ∧ t.part.sp.rate = rateOf h) ∧
      t.part.cc.budget = budgetOf s.part.sl.inForce h ∧
      t.part.bl.target = orderFor h s.part.sa.posture ∧
      (h ≠ .running → t.part.sa.advisor = .watching ∧ t.part.sa.inactivity = none ∧ t.part.sa.grace = none) ∧
      (h = .running → t.part.nu.wakeTimer = none ∧ t.part.sa.dimmed = false ∧
        t.part.sa.advisor = (if t.part.sa.posture = .closed ∧ closeSleeps s.part.sl.inForce = true then .closePending
          else .active) ∧
        t.part.sa.grace = (if t.part.sa.posture = .closed ∧ closeSleeps s.part.sl.inForce = true
          then some ⟨s.part.tb, s.part.sl.inForce.closeGrace⟩ else none) ∧
        t.part.sa.inactivity =
          (if s.part.sl.inForce.inactivityTime = 0 ∨ s.part.sl.inForce.keepAwake = true then none
           else some ⟨s.part.tb, s.part.sl.inForce.inactivityTime * 1000⟩))) ∧
  (∀ (r : Request) (rs : List Request) (h : HostState) (s : State),
    s.part.rq.sa = r :: rs → r.kind = 3#16 → hostStateOf (r.arg 0) = some h → h ≠ s.part.sa.hostState →
    h = .off ∨ (h = .sleeping ∧ s.part.sa.posture = .closed) →
    s.part.bl.link = .active ∨ s.part.bl.link = .stall → s.part.bl.attrOrQuery = false →
    Completes .setHostState s fun t =>
      (t.part.bl.link = .hibernate ∧ t.part.bl.target = .hibernate ∧ t.part.bl.stallTimer = none) ∧
      t.part.bl.minHibTimer = some ⟨s.part.tb, s.part.sl.inForce.minHibernate⟩ ∧
      (s.part.bl.tx = none → s.part.bl.lineOrder = none → s.part.bl.exch = none →
        t.part.bl.exch = some (.mode .hibernate t.part.bl.quiet) ∧ t.part.bl.qMode = none ∧
        t.part.bl.tx = some (.frame ((Exchange.mode .hibernate t.part.bl.quiet).bytes s.part.bl.txSeq) true)) ∧
      (s.part.bl.tx ≠ none →
        t.part.bl.tx = s.part.bl.tx.map Tx.orphan ∧ t.part.bl.qMode = some .hibernate) ∧
      (s.part.bl.replyTimer ≠ none → s.part.bl.exch ≠ none → s.part.bl.tx = none → s.part.bl.lineOrder = none →
        t.part.bl.exch = s.part.bl.exch ∧ t.part.bl.qMode = some .hibernate) ∧
      (PublishesAtOnce .base s →
        ∃ ws, (t.part.nu.classes.get .base).publishing = some ws ∧ ws[5]? = some 9#16 ∧ ws[6]? = some 8#16) ∧
      (s.part.resetWork = none → ¬ PublishesAtOnce .base s →
        ∃ c, (t.part.nu.classes.get .base).shadow = some (.base c) ∧ c.events.getLsbD 3 = true)) ∧
  (hostStateOf 0 = none ∧ hostStateOf 1 = some .running ∧ hostStateOf 2 = some .sleeping ∧ hostStateOf 3 = some .off) ∧
  (∀ (n : Nat),
    3 < n → hostStateOf n = none)

/-- O39. When the inactivity timer has run out it is cancelled; in ACTIVE without keep-awake the advisor goes to IDLE with
the display dimmed and ADVICE is under way once the reset's work has ended, and otherwise nothing else changes. When the
grace timer has run out it is cancelled; in CLOSE_PENDING the advisor goes to SLEEP_ADVISED with ADVICE under way, and
otherwise nothing else changes. While the host runs, an orientation publication, a debounced change of PENH, a base
attach, a forwarded key press and lid motion (a good sample that differs from the one before by more than the threshold on
an axis, no fresh start between) are activity: the inactivity timer restarts with its time, or is cancelled where that is
0 or keep-awake is on, IDLE returns to ACTIVE undimmed with UNDIM advised, and other states stay without an advice; a base
detach is activity too. In WATCHING a pen removal with pen-removal wake on, a base attach, a lid opened at LIDH while
CLOSED is published, a forwarded key press, and lid motion with pickup wake on in TABLET, FLAT or DETACHED advise WAKE,
each with its cause, and order a hibernating link to STALL; the others give no advice. (With the posture rules kept, O56,
and without a pending wake whose minimum time has passed, O51.) (R143, R145, R149, R141, R142, R147, R148) -/
def Obligations.AdvisorTimers : Prop :=
  (∀ (s : State),
    timerDue s.part.sa.inactivity s.part.tb = true →
    (s.part.sa.advisor = .active → s.part.sl.inForce.keepAwake = false →
      Completes .inactivityExpiry s fun t =>
        t.part.sa = { s.part.sa with inactivity := none, advisor := .idle, dimmed := true } ∧
        (s.part.resetWork = none → NoticeUnderWay .advice t)) ∧
    (¬ (s.part.sa.advisor = .active ∧ s.part.sl.inForce.keepAwake = false) →
      exec .inactivityExpiry s = .next { s with part := { s.part with sa := { s.part.sa with inactivity := none } } })) ∧
  (∀ (s : State),
    timerDue s.part.sa.grace s.part.tb = true →
    (s.part.sa.advisor = .closePending →
      Completes .graceExpiry s fun t =>
        t.part.sa = { s.part.sa with grace := none, advisor := .sleepAdvised } ∧
        (s.part.resetWork = none → NoticeUnderWay .advice t)) ∧
    (s.part.sa.advisor ≠ .closePending →
      exec .graceExpiry s = .next { s with part := { s.part with sa := { s.part.sa with grace := none } } })) ∧
  (∀ (q : Rotation) (s : State),
    timerDue s.part.ot.dwell s.part.tb = true → s.part.ot.candidate = some q → s.part.sa.hostState = .running →
    ¬ WakeOverdue s →
    Completes .orientationDwellExpiry s fun t => ActivityTaken s t) ∧
  (∀ (s : State),
    timerDue s.part.inp.penh.timer s.part.tb = true → ¬ WakeOverdue s →
    (s.part.sa.hostState = .running → s.part.sa.advisor ≠ .watching →
      Completes (.debounceExpiry .penh) s fun t => ActivityTaken s t) ∧
    (s.part.sa.hostState ≠ .running → s.part.sa.advisor = .watching →
      Completes (.debounceExpiry .penh) s fun t =>
        if filteredActive s.part.sl.inForce .penh s.part.inp.penh.level = false ∧ s.part.sl.inForce.penWake = true
        then WakeAdvised 8#16 s.part.sa.posture s t
        else t.part.nu.classes.advice = s.part.nu.classes.advice)) ∧
  (∀ (s : State),
    timerDue s.part.inp.bpres.timer s.part.tb = true → PostureInv s.part →
    filteredActive s.part.sl.inForce .bpres s.part.inp.bpres.level = true → s.part.bl.link = .detached →
    (s.part.sa.hostState = .running → s.part.sa.advisor ≠ .watching →
      Completes (.debounceExpiry .bpres) s fun t => ActivityTaken s t) ∧
    (s.part.sa.hostState ≠ .running → s.part.sa.advisor = .watching →
      Completes (.debounceExpiry .bpres) s fun t => WakeAdvised 16#16 s.part.sa.posture s t)) ∧
  (∀ (s : State),
    timerDue s.part.inp.bpres.timer s.part.tb = true →
    filteredActive s.part.sl.inForce .bpres s.part.inp.bpres.level = false → s.part.bl.link ≠ .detached →
    ¬ WakeOverdue s →
    (s.part.sa.hostState = .running →
      Completes (.debounceExpiry .bpres) s fun t => InactivityRestarted s t ∧
        (s.part.sa.advisor = .active ∨ s.part.sa.advisor = .idle → t.part.sa.advisor = .active)) ∧
    (s.part.sa.hostState ≠ .running → s.part.sa.advisor = .watching →
      Completes (.debounceExpiry .bpres) s fun t =>
        t.part.sa.inactivity = s.part.sa.inactivity ∧ t.part.nu.classes.advice = s.part.nu.classes.advice)) ∧
  (∀ (s : State),
    timerDue s.part.inp.lidh.timer s.part.tb = true → s.part.bl.link.attached = true → ¬ WakeOverdue s →
    s.part.sa.hostState ≠ .running → s.part.sa.advisor = .watching →
    Completes (.debounceExpiry .lidh) s fun t =>
      if filteredActive s.part.sl.inForce .lidh s.part.inp.lidh.level = false ∧ s.part.sa.posture = .closed
      then WakeAdvised 2#16 .closed s t
      else t.part.nu.classes.advice = s.part.nu.classes.advice) ∧
  (∀ (noise : NoiseCount) (seq : BitVec 4) (code flags heldCount : Byte) (s : State),
    s.part.bl.link = .active → s.part.bl.target ≠ .hibernate → flags.getLsbD 0 = false →
    0 < code.toNat → code.toNat < 128 → code.toNat ∉ s.part.kt.held → s.part.kt.held.length < 16 →
    s.part.kt.suppression = false → s.part.kt.queue.length < 16 →
    (s.part.sa.hostState = .running → s.part.sa.advisor ≠ .watching →
      Completes (.keys noise seq [⟨code, flags⟩] heldCount) s fun t => ActivityTaken s t) ∧
    (s.part.sa.hostState ≠ .running → s.part.sa.advisor = .watching →
      Completes (.keys noise seq [⟨code, flags⟩] heldCount) s fun t => WakeAdvised 4#16 s.part.sa.posture s t)) ∧
  (∀ (due : Time) (v before : Int × Int × Int) (a r : SampleTry) (s : State),
    s.part.sp.flight = .sample due → sampleReading a r = some v → PostureInv s.part →
    s.part.sa.previous = some before → s.part.sp.fresh = false →
    ¬ WakeOverdue s →
    Completes (.sampleArrival a r) s fun t => t.part.sa.previous = some v ∧
      (if (s.part.sl.inForce.pickupThreshold < (v.1 - before.1).natAbs ∨
          s.part.sl.inForce.pickupThreshold < (v.2.1 - before.2.1).natAbs ∨
          s.part.sl.inForce.pickupThreshold < (v.2.2 - before.2.2).natAbs)
       then (s.part.sa.hostState = .running → s.part.sa.advisor ≠ .watching → ActivityTaken s t) ∧
        (s.part.sa.hostState ≠ .running → s.part.sa.advisor = .watching →
          if s.part.sl.inForce.pickupWake = true ∧ s.part.sa.posture ∈ [.tablet, .flat, .detached]
          then WakeAdvised 32#16 s.part.sa.posture s t
          else t.part.nu.classes.advice = s.part.nu.classes.advice)
       else t.part.sa = { s.part.sa with previous := some v }))

/-- O40. The end of the publication of the class that is first in the line of records writes its 48 words into its record
and no other word (memory in canonical form), makes the class PENDING and no longer publishing, and recomputes the service
level and ATTN; the next record in line, if any, is then written and held, against the transaction in progress too; for a
wake-enabled class while the host does not run WAKE is in progress and its repeat timer starts. No publication but the
first in line ends. The end of the pulse, 1 ms after its start, ends WAKE and changes nothing else. The repeat timer that
has run out starts WAKE and itself again while the host does not run and a wake-enabled class is PENDING or IN_SERVICE;
else it is only cancelled. That a record waits in line for those whose publications started before it is log entry 57.
That the words are written at the command that ends the publication is log entry 13. (R158, R176, R179, R184) -/
def Obligations.PublicationsAndWake : Prop :=
  (∀ (c : NoticeClass) (ws : List Word) (s : State),
    (s.part.nu.classes.get c).publishing = some ws → s.part.nu.writing.head? = some c → ws.length = 48 → MemoryInv s →
    Completes (.recordPublicationEnd c) s fun t =>
      (∀ n, n < 48 → t.xm.read (recordBase c + n) = (ws[n]?).getD 0#16) ∧
      (∀ a, a < recordBase c ∨ recordBase c + 48 ≤ a → t.xm.read a = s.xm.read a) ∧
      t.part.nu.classes =
        s.part.nu.classes.set c { s.part.nu.classes.get c with state := .pending, publishing := none } ∧
      t.part.nu.writing = s.part.nu.writing.tail ∧
      t.part.hp =
        (match s.part.nu.writing.tail.head?, s.part.hp.trans with
         | some d, some tr => { s.part.hp with trans := some { tr with held := (recordBase d, 48) :: tr.held } }
         | _, _ => s.part.hp) ∧
      (∀ d ∈ s.part.nu.writing.tail.head?, ∀ a, a < 48 → isHeld t.part (recordBase d + a) = true) ∧
      t.part.nu.serviceLevel = serviceLevelOf s.part.sl.inForce t.part.nu.classes ∧
      t.part.nu.attn = allClasses.any (eligibleAt s.part.sl.inForce t.part.nu.classes t.part.nu.serviceLevel) ∧
      ((s.part.sl.inForce.classes.get c).wake = true → s.part.nu.hostState ≠ .running →
        t.part.nu.wake ≠ none ∧ t.part.nu.wakeTimer = some ⟨s.part.tb, s.part.sl.inForce.wakeRetry⟩) ∧
      ((s.part.sl.inForce.classes.get c).wake = false ∨ s.part.nu.hostState = .running →
        t.part.nu.wake = s.part.nu.wake ∧ t.part.nu.wakeTimer = s.part.nu.wakeTimer)) ∧
  (∀ (c : NoticeClass) (s : State),
    s.part.nu.writing.head? ≠ some c →
    exec (.recordPublicationEnd c) s = .next s) ∧
  (∀ (start : Time) (s : State),
    s.part.nu.wake = some start → 1 ≤ (s.part.tb - start).toNat →
    exec .wakePulseEnd s = .next { s with part := { s.part with nu := { s.part.nu with wake := none } } }) ∧
  (∀ (s : State),
    timerDue s.part.nu.wakeTimer s.part.tb = true →
    Completes .wakeRepeatExpiry s fun t =>
      (s.part.nu.hostState ≠ .running →
        (∃ c ∈ allClasses, (s.part.sl.inForce.classes.get c).wake = true ∧ (s.part.nu.classes.get c).state ≠ .idle) →
        t.part.nu.wake ≠ none ∧ t.part.nu.wakeTimer = some ⟨s.part.tb, s.part.sl.inForce.wakeRetry⟩) ∧
      (s.part.nu.hostState = .running ∨
        (∀ c ∈ allClasses, (s.part.sl.inForce.classes.get c).wake = true → (s.part.nu.classes.get c).state = .idle) →
        t.part.nu.wake = s.part.nu.wake ∧ t.part.nu.wakeTimer = none))

/-- O41. A read of ACKNOWLEDGE with outcome OK: the eligible class (PENDING, unmasked, priority value below the service
level) with the smallest priority value, and among equals the lowest number, becomes IN_SERVICE and no other class changes
state; its bit is set in IN_SERVICE; the service level and ATTN are recomputed; the word returned has the class number in
the low byte and the priority value in the high byte. With no eligible class the word is 0xFFFF and nothing but the port
changes. A class that is not PENDING, such as one that is publishing, which is IDLE, is never chosen, and BAD_SERVICE is
not counted. (R181) -/
def Obligations.AcknowledgeClaimsTheMostUrgentClass : Prop :=
  (∀ (c : NoticeClass) (s : State),
    portFree s.part = true → readOutcome (s.on (openTrans .read 3)) 3 = .ok →
    Claimable s c →
    (∀ d ∈ allClasses, Claimable s d → d ≠ c →
      (s.part.sl.inForce.classes.get c).priority < (s.part.sl.inForce.classes.get d).priority ∨
      ((s.part.sl.inForce.classes.get c).priority = (s.part.sl.inForce.classes.get d).priority ∧
        classNumber c < classNumber d)) →
    Completes .acknowledge s fun t =>
      t.part.nu.classes = s.part.nu.classes.set c { s.part.nu.classes.get c with state := .inService } ∧
      (peek t 6).getLsbD (classNumber c) = true ∧
      t.part.nu.serviceLevel = serviceLevelOf s.part.sl.inForce t.part.nu.classes ∧
      t.part.nu.attn = allClasses.any (eligibleAt s.part.sl.inForce t.part.nu.classes t.part.nu.serviceLevel) ∧
      t.part.hp.out.getLast? =
        some (BitVec.ofNat 8 (s.part.sl.inForce.classes.get c).priority ++ BitVec.ofNat 8 (classNumber c)) ∧
      t.part.nu.badService = s.part.nu.badService ∧ t.xm = s.xm) ∧
  (∀ (s : State),
    portFree s.part = true → readOutcome (s.on (openTrans .read 3)) 3 = .ok →
    (∀ d ∈ allClasses, ¬ Claimable s d) →
    Completes .acknowledge s fun t =>
      t.part.hp.out.getLast? = some 0xFFFF#16 ∧ t = { s with part := { s.part with hp := t.part.hp } })

/-- O42. A write of TAKE with outcome OK that names a PENDING class puts it IN_SERVICE whatever its mask and priority and
no other class changes; the service level and ATTN are recomputed. A write of END_SERVICE with outcome OK that names a
class IN_SERVICE makes it IDLE, the level and ATTN are recomputed, and a held shadow, or for KEYS a queue that is not
empty, starts its publication at once: the shadow, which is of that class (O52), is published with its coalesce count, the
sequence counter advances, and the shadow and the count are empty, and its record stands last in the line of those that NU
writes one after another (R158, log entry 57), and is held at once where none stands before it; without one the class
stays as it was but IDLE. Any other value changes nothing of NU but BAD_SERVICE, which adds 1 up to 65535. (R157, R176,
R178, R179, R182, R183, R177, R158) -/
def Obligations.TakeAndEndService : Prop :=
  (∀ (v : Word) (c : NoticeClass) (s : State),
    portFree s.part = true → writeOutcome (s.on (openTrans .write 4)) 4 v = .ok →
    classOfWord v = some c → (s.part.nu.classes.get c).state = .pending →
    Completes (.take v) s fun t =>
      t.part.nu.classes = s.part.nu.classes.set c { s.part.nu.classes.get c with state := .inService } ∧
      (peek t 6).getLsbD (classNumber c) = true ∧ t.part.nu.badService = s.part.nu.badService ∧
      t.part.nu.serviceLevel = serviceLevelOf s.part.sl.inForce t.part.nu.classes ∧
      t.part.nu.attn = allClasses.any (eligibleAt s.part.sl.inForce t.part.nu.classes t.part.nu.serviceLevel)) ∧
  (∀ (v : Word) (s : State),
    portFree s.part = true → writeOutcome (s.on (openTrans .write 4)) 4 v = .ok →
    (∀ c ∈ allClasses, classOfWord v = some c → (s.part.nu.classes.get c).state ≠ .pending) →
    Completes (.take v) s fun t =>
      t.part.nu = { s.part.nu with badService := min (s.part.nu.badService + 1) 65535 }) ∧
  (∀ (v : Word) (c : NoticeClass) (s : State),
    portFree s.part = true → writeOutcome (s.on (openTrans .write 5)) 5 v = .ok →
    classOfWord v = some c → (s.part.nu.classes.get c).state = .inService →
    (∀ h ∈ (s.part.nu.classes.get c).shadow, h.cls = c) →
    Completes (.endService v) s fun t =>
      (t.part.nu.classes.get c).state = .idle ∧ (peek t 6).getLsbD (classNumber c) = false ∧
      (∀ d ∈ allClasses, d ≠ c → t.part.nu.classes.get d = s.part.nu.classes.get d) ∧
      t.part.nu.serviceLevel = serviceLevelOf s.part.sl.inForce t.part.nu.classes ∧
      t.part.nu.attn = allClasses.any (eligibleAt s.part.sl.inForce t.part.nu.classes t.part.nu.serviceLevel) ∧
      (c ≠ .keys → (s.part.nu.classes.get c).shadow = none →
        t.part.nu.classes.get c = { s.part.nu.classes.get c with state := .idle } ∧
        t.part.nu.writing = s.part.nu.writing) ∧
      (c ≠ .keys → (s.part.nu.classes.get c).shadow ≠ none →
        t.part.nu.writing = s.part.nu.writing ++ [c] ∧
        (∀ h ∈ (s.part.nu.classes.get c).shadow,
          Publishes c (s.part.nu.classes.get c).coalesce (h.words s.part) s t) ∧
        (t.part.nu.classes.get c).shadow = none ∧ (t.part.nu.classes.get c).coalesce = 0 ∧
        (t.part.nu.classes.get c).seq = (s.part.nu.classes.get c).seq + 1#16) ∧
      (c = .keys → s.part.kt.queue = [] →
        t.part.nu.classes.get c = { s.part.nu.classes.get c with state := .idle } ∧ t.part.kt = s.part.kt ∧
        t.part.nu.writing = s.part.nu.writing) ∧
      (c = .keys → s.part.kt.queue ≠ [] →
        (t.part.nu.classes.get c).publishing ≠ none ∧
        t.part.nu.writing = s.part.nu.writing ++ [c] ∧
        (t.part.nu.classes.get c).seq = (s.part.nu.classes.get c).seq + 1#16 ∧
        t.part.kt = { s.part.kt with queue := s.part.kt.queue.drop 16, dropped := 0, resync := false }) ∧
      (s.part.nu.writing = [] → t.part.nu.writing = [c] →
        ∀ a, a < 48 → isHeld t.part (recordBase c + a) = true)) ∧
  (∀ (v : Word) (s : State),
    portFree s.part = true → writeOutcome (s.on (openTrans .write 5)) 5 v = .ok →
    (∀ c ∈ allClasses, classOfWord v = some c → (s.part.nu.classes.get c).state ≠ .inService) →
    Completes (.endService v) s fun t =>
      t.part.nu = { s.part.nu with badService := min (s.part.nu.badService + 1) 65535 } ∧ t.part.kt = s.part.kt) ∧
  (∀ (v : Word) (c : NoticeClass),
    classOfWord v = some c ↔ v.toNat = classNumber c)

/-- O43. With no attention bit set before, a write of ATTENTION with outcome OK that names one slot clears the bit again:
a slot that reads POSTED reads ACCEPTED, its request (kind, 13 argument words, this TB value) stands at the tail of the
queue of its kind's owner, and no other word changes; any other slot is left as it is and BAD_ATTENTION adds 1. The
owners: SL of APPLY_SETTINGS and LOCK_SETTINGS, SA of SET_HOST_STATE, PW of BASE_ATTRIBUTE and PROFILE_RELOAD, BL of
BASE_RETRY, CC of PEN_CONTROL, NU of REFRESH, RQ of the rest. That the whole pass runs with the access is log entry 43.
(R157, R163, R164, R167) -/
def Obligations.AttentionAcceptsAndRoutes : Prop :=
  (∀ (n : Nat) (s : State),
    n < 8 → portFree s.part = true → writeOutcome (s.on (openTrans .write 2)) 2 (1#16 <<< n) = .ok →
    s.part.rq.attention = 0#8 → s.xm.read (slotBase n) = slotPosted →
    Completes (.attention (1#16 <<< n)) s fun t =>
      t.part.rq = route (slotRequest s n) s.part.rq ∧ t.xm.read (slotBase n) = slotAccepted ∧
      ∀ a, a ≠ slotBase n → t.xm.read a = s.xm.read a) ∧
  (∀ (n : Nat) (s : State),
    n < 8 → portFree s.part = true → writeOutcome (s.on (openTrans .write 2)) 2 (1#16 <<< n) = .ok →
    s.part.rq.attention = 0#8 → s.xm.read (slotBase n) ≠ slotPosted →
    Completes (.attention (1#16 <<< n)) s fun t =>
      t.part.rq = { s.part.rq with badAttention := min (s.part.rq.badAttention + 1) 65535 } ∧ t.xm = s.xm) ∧
  (∀ (r : Request) (q : Rq),
    (r.kind ∈ [1#16, 2#16] → route r q = { q with sl := q.sl ++ [r] }) ∧
    (r.kind = 3#16 → route r q = { q with sa := q.sa ++ [r] }) ∧
    (r.kind ∈ [4#16, 6#16] → route r q = { q with pw := q.pw ++ [r] }) ∧
    (r.kind = 5#16 → route r q = { q with bl := q.bl ++ [r] }) ∧
    (r.kind = 7#16 → route r q = { q with cc := q.cc ++ [r] }) ∧
    (r.kind = 10#16 → route r q = { q with nu := q.nu ++ [r] }) ∧
    (r.kind ∈ [0#16, 8#16, 9#16] ∨ 10 < r.kind.toNat → route r q = { q with rq := q.rq ++ [r] }))

/-- O44. While the port takes transactions, a read of one word other than ACKNOWLEDGE returns the word as it stands, or
0xFFFF where it is held and 0 above 0x7FF, and changes nothing but the port. A write with outcome OK to a word without a
trigger writes it and no other (memory in canonical form); with any other outcome it changes nothing but the port. An
UPDATE with outcome OK returns the word before and writes only where that is the word expected; of ATTENTION, TAKE and
END_SERVICE it returns the word as a read gives it and then acts as a write does, or not at all. Not OK it changes nothing
but the port, and returns the word where it is PROTECTED (0xFFFF for ACKNOWLEDGE), 0xFFFF where held, 0 above 0x7FF. Its
new word not yet complete it makes no access; completed, it goes on with its transaction, so that a range held since is
RETRY. Longer reads and writes are their words one after another, at rising addresses, in one transaction. What continues
a transaction is log entry 16, and a PROTECTED word that is held too log entry 23. (R151, R152, R153, R154, R156, R157,
R158) -/
def Obligations.HostWordAccesses : Prop :=
  (∀ (a : Word) (s : State),
    portFree s.part = true → a ≠ 3#16 →
    Completes (.read a 1) s fun t =>
      t = { s with part := { s.part with hp := t.part.hp } } ∧
      t.part.hp.out.getLast? = some
        (match readOutcome (s.on (openTrans .read a.toNat)) a.toNat with
         | .ok => peek (s.on (openTrans .read a.toNat)) a.toNat
         | .range => 0#16
         | .retry | .prot => 0xFFFF#16)) ∧
  (∀ (a : Word) (n : Nat) (s : State),
    portFree s.part = true →
    Completes (.read a 1) s fun t => a.toNat + 1 < 65536 →
      exec (.read (a + 1#16) n) t = exec (.read a (n + 1)) s) ∧
  (∀ (a w : Word) (s : State),
    portFree s.part = true → a.toNat ∉ [2, 4, 5] → MemoryInv s →
    writeOutcome (s.on (openTrans .write a.toNat)) a.toNat w = .ok →
    (∀ i ∈ [Instr.xmWordWrite a w, .write a [w]], Completes i s fun t =>
      t.xm.read a.toNat = w ∧ (∀ b, b ≠ a.toNat → t.xm.read b = s.xm.read b) ∧
      t.part = { s.part with hp := t.part.hp })) ∧
  (∀ (a w : Word) (s : State),
    portFree s.part = true → writeOutcome (s.on (openTrans .write a.toNat)) a.toNat w ≠ .ok →
    (∀ i ∈ [Instr.xmWordWrite a w, .write a [w]], Completes i s fun t =>
      t = { s with part := { s.part with hp := t.part.hp } })) ∧
  (∀ (a w : Word) (ws : List Word) (s : State),
    portFree s.part = true →
    Completes (.write a [w]) s fun t => a.toNat + 1 < 65536 →
      exec (.write (a + 1#16) ws) t = exec (.write a (w :: ws)) s) ∧
  (∀ (a expected w : Word) (s : State),
    portFree s.part = true → a.toNat ∉ [2, 4, 5] → MemoryInv s →
    Completes (.update a expected (some w)) s fun t =>
      (writeOutcome (s.on (openUpdate expected a.toNat)) a.toNat w = .ok →
        t.part.hp.out.getLast? = some (s.xm.read a.toNat) ∧
        t.xm.read a.toNat = (if s.xm.read a.toNat = expected then w else s.xm.read a.toNat)) ∧
      (writeOutcome (s.on (openUpdate expected a.toNat)) a.toNat w ≠ .ok → t.xm = s.xm) ∧
      (∀ b, b ≠ a.toNat → t.xm.read b = s.xm.read b) ∧
      t.part = { s.part with hp := t.part.hp }) ∧
  (∀ (a expected : Word) (s : State),
    portFree s.part = true →
    Completes (.update a expected none) s fun t =>
      t = { s with part := { s.part with hp := t.part.hp } } ∧ t.part.hp.out = []) ∧
  (∀ (a expected w : Word) (s : State),
    portFree s.part = true → a ∈ [2#16, 4#16, 5#16] →
    writeOutcome (s.on (openUpdate expected a.toNat)) a.toNat w = .ok →
    writeOutcome (s.on (openTrans .write a.toNat)) a.toNat w = .ok →
    Completes (.update a expected (some w)) s fun t => Completes (.write a [w]) s fun u =>
      t.part.hp.out.getLast? = some (if a = 2#16 then s.part.rq.attention.setWidth 16 else 0#16) ∧
      (expected = (if a = 2#16 then s.part.rq.attention.setWidth 16 else 0#16) →
        t.xm = u.xm ∧ t.part = { u.part with hp := t.part.hp }) ∧
      (expected ≠ (if a = 2#16 then s.part.rq.attention.setWidth 16 else 0#16) →
        t = { s with part := { s.part with hp := t.part.hp } })) ∧
  (∀ (a expected w : Word) (s : State),
    portFree s.part = true →
    writeOutcome (s.on (openUpdate expected a.toNat)) a.toNat w ≠ .ok →
    Completes (.update a expected (some w)) s fun t =>
      t = { s with part := { s.part with hp := t.part.hp } } ∧
      t.part.hp.out.getLast? = some
        (match writeOutcome (s.on (openUpdate expected a.toNat)) a.toNat w with
         | .prot => if a = 3#16 then 0xFFFF#16 else peek s a.toNat
         | .range => 0#16
         | .ok | .retry => 0xFFFF#16)) ∧
  (∀ (a expected w : Word) (s : State),
    portFree s.part = true → (∀ tr, s.part.hp.trans = some tr → tr.kind ≠ .update expected) →
    Completes (.update a expected none) s fun t =>
      exec (.update a expected (some w)) t = exec (.update a expected (some w)) s) ∧
  (∀ (a expected w : Word) (tr : Trans) (s : State),
    portFree s.part = true → s.part.hp.trans = some tr → tr.kind = .update expected → tr.next = a.toNat →
    tr.held.any (inRange · a.toNat) = true → a.toNat < 0x800 → hostMayWrite s.xm a.toNat w = true →
    Completes (.update a expected (some w)) s fun t =>
      t.xm = s.xm ∧ t.part.hp.out.getLast? = some 0xFFFF#16 ∧
      t.part.hp.trans.map (·.worst) = some (tr.worst.worse .retry))

/-- O45. While the port takes transactions, PORT READ returns 0xCF42 at index 0, at index 1 the status of the transaction
before with READY, and 0 with status RANGE at every other index. A command byte that names no transaction gives its
transaction the status RANGE. HCS rising stores the most severe outcome of the transaction in progress and ends it; when
HCS was low as RESETN rose, it only opens the port. All of these change nothing but the port. HMISO carries the word
returned last after a READ of one word or more, an UPDATE whose new word is complete and a PORT READ, and is driven high
after a WRITE, an UPDATE whose new word is not complete and an unknown command byte. It is high-impedance once HCS rises
(with no transaction while the port waits for it), while RESETN is low, when RESETN rises with HCS high, and after a
SOFT_RESET. That a new command ends the transaction before it is log entry 16, and that the words returned start anew with
it log entry 12. (R5, R150, R154, R155, R160, R151, R152, R153) -/
def Obligations.PortTransactions : Prop :=
  (∀ (index : Byte) (s : State),
    portFree s.part = true →
    Completes (.portRead index) s fun t =>
      t = { s with part := { s.part with hp := t.part.hp } } ∧
      t.part.hp.out =
        [if index = 0#8 then 0xCF42#16
         else if index = 1#8 then
           word (endTrans s.part).hp.status.code ||| (if s.part.partState = .starting then 0#16 else 0x8000#16)
         else 0#16] ∧
      t.part.hp.trans = some ⟨.other, 0, if index.toNat < 2 then .ok else .range, []⟩) ∧
  (∀ (b : Byte) (s : State),
    portFree s.part = true → namesTransaction b = false →
    Completes (.unknownCommand b) s fun t =>
      t = { s with part := { s.part with hp := t.part.hp } } ∧
      t.part.hp.trans.map (·.worst) = some .range ∧ t.part.hp.out = []) ∧
  (∀ (tr : Trans) (s : State),
    s.part.resetLow = false → s.part.hp.blocked = false → s.part.hp.trans = some tr →
    exec .transactionEnd s = .next { s with part := { s.part with hp := { s.part.hp with
      status := tr.worst, trans := none } } }) ∧
  (∀ (s : State),
    s.part.resetLow = false → s.part.hp.blocked = true →
    exec .transactionEnd s = .next { s with part := { s.part with hp := { s.part.hp with blocked := false } } }) ∧
  (∀ (a : Word) (n : Nat) (s : State),
    portFree s.part = true →
    Completes (.read a (n + 1)) s fun t =>
      t.part.hp.out.getLast?.map Hmiso.data = some (hmiso t.part)) ∧
  (∀ (a : Word) (ws : List Word) (s : State),
    portFree s.part = true →
    Completes (.write a ws) s fun t => hmiso t.part = .high) ∧
  (∀ (a expected w : Word) (s : State),
    portFree s.part = true →
    (Completes (.update a expected none) s fun t => hmiso t.part = .high) ∧
    (Completes (.update a expected (some w)) s fun t =>
      t.part.hp.out.getLast?.map Hmiso.data = some (hmiso t.part))) ∧
  (∀ (b : Byte) (s : State),
    portFree s.part = true →
    (Completes (.portRead b) s fun t => t.part.hp.out.map Hmiso.data = [hmiso t.part]) ∧
    (Completes (.unknownCommand b) s fun t => hmiso t.part = .high)) ∧
  (∀ (s : State),
    (s.part.hp.blocked = true → s.part.hp.trans = none) →
    Completes .transactionEnd s fun t => hmiso t.part = .highImpedance) ∧
  (∀ (s : State),
    (Completes .fullReset s fun t => hmiso t.part = .highImpedance) ∧
    (s.part.resetLow = true → Completes .transactionEnd s fun t => hmiso t.part = .highImpedance) ∧
    (s.part.resetLow = true → s.part.hp.trans = none →
      Completes (.resetnRelease false) s fun t => hmiso t.part = .highImpedance) ∧
    (portFree s.part = true → Completes .softReset s fun t => hmiso t.part = .highImpedance))

/-- O46. An APPLY_SETTINGS at the head of SL's queue starts the snapshot. At its end an offence leaves the settings in
force as they were and completes FAILED with BAD_SETTING and the first offending offset; an area that passes and needs no
word written comes into force and completes; one that needs words written starts the write-back with the settings in force
as they were. The end of the write-back writes those words into the area and no other (each offset once, memory in
canonical form), brings the settings into force and completes with its code; SETTINGS_REJECTED leaves the active fault
set. The offences are exactly those of R170, in ascending order. A proposal that passes has each field clamped; under the
lock the locked fields have the values in force, the three temperatures together; written are the fields that the clamp or
the lock changed, and the code is that of R171. The default area gives the default settings. That the words are written at
the command that ends the operation is log entry 13. (R169, R170, R171, R172, R165) -/
def Obligations.SettingsApply : Prop :=
  (∀ (r : Request) (rs : List Request) (s : State),
    s.part.sl.current = none → s.part.rq.sl = r :: rs → r.kind = 1#16 →
    Completes .applySettings s fun t =>
      t.part.sl = { s.part.sl with current := some r, op := .snapshot } ∧ t.part.rq = { s.part.rq with sl := rs }) ∧
  (∀ (r : Request) (s : State),
    s.part.sl.op = .snapshot → s.part.sl.current = some r →
    Completes .settingsSnapshotEnd s fun t =>
      (∀ off ∈ (offences (areaOf s)).head?.toList,
        t.part.sl = { s.part.sl with op := .idle, current := none } ∧
        CompletedWith r false rcBadSetting [word off] t) ∧
      (offences (areaOf s) = [] →
        ((judgeProposal s.part.sl.lock s.part.sl.inForce (areaOf s)).written = [] →
          t.part.sl = { s.part.sl with
            inForce := Settings.ofWords (judgeProposal s.part.sl.lock s.part.sl.inForce (areaOf s)).words
            op := .idle, current := none } ∧
          CompletedWith r true (judgeProposal s.part.sl.lock s.part.sl.inForce (areaOf s)).code [] t) ∧
        ((judgeProposal s.part.sl.lock s.part.sl.inForce (areaOf s)).written ≠ [] →
          t.part.sl = { s.part.sl with
            op := .writeBack (judgeProposal s.part.sl.lock s.part.sl.inForce (areaOf s)).written
              (Settings.ofWords (judgeProposal s.part.sl.lock s.part.sl.inForce (areaOf s)).words)
              (judgeProposal s.part.sl.lock s.part.sl.inForce (areaOf s)).code }))) ∧
  (∀ (r : Request) (ws : List (Nat × Word)) (new : Settings) (code : Word) (s : State),
    s.part.sl.op = .writeBack ws new code → s.part.sl.current = some r →
    (∀ x ∈ ws, x.1 < 224) → (ws.map (·.1)).Nodup → MemoryInv s →
    Completes .settingsWriteBackEnd s fun t =>
      t.part.sl = { s.part.sl with inForce := new, op := .idle, current := none } ∧
      CompletedWith r true code [] t ∧
      (∀ x ∈ ws, t.xm.read (settingsBase + x.1) = x.2) ∧
      (∀ a, (∀ x ∈ ws, a ≠ settingsBase + x.1) → t.xm.read a = s.xm.read a) ∧
      (s.part.resetWork = none → ¬ FaultActive .settingsRejected t)) ∧
  (∀ (ws : List Word) (o : Nat),
    (o ∈ offences ws ↔
      (o ∈ [0x00, 0x01] ∧
        ¬ [((wordAt ws o).extractLsb' 0 2).toNat, ((wordAt ws o).extractLsb' 4 2).toNat,
          ((wordAt ws o).extractLsb' 8 2).toNat].Perm [0, 1, 2]) ∨
      (o ∈ [0x08, 0x09, 0x0A, 0x0B] ∧
        (numAt ws o < 5 ∨ 355 < numAt ws o ∨ (o ≠ 0x08 ∧ numAt ws o < numAt ws (o - 1) + 10))) ∨
      (o = 0x37 ∧ min 100 (numAt ws 0x37) ≤ min 100 (numAt ws 0x36)) ∨
      (o = 0x38 ∧ min 100 (numAt ws 0x38) ≤ min 100 (numAt ws 0x37)) ∨
      (∃ c ∈ allClasses, o = 0x50 + 3 * classNumber c ∧ 7 < numAt ws o)) ∧
    (offences ws).Pairwise (· < ·)) ∧
  (∀ (lo hi : Nat) (d w : Word) (n : Nat),
    lo ≤ hi → hi < 65536 →
    (w.toNat < lo → (clampWord (.number lo hi) w).toNat = lo) ∧
    (hi < w.toNat → (clampWord (.number lo hi) w).toNat = hi) ∧
    (lo ≤ w.toNat → w.toNat ≤ hi → clampWord (.number lo hi) w = w) ∧
    ((clampWord (.set d) w).getLsbD n = true ↔ w.getLsbD n = true ∧ d.getLsbD n = true) ∧
    clampWord .flag w = (if w = 0#16 then 0#16 else 1#16)) ∧
  (∀ (c : Settings) (ws : List Word),
    (judgeProposal false c ws).words = fields.map (fun f => (f.1, clampWord f.2 (wordAt ws f.1))) ∧
    (judgeProposal false c ws).written = (judgeProposal false c ws).words.filter (fun r => r.2 != wordAt ws r.1) ∧
    (judgeProposal false c ws).code = (if (judgeProposal false c ws).written = [] then 0x0000#16 else 0x0001#16)) ∧
  (∀ (c : Settings) (ws : List Word) (f : Nat × FieldKind) (v : Word),
    f ∈ fields →
    (f.1 ∉ [0x28, 0x35, 0x3C, 0x3D, 0x3E, 0x36, 0x37, 0x38] →
      (f.1, clampWord f.2 (wordAt ws f.1)) ∈ (judgeProposal true c ws).words ∧
      ((f.1, v) ∈ (judgeProposal true c ws).written ↔
        v = clampWord f.2 (wordAt ws f.1) ∧ v ≠ wordAt ws f.1)) ∧
    ((f.1, v) ∈ [(0x28, c.classMask.setWidth 16), (0x35, word c.ceiling), (0x3C, word c.bRunning),
        (0x3D, word c.bSleeping), (0x3E, word c.bOff)] →
      (f.1, v) ∈ (judgeProposal true c ws).words ∧
      ((f.1, v) ∈ (judgeProposal true c ws).written ↔
        clampWord f.2 (wordAt ws f.1) ≠ v ∨ clampWord f.2 (wordAt ws f.1) ≠ wordAt ws f.1)) ∧
    ((f.1, v) ∈ [(0x36, word c.tDerate), (0x37, word c.tResume), (0x38, word c.tStop)] →
      (f.1, v) ∈ (judgeProposal true c ws).words ∧
      ((f.1, v) ∈ (judgeProposal true c ws).written ↔
        word (min 100 (numAt ws 0x36)) ≠ word c.tDerate ∨ word (min 100 (numAt ws 0x37)) ≠ word c.tResume ∨
        word (min 100 (numAt ws 0x38)) ≠ word c.tStop ∨ clampWord f.2 (wordAt ws f.1) ≠ wordAt ws f.1))) ∧
  (∀ (c : Settings) (ws : List Word),
    (judgeProposal true c ws).words.map (·.1) = fields.map (·.1) ∧
    ((judgeProposal true c ws).written.map (·.1)).Nodup ∧
    (judgeProposal true c ws).code =
      (if ∃ f ∈ fields, ∃ r ∈ lockedWords c ++ lockedTriple c, r.1 = f.1 ∧ r.2 ≠ clampWord f.2 (wordAt ws f.1)
       then 0x0002#16
       else if ∃ f ∈ fields, clampWord f.2 (wordAt ws f.1) ≠ wordAt ws f.1 then 0x0001#16 else 0x0000#16)) ∧
  (∀ (c : Settings),
    offences (defaultArea.map (·.2)) = [] ∧
    judgeProposal false c (defaultArea.map (·.2)) =
      ⟨fields.map (fun f => (f.1, settingsDefault f.1)), [], 0x0000#16⟩ ∧
    Settings.ofWords (fields.map (fun f => (f.1, settingsDefault f.1))) = Settings.default)

/-- O47. Each takes the request at the head of its owner's queue. LOCK_SETTINGS sets the lock. TIME_CAPTURE returns its
acceptance time and the four argument words. COUNTERS returns the eleven counters, and in its clearing form sets them to
0; any other form completes BAD_ARG. A kind that is 0 or above 10 completes BAD_KIND. REFRESH completes OK, and once the
reset's work has ended POSTURE, ORIENTATION, BASE, PEN, CHARGE and FAULT are each under way. But for what is named, no
register of the blocks asked changes: REFRESH changes besides only what PC last offered and the measured current with its
reading. The end of the first completion in line, with 15 words of data for one of the eight slots and the memory in
canonical form, writes the slot's state word (DONE 3 or FAILED 4), result code and result data and no other word, leaves
the others in line and every other register as it was (in the line of records to be written others may join), and once the
reset's work has ended REQUEST is under way. A completion is written at the command that ends it (log entry 13);
completions join the end of the line and are taken from its front (log entry 51). (R158, R165, R167, R168, R169, R185,
R187) -/
def Obligations.RequestsCompleteAndAreWritten : Prop :=
  (∀ (r : Request) (rs : List Request) (s : State),
    s.part.sl.current = none → s.part.rq.sl = r :: rs → r.kind = 2#16 →
    Completes .lockSettings s fun t =>
      t = { s with part := { s.part with
        sl := { s.part.sl with lock := true }, rq := t.part.rq, hp := t.part.hp } } ∧
      TakenWith r true rcOk [] { s.part.rq with sl := rs } t) ∧
  (∀ (r : Request) (rs : List Request) (s : State),
    s.part.rq.rq = r :: rs →
    (r.kind = 8#16 → Completes .timeCapture s fun t =>
      t = { s with part := { s.part with rq := t.part.rq, hp := t.part.hp } } ∧
      TakenWith r true rcOk
        [hiWord r.time, loWord r.time, word (r.arg 0), word (r.arg 1), word (r.arg 2), word (r.arg 3)]
        { s.part.rq with rq := rs } t) ∧
    (r.kind = 9#16 → r.arg 0 = 1 → Completes .countersRead s fun t =>
      t = { s with part := { s.part with rq := t.part.rq, hp := t.part.hp } } ∧
      TakenWith r true rcOk ((counters s.part).map word) { s.part.rq with rq := rs } t) ∧
    (r.kind = 9#16 → r.arg 0 = 2 → Completes .countersReadAndClear s fun t =>
      t = { s with part := { s.part with
        rq := t.part.rq
        hp := t.part.hp
        bl := { s.part.bl with framing := 0, check := 0, noise := 0, lost := 0, noReply := 0 }
        pn := { s.part.pn with syncErrors := 0, badFrames := 0, failedWindows := 0 }
        kt := { s.part.kt with droppedPresses := 0, invalidCodes := 0 }
        pc := { s.part.pc with hallDisagreement := 0 } } } ∧
      TakenWith r true rcOk ((counters s.part).map word) { s.part.rq with rq := rs } t) ∧
    (r.kind = 9#16 → r.arg 0 = 0 ∨ 2 < r.arg 0 → Completes .countersBadArg s fun t =>
      t = { s with part := { s.part with rq := t.part.rq, hp := t.part.hp } } ∧
      TakenWith r false rcBadArg [] { s.part.rq with rq := rs } t) ∧
    (r.kind = 0#16 ∨ 10 < r.kind.toNat → Completes .badKind s fun t =>
      t = { s with part := { s.part with rq := t.part.rq, hp := t.part.hp } } ∧
      TakenWith r false rcBadKind [] { s.part.rq with rq := rs } t)) ∧
  (∀ (p : Part),
    counters p =
    [p.bl.framing, p.bl.check, p.bl.noise, p.bl.lost, p.bl.noReply, p.pn.syncErrors, p.pn.badFrames,
     p.pn.failedWindows, p.kt.droppedPresses, p.kt.invalidCodes, p.pc.hallDisagreement]) ∧
  (∀ (r : Request) (rs : List Request) (s : State),
    s.part.rq.nu = r :: rs → r.kind = 10#16 →
    Completes .refresh s fun t =>
      (t = { s with part := { s.part with
        rq := t.part.rq
        hp := t.part.hp
        nu := { s.part.nu with classes := t.part.nu.classes, writing := t.part.nu.writing, deferred := t.part.nu.deferred }
        pc := { s.part.pc with offered := t.part.pc.offered }
        cc := { s.part.cc with measured := t.part.cc.measured, readings := t.part.cc.readings } } } ∧
        t.part.rq.attention = s.part.rq.attention ∧ s.part.nu.writing <+: t.part.nu.writing) ∧
      TakenWith r true rcOk [] { s.part.rq with nu := rs } t ∧
      (s.part.resetWork = none →
        ∀ c ∈ [NoticeClass.posture, .orientation, .base, .pen, .charge, .fault], NoticeUnderWay c t)) ∧
  (∀ (c : Completion) (cs : List Completion) (s : State),
    s.part.rq.completions = c :: cs → c.data.length = 15 → c.slot < 8 → MemoryInv s →
    Completes .slotCompletionEnd s fun t =>
      (t.part.rq = { s.part.rq with completions := cs } ∧
        t.part = { s.part with
          rq := t.part.rq
          hp := t.part.hp
          nu := { s.part.nu with classes := t.part.nu.classes, writing := t.part.nu.writing, deferred := t.part.nu.deferred } } ∧
        s.part.nu.writing <+: t.part.nu.writing) ∧
      t.xm.read (slotBase c.slot) = (if c.done = true then 3#16 else 4#16) ∧
      t.xm.read (slotBase c.slot + 16) = c.code ∧
      (∀ n, n < 15 → t.xm.read (slotBase c.slot + 17 + n) = (c.data[n]?).getD 0#16) ∧
      (∀ a, a ≠ slotBase c.slot → a < slotBase c.slot + 16 ∨ slotBase c.slot + 32 ≤ a → t.xm.read a = s.xm.read a) ∧
      (s.part.resetWork = none → NoticeUnderWay .request t))

/-- O48. The candidate is DETACHED without an attached link; with the angle UNKNOWN or the link in HIBERNATE it is CLOSED
with LIDH active, else TABLET with FOLDH active, else the published posture, with UNKNOWN for DETACHED; in SEAM the Halls
decide likewise and else the seam side, LAPTOP near and TABLET far; in OPEN it is LAPTOP, in FLAT FLAT, in FOLDED TENT
exactly when |by| > |bz| in the valid base, else STAND. The seam side is set at an entry into SEAM from OPEN (near) or
FOLDED (far), and by the Halls while the angle is UNKNOWN, and by nothing else. The disagreement flag is set in OPEN with
LIDH active, and an episode is counted once. Suppression is on exactly when the candidate or the published posture is in
the mask, or when it was on and one of them is UNKNOWN. (R38, R39, R40, R41, R44) -/
def Obligations.PostureDecisions : Prop :=
  (∀ (lk : Link) (lid fold : Bool) (c : Pc),
    (lk ∉ [.active, .stall, .hibernate] → candidateOf lk lid fold c = .detached) ∧
    (lk ∈ [.active, .stall, .hibernate] → c.stored.validity = .unknown ∨ lk = .hibernate →
      candidateOf lk lid fold c =
        (if lid = true then .closed else if fold = true then .tablet
         else if c.published = .detached then .unknown else c.published)) ∧
    (lk = .active ∨ lk = .stall → c.stored.validity ≠ .unknown →
      (c.zone = .seam → candidateOf lk lid fold c =
        (if lid = true then .closed else if fold = true then .tablet
         else if c.seam = .near then .laptop else .tablet)) ∧
      (c.zone = .opened → candidateOf lk lid fold c = .laptop) ∧
      (c.zone = .flat → candidateOf lk lid fold c = .flat) ∧
      (∀ y z, c.zone = .folded → c.stored.base = some (y, z) →
        (z.natAbs < y.natAbs → candidateOf lk lid fold c = .tent) ∧
        (y.natAbs ≤ z.natAbs → candidateOf lk lid fold c = .stand)))) ∧
  (∀ (lid fold : Bool) (left entered : Zone) (side : SeamSide),
    nextSeam true lid fold left entered side =
      (if lid = true then .near else if fold = true then .far else side) ∧
    (entered = .seam → left = .opened → nextSeam false lid fold left entered side = .near) ∧
    (entered = .seam → left = .folded → nextSeam false lid fold left entered side = .far) ∧
    (entered ≠ .seam ∨ left ∈ [.seam, .flat, .none] → nextSeam false lid fold left entered side = side)) ∧
  (∀ (st : Settings) (lk : Link) (lid fold : Bool) (c : Pc),
    ((c.classify st lk lid fold).disagreement = true ↔
      (lk = .active ∨ lk = .stall) ∧ c.stored.validity ≠ .unknown ∧ (c.classify st lk lid fold).zone = .opened ∧
        lid = true) ∧
    (c.classify st lk lid fold).hallDisagreement =
      (if (c.classify st lk lid fold).disagreement = true ∧ c.disagreement = false
       then min (c.hallDisagreement + 1) 65535 else c.hallDisagreement)) ∧
  (∀ (m : BitVec 8) (on : Bool) (c p : Posture),
    (suppressionAfter m on c p = true ↔
      m.getLsbD c.code = true ∨ m.getLsbD p.code = true ∨ (on = true ∧ (c = .unknown ∨ p = .unknown)))) ∧
  ([Posture.unknown, .closed, .laptop, .flat, .tent, .stand, .tablet, .detached].map
      (inPostureSet Settings.default.suppressionMask) = [false, true, false, false, true, true, true, false])

/-- O49. For a class that is IDLE and not publishing, with the reset's work ended, REFRESH publishes POSTURE, ORIENTATION,
BASE, PEN, CHARGE and FAULT with the fields of 13.5 as the blocks hold them, and R187's words where a content is none; the
measured current of CHARGE is 0 unless the monitor runs, and at most 1023. An inactivity expiry that dims publishes ADVICE
DIM, a grace expiry ADVICE SLEEP with cause LID; the end of a KEYS service with transitions waiting publishes the oldest
sixteen with their counts (its coalesce count, the offers counted since the last publication, is the choice of log entry
47); a slot completion publishes its slot in REQUEST; a link's exhaustion publishes LINK_FAULT in FAULT. Each code is that
of its table. An offer to a class that cannot publish joins its shadow: the newest content, with cause, event and slot
sets joined. (R176, R177, R178, R187, R45, R52, R78, R100, R120, R135, R149, R185) -/
def Obligations.RecordsHoldTheirContent : Prop :=
  (∀ (r : Request) (rs : List Request) (s : State),
    s.part.rq.nu = r :: rs → r.kind = 10#16 →
    Completes .refresh s fun t =>
      (PublishesAtOnce .posture s → Publishes .posture 0
        [word s.part.pc.published.code, word s.part.pc.candidate.code, flagWord s.part.pc.suppression,
         (match s.part.pc.stored.angle with | some a => word a | none => 0xFFFF#16),
         word s.part.pc.stored.validity.code, word s.part.pc.stored.reason.code, word s.part.pc.seam.code,
         word s.part.pc.zone.code] s t) ∧
      (PublishesAtOnce .orientation s → Publishes .orientation 0
        [word s.part.ot.rotation.code, word s.part.ot.hold.code, word s.part.ot.posture.code,
         flagWord s.part.ot.tilted] s t) ∧
      (PublishesAtOnce .pen s → Publishes .pen 0
        [flagWord s.part.inp.penh.debounced, word s.part.cc.session.code,
         flagWord s.part.cc.causes.thermal + 2#16 * flagWord s.part.cc.causes.budget
           + 4#16 * flagWord s.part.cc.causes.host,
         flagWord s.part.pn.penId.isSome + 2#16 * flagWord s.part.pn.report.isSome,
         (match s.part.pn.penId with | some i => i.extractLsb' 16 16 | none => 0#16),
         (match s.part.pn.penId with | some i => i.extractLsb' 0 16 | none => 0#16),
         (match s.part.pn.report with | some q => word q.soc | none => 0#16),
         (match s.part.pn.report with | some q => word q.battery | none => 0#16)] s t) ∧
      (PublishesAtOnce .fault s → Publishes .fault 0
        [s.part.nu.faults.setWidth 16,
         (match s.part.nu.lastFault with | some f => word (f.bit + 1) | none => 0#16), 0#16] s t)) ∧
  (∀ (r : Request) (rs : List Request) (s : State),
    s.part.rq.nu = r :: rs → r.kind = 10#16 →
    Completes .refresh s fun t =>
      (PublishesAtOnce .base s → Publishes .base 0
        [word s.part.bl.link.code, 0#16,
         (match s.part.bl.ident with | some i => i.cls.setWidth 16 | none => 0xFFFF#16),
         (match s.part.bl.ident with | some i => i.revision.setWidth 16 | none => 0xFFFF#16),
         (match s.part.bl.ident with | some i => i.accessory.extractLsb' 16 16 | none => 0#16),
         (match s.part.bl.ident with | some i => i.accessory.extractLsb' 0 16 | none => 0#16),
         word s.part.bl.reservation,
         (match s.part.bl.status with | some x => word x.draw | none => 0xFFFF#16),
         (match s.part.bl.status.bind (·.mode) with | some m => word m.code | none => 0#16),
         flagWord ((s.part.bl.status.map (·.quiet)).getD false) + 2#16 * flagWord s.part.bl.quiet
           + 4#16 * flagWord ((s.part.bl.status.map (·.lost)).getD false),
         (match s.part.bl.sample with | some b => b.counter.setWidth 16 | none => 0xFFFF#16),
         word s.part.pw.counts.succeeded, word s.part.pw.counts.errored, word s.part.pw.counts.notRun] s t) ∧
      (PublishesAtOnce .charge s → Publishes .charge 0
        [word s.part.cc.grant, word s.part.cc.setpoint, word t.part.cc.measured, word s.part.cc.budget,
         word s.part.cc.reservation, word s.part.cc.budgetLimit,
         (match s.part.cc.thermalLimit with | some n => word n | none => 0xFFFF#16),
         (match s.part.pn.report with | some q => BitVec.ofInt 16 q.temperature | none => 0x8000#16),
         (match s.part.pn.report with | some q => word q.soc | none => 0xFFFF#16),
         flagWord s.part.cc.causes.thermal + 2#16 * flagWord s.part.cc.causes.budget
           + 4#16 * flagWord s.part.cc.causes.host,
         word s.part.cc.lastFault.code] s t) ∧
      (monitorRuns s.part = false → t.part.cc.measured = 0) ∧ t.part.cc.measured < 1024) ∧
  (∀ (s : State),
    PublishesAtOnce .advice s →
    (timerDue s.part.sa.inactivity s.part.tb = true → s.part.sa.advisor = .active → s.part.sl.inForce.keepAwake = false →
      Completes .inactivityExpiry s fun t => Publishes .advice 0
        [1#16, 0#16, word s.part.sa.posture.code, word s.part.sa.hostState.code, 2#16, 1#16] s t) ∧
    (timerDue s.part.sa.grace s.part.tb = true → s.part.sa.advisor = .closePending →
      Completes .graceExpiry s fun t => Publishes .advice 0
        [3#16, 1#16, word s.part.sa.posture.code, word s.part.sa.hostState.code, 4#16, flagWord s.part.sa.dimmed] s t)) ∧
  (∀ (s : State),
    portFree s.part = true → writeOutcome (s.on (openTrans .write 5)) 5 3#16 = .ok →
    s.part.nu.classes.keys.state = .inService → s.part.kt.queue ≠ [] →
    Completes (.endService 3#16) s fun t => Publishes .keys s.part.nu.classes.keys.coalesce
      ([word (min 16 s.part.kt.queue.length), word (s.part.kt.queue.length - min 16 s.part.kt.queue.length),
        word s.part.kt.dropped, flagWord s.part.kt.resync]
        ++ (s.part.kt.queue.take 16).flatMap (fun x =>
          [word x.code ||| (flagWord x.release <<< 8) ||| (flagWord x.synthesized <<< 9), x.time])) s t) ∧
  (∀ (c : Completion) (cs : List Completion) (s : State),
    s.part.rq.completions = c :: cs → c.slot < 8 → PublishesAtOnce .request s →
    Completes .slotCompletionEnd s fun t => Publishes .request 0 [1#16 <<< c.slot] s t) ∧
  (∀ (s : State),
    timerDue s.part.bl.replyTimer s.part.tb = true → s.part.sl.inForce.replyAttempts ≤ s.part.bl.attempts →
    PublishesAtOnce .fault s →
    Completes .replyTimerExpiry s fun t => Publishes .fault 0
      [(s.part.nu.faults ||| 2#7).setWidth 16, 2#16, 2#16] s t) ∧
  ([Posture.unknown, .closed, .laptop, .flat, .tent, .stand, .tablet, .detached].map Posture.code = [0, 1, 2, 3, 4, 5, 6, 7] ∧
    [HostState.running, .sleeping, .off].map HostState.code = [1, 2, 3] ∧
    [Validity.valid, .held, .unknown].map Validity.code = [1, 2, 3] ∧
    [Reason.none, .noBase, .staleBase, .motion, .projection, .sensorFault, .mounting].map Reason.code =
      [0, 1, 2, 3, 4, 5, 6] ∧
    ([SeamSide.near, .far].map SeamSide.code = [0, 1] ∧
      [Zone.none, .seam, .opened, .flat, .folded].map Zone.code = [0, 1, 2, 3, 4] ∧
      [Rotation.rot0, .rot90, .rot180, .rot270].map Rotation.code = [0, 1, 2, 3] ∧
      [Hold.none, .posture, .lock].map Hold.code = [0, 1, 2]) ∧
    [Link.detached, .powering, .resetting, .activating, .identifying, .refused, .profiling, .active, .stall, .hibernate,
      .waking, .fault].map Link.code = [0, 1, 2, 3, 4, 5, 6, 7, 8, 9, 10, 11] ∧
    [LinkMode.active, .stall, .hibernate].map LinkMode.code = [1, 2, 3] ∧
    [Session.absent, .settling, .waking, .precharge, .charging, .topped, .paused, .cooldown, .lockout, .silent].map
      Session.code = [0, 1, 2, 3, 4, 5, 6, 7, 8, 9] ∧
    [ChargeFault.none, .overcurrent, .penReported].map ChargeFault.code = [0, 1, 2] ∧
    [FaultName.sensorFault, .linkFault, .baseRefused, .penSilent, .penCooldown, .penLockout, .settingsRejected].map
      FaultName.bit = [0, 1, 2, 3, 4, 5, 6] ∧
    allClasses.map classNumber = [0, 1, 2, 3, 4, 5, 6, 7, 8]) ∧
  (∀ (c h : Content) (s : State),
    s.part.resetWork = none → (s.part.nu.classes.get c.cls).state ≠ .idle → c ≠ .keys →
    ((offer (.content c) s.part).nu.classes.get c.cls) =
      { s.part.nu.classes.get c.cls with
        shadow := some (match (s.part.nu.classes.get c.cls).shadow with | some h => c.merge h | none => c)
        coalesce := min ((s.part.nu.classes.get c.cls).coalesce + 1) 255 } ∧
    (∀ n m, c = .advice n → h = .advice m → c.merge h = .advice { n with causes := n.causes ||| m.causes }) ∧
    (∀ n m, c = .base n → h = .base m → c.merge h = .base { n with events := n.events ||| m.events }) ∧
    (∀ n m, c = .fault n → h = .fault m → c.merge h = .fault (n ||| m)) ∧
    (∀ n m, c = .request n → h = .request m → c.merge h = .request (n ||| m)) ∧
    (c.cls ∈ [.posture, .orientation, .pen, .charge] → c.merge h = c))

/-- O50. From every state in which the budget limit is that of the budget and the reservation, the setpoint keeps under
the budget limit, the ceiling, 500 and the thermal limit, is above 0 only in PRECHARGE and CHARGING outside a window and
outside the contact guard, and no window runs under the guard, every command leads to such a state. (R116, R123, R124,
R127, R128, R129) -/
def Obligations.ChargeLimitsHoldInEveryStep : Prop :=
  ∀ (i : Instr) (s : State),
    ChargeInv s.part →
    Completes i s fun t => ChargeInv t.part

/-- O51. From every state in which the blocks hold what they were last told (O57), the exchange outstanding is one the
link state permits, no reservation stands without VBASE_EN and each timer of the link runs only in the state that it
times, in which no MODE is queued or under way in WAKING before the wake break and the activate time have ended, a wake is
pending only in HIBERNATE before the minimum time has passed, and in which D is contained in P, neither holds a code
twice, P holds at most 16, the queue and D at most 32 together, D is empty under suppression and outside ACTIVE and STALL,
no code stands in both D and I, and I is contained in P while suppression is off, every command leads to a state in which
the link and the keys stand so. (R59, R62, R64, R67, R70, R76, R93, R95, R96, R94, R97, R99) -/
def Obligations.LinkAndKeyRulesHoldInEveryStep : Prop :=
  ∀ (i : Instr) (s : State),
    AgreeInv s.part → LinkInv s.part → KeyInv s.part →
    Completes i s fun t => LinkInv t.part ∧ KeyInv t.part

/-- O52. From every state in which a class that is publishing is IDLE with a record of 48 words, the classes that are
publishing stand once each in the line of records, a shadow holds content of its own class and KEYS keeps none, the
service level is the smallest priority value in service or 8, and ATTN is on exactly while an eligible class exists, every
command leads to such a state. (R158, R175, R176, R179, R180, R181, R182, R183, R177, R178) -/
def Obligations.NoticeRulesHoldInEveryStep : Prop :=
  ∀ (i : Instr) (s : State),
    NoticeInv s.part →
    Completes i s fun t => NoticeInv t.part

/-- O53. From every state whose memory lists rising addresses above the control words, none with the word that an unlisted
address reads as, every command leads to such a state. The form is the model's own (log entry 5). (00_scope.md,
Conventions, R156, R160) -/
def Obligations.MemoryStaysCanonical : Prop :=
  ∀ (i : Instr) (s : State),
    MemoryInv s →
    Completes i s fun t => MemoryInv t

/-- O54. From every state in which the requests that the owners hold and the completions being written stand for different
slots that read ACCEPTED, and the words of held operations lie in their own ranges (and the memory is canonical and the
records in publication have their length), every command leads to a state in which they still do. (R156, R158, R162, R163,
R165) -/
def Obligations.AcceptedSlotsHoldOneRequestEach : Prop :=
  ∀ (i : Instr) (s : State),
    MemoryInv s → NoticeInv s.part → WritesInv s.part → SlotInv s →
    Completes i s fun t => SlotInv t ∧ WritesInv t.part

/-- O55. From every state in which F is below 46080, and in which validity, published angle (0..2880), hold timer and
valid base stand together as the rules say, every command leads to such a state. (R18, R25, R26, R28, R29, R30, R31) -/
def Obligations.AngleRulesHoldInEveryStep : Prop :=
  ∀ (i : Instr) (s : State),
    AngleInv s.part →
    Completes i s fun t => AngleInv t.part

/-- O56. From every state in which DETACHED is published without a dwell while the link is not attached, and in which the
hold is that of the lock and the posture told, a held rotation has no candidate and a rotation held by the posture is
ROT0, every command leads to such a state. (R42, R47, R51) -/
def Obligations.PostureAndOrientationRulesHoldInEveryStep : Prop :=
  ∀ (i : Instr) (s : State),
    PostureInv s.part → OrientationInv s.part →
    Completes i s fun t => PostureInv t.part ∧ OrientationInv t.part

/-- O57. From every state in which the part holds its reset values while RESETN is low, the advisor is WATCHING exactly
while the host does not run, without timers then, and in which SA and OT hold the published posture, KT and BL the
suppression of PC, CC the reservation of BL, NU the host state of SA, CC its budget and SP its rate, and in which
PART_STATE is STARTING while the reset's work or the configuration step runs, and otherwise READY with the sensor HEALTHY
and DEGRADED with it FAULTED, and a configuration step, sample or attempt is in flight only in CONFIGURING, HEALTHY or
FAULTED, every command leads to such a state. That a reset in force keeps the levels alone is log entry 30. (R4, R5, R9,
R10, R11, R44, R45, R76, R77, R122, R139, R160) -/
def Obligations.BlocksAgreeAfterEveryStep : Prop :=
  ∀ (i : Instr) (s : State),
    ResetLineInv s.part → AdvisorInv s.part → AgreeInv s.part → PartStateInv s.part →
    Completes i s fun t => ResetLineInv t.part ∧ AdvisorInv t.part ∧ AgreeInv t.part ∧ PartStateInv t.part

/-- O58. State.reset has the memory in canonical form and meets the invariants of the charge controller, the link, the
keys, the notices, the slots, the words being written, the angle, the posture, the orientation, the advisor, the agreement
of the blocks, PART_STATE, and a full reset in force. That the reset state is the moment right after a full reset is the
model's choice (log entry 29). (R160, R19, R34, R47, R63, R91, R109, R137, R174) -/
def Obligations.ResetMeetsTheInvariants : Prop :=
  MemoryInv State.reset ∧ ChargeInv State.reset.part ∧ LinkInv State.reset.part ∧ KeyInv State.reset.part ∧
    NoticeInv State.reset.part ∧ SlotInv State.reset ∧ WritesInv State.reset.part ∧ AngleInv State.reset.part ∧
    PostureInv State.reset.part ∧ OrientationInv State.reset.part ∧ AdvisorInv State.reset.part ∧
    AgreeInv State.reset.part ∧ PartStateInv State.reset.part ∧ ResetLineInv State.reset.part

/-- O59. In every step that a command makes from a state that keeps the charge limits, a setpoint above the one before
means that a window was in progress before the command and none is after it. No settings change, host state, report or
request raises it. (R107, R112, R127, R128) -/
def Obligations.SetpointRisesOnlyAtAWindowsEnd : Prop :=
  ∀ (i : Instr) (s : State),
    ChargeInv s.part → Completes i s fun t =>
      s.part.cc.setpoint < t.part.cc.setpoint → s.part.pn.phase ≠ .idle ∧ t.part.pn.phase = .idle

/-- O60. Whatever the host reads, writes or updates, at whatever address and in whatever state of the port, each of the 32
words of a slot that reads ACCEPTED reads after it what it read before. A SOFT RESET, which rewrites the slots (R161), is
not among them. (R154, R156, R157, R162) -/
def Obligations.AcceptedSlotsAreOutOfTheHostsReach : Prop :=
  ∀ (i : Instr) (n k : Nat) (s : State),
    Instr.isHostAccess i = true → n < 8 → k < 32 → s.xm.read (slotBase n) = slotAccepted →
    Completes i s fun t => t.xm.read (slotBase n + k) = s.xm.read (slotBase n + k)
end

