-- ==== Sys2Proof/Laws/State.lean ====
section
/-! SUPPORT. The fields of a state after each named update, so that no proof need unfold one. -/

namespace Sys2Proof.Machine

/-! ### States -/

@[simp] theorem State.on_part (f : Part → Part) (s : State) : (s.on f).part = f s.part := rfl
@[simp] theorem State.on_xm (f : Part → Part) (s : State) : (s.on f).xm = s.xm := rfl
@[simp] theorem State.on_pending (f : Part → Part) (s : State) : (s.on f).pending = s.pending := rfl
@[simp] theorem State.withPart_part (p : Part) (s : State) : (s.withPart p).part = p := rfl
@[simp] theorem State.withPart_xm (p : Part) (s : State) : (s.withPart p).xm = s.xm := rfl
@[simp] theorem State.withPart_pending (p : Part) (s : State) : (s.withPart p).pending = s.pending := rfl
@[simp] theorem State.withFetchWord_eq (s : State) (n w : Nat) : s.withFetchWord n w = s := rfl

/-! ### The line HMISO (R150, R160) -/

@[simp] theorem hmiso_of_resetLow {p : Part} (h : p.resetLow = true) : hmiso p = .highImpedance := by
  simp [hmiso, h]

theorem hmiso_of_hcsHigh {p : Part} (ht : p.hp.trans = none) (hb : p.hp.blocked = false) : hmiso p = .highImpedance := by
  simp [hmiso, ht, hb]

theorem hmiso_congr {p q : Part} (hr : p.resetLow = q.resetLow) (hp : p.hp = q.hp) : hmiso p = hmiso q := by
  simp [hmiso, hr, hp]

theorem hmiso_of_returning {p : Part} {t : Trans} (hr : p.resetLow = false) (ht : p.hp.trans = some t)
    (hk : t.kind = .read ∨ t.kind = .other) : hmiso p = (p.hp.out.getLast?.map Hmiso.data).getD .high := by
  cases h : p.hp.out.getLast? <;> rcases hk with hk | hk <;> simp [hmiso, hr, ht, hk, h]

theorem hmiso_of_taking {p : Part} {t : Trans} (hr : p.resetLow = false) (ht : p.hp.trans = some t)
    (hk : t.kind = .write ∨ ∃ e, t.kind = .update e) : hmiso p = .high := by
  rcases hk with hk | ⟨e, hk⟩ <;> simp [hmiso, hr, ht, hk]

/-! ### Inputs and classes -/

@[simp] theorem PerInput.get_set_same {α : Type} (v : PerInput α) (i : Input) (x : α) : (v.set i x).get i = x := by
  cases i <;> rfl

@[simp] theorem PerInput.get_set_other {α : Type} (v : PerInput α) {i j : Input} (x : α) (h : j ≠ i) :
    (v.set i x).get j = v.get j := by
  cases i <;> cases j <;> first | rfl | exact absurd rfl h

@[simp] theorem PerInput.set_set {α : Type} (v : PerInput α) (i : Input) (x y : α) : (v.set i x).set i y = v.set i y := by
  cases i <;> rfl

@[simp] theorem PerInput.set_get {α : Type} (v : PerInput α) (i : Input) : v.set i (v.get i) = v := by
  cases i <;> rfl

@[simp] theorem PerClass.get_set_same {α : Type} (v : PerClass α) (c : NoticeClass) (x : α) : (v.set c x).get c = x := by
  cases c <;> rfl

@[simp] theorem PerClass.get_set_other {α : Type} (v : PerClass α) {c d : NoticeClass} (x : α) (h : d ≠ c) :
    (v.set c x).get d = v.get d := by
  cases c <;> cases d <;> first | rfl | exact absurd rfl h

@[simp] theorem PerClass.set_set {α : Type} (v : PerClass α) (c : NoticeClass) (x y : α) :
    (v.set c x).set c y = v.set c y := by
  cases c <;> rfl

@[simp] theorem PerClass.set_get {α : Type} (v : PerClass α) (c : NoticeClass) : v.set c (v.get c) = v := by
  cases c <;> rfl

@[simp] theorem mem_allClasses (c : NoticeClass) : c ∈ allClasses := by cases c <;> decide

@[simp] theorem classOfWord_word (c : NoticeClass) : classOfWord (word (classNumber c)) = some c := by cases c <;> decide

/-! ### Named updates of the part -/

@[simp] theorem setCell_classes (c : NoticeClass) (x : ClassCell) (p : Part) :
    (setCell c x p).nu.classes = p.nu.classes.set c x := rfl

@[simp] theorem setCell_nu (c : NoticeClass) (x : ClassCell) (p : Part) :
    (setCell c x p).nu.serviceLevel = p.nu.serviceLevel ∧ (setCell c x p).nu.attn = p.nu.attn ∧
    (setCell c x p).nu.faults = p.nu.faults ∧ (setCell c x p).nu.lastFault = p.nu.lastFault ∧
    (setCell c x p).nu.wake = p.nu.wake ∧ (setCell c x p).nu.wakeTimer = p.nu.wakeTimer ∧
    (setCell c x p).nu.hostState = p.nu.hostState ∧ (setCell c x p).nu.badService = p.nu.badService ∧
    (setCell c x p).nu.deferred = p.nu.deferred := by simp [setCell]

@[simp] theorem judge_classes (p : Part) : (judge p).nu.classes = p.nu.classes := rfl

@[simp] theorem judge_serviceLevel (p : Part) :
    (judge p).nu.serviceLevel = serviceLevelOf p.sl.inForce p.nu.classes := rfl

@[simp] theorem judge_attn (p : Part) :
    (judge p).nu.attn =
      allClasses.any (eligibleAt p.sl.inForce p.nu.classes (serviceLevelOf p.sl.inForce p.nu.classes)) := rfl

@[simp] theorem judge_nu (p : Part) :
    (judge p).nu.faults = p.nu.faults ∧ (judge p).nu.lastFault = p.nu.lastFault ∧ (judge p).nu.wake = p.nu.wake ∧
    (judge p).nu.wakeTimer = p.nu.wakeTimer ∧ (judge p).nu.hostState = p.nu.hostState ∧
    (judge p).nu.badService = p.nu.badService ∧ (judge p).nu.deferred = p.nu.deferred := by simp [judge, Nu.judge]

@[simp] theorem setInput_inp (i : Input) (x : InputState) (p : Part) : (setInput i x p).inp = p.inp.set i x := rfl

@[simp] theorem setPhase_pn (ph : Phase) (p : Part) : (setPhase ph p).pn = { p.pn with phase := ph } := rfl

@[simp] theorem setSession_cc (st : Session) (t : Option Timer) (p : Part) :
    (setSession st t p).cc = { p.cc with session := st, stateTimer := t } := rfl

@[simp] theorem setHostCause_cc (on : Bool) (p : Part) :
    (setHostCause on p).cc = { p.cc with causes := { p.cc.causes with host := on } } := rfl

@[simp] theorem joinQuery_bl (p : Part) : (joinQuery p).bl = { p.bl with qQuery := true } := rfl

@[simp] theorem joinAttr_bl (op : AttrOp) (p : Part) : (joinAttr op p).bl = { p.bl with qAttr := some op } := rfl

@[simp] theorem tick_tb (p : Part) : (tick p).tb = p.tb + 1#32 := rfl

@[simp] theorem countBadService_nu (p : Part) :
    (countBadService p).nu = { p.nu with badService := bump p.nu.badService 1 } := rfl

@[simp] theorem abandonWindow_pn (p : Part) :
    (abandonWindow p).pn = { p.pn with phase := .idle, outcome := none, granted := 0 } := rfl

@[simp] theorem endExchange_bl (p : Part) :
    (endExchange p).bl =
      { p.bl with tx := orphanFrame p.bl.tx, exch := none, attempts := 0, replyTimer := none } := rfl

@[simp] theorem changeLink_fields (new : Link) (b : Bl) :
    (b.changeLink new).link = new ∧ (b.changeLink new).tx = b.tx.map Tx.orphan ∧
    (b.changeLink new).exch = (if b.sendsFirst then none else b.exch) ∧
    (b.changeLink new).attempts = b.attempts ∧ (b.changeLink new).replyTimer = b.replyTimer ∧
    (b.changeLink new).qMode = b.qMode ∧ (b.changeLink new).qQuery = b.qQuery ∧ (b.changeLink new).qAttr = b.qAttr ∧
    (b.changeLink new).lineOrder = b.lineOrder ∧ (b.changeLink new).target = b.target := by simp [Bl.changeLink]

@[simp] theorem sendsFirst_idle (b : Bl) (h : b.tx = none) : b.sendsFirst = false := by simp [Bl.sendsFirst, h]

@[simp] theorem deliveryNow_fields (lid : Option Reading) (p : Part) :
    (deliveryNow lid p).stored = p.ae.delivery ∧ (deliveryNow lid p).lid = lid ∧ (deliveryNow lid p).time = p.tb :=
  ⟨rfl, rfl, rfl⟩

@[simp] theorem startInactivity_sa (p : Part) :
    (startInactivity p).sa =
      { p.sa with inactivity := startTimer p.tb (p.sl.inForce.inactivityTime * 1000) } := rfl

@[simp] theorem endNewest_length (e : WalkEnd) (os : List (Option WalkEnd)) : (endNewest e os).length = os.length := by
  induction os with
  | nil => rfl
  | cons o os ih => cases os <;> simp_all [endNewest]

@[simp] theorem releaseAll_fields (t : Word) (k : Kt) :
    (k.releaseAll t).held = k.held ∧ (k.releaseAll t).down = [] ∧ (k.releaseAll t).ignored = k.ignored ∧
    (k.releaseAll t).suppression = k.suppression := by simp [Kt.releaseAll]

@[simp] theorem push_fields (k : Kt) (code : Nat) (r y : Bool) (t : Word) :
    (k.push code r y t).held = k.held ∧ (k.push code r y t).down = k.down ∧
    (k.push code r y t).ignored = k.ignored ∧ (k.push code r y t).suppression = k.suppression ∧
    (k.push code r y t).queue = k.queue ++ [⟨code, r, y, t⟩] := by simp [Kt.push]

/-! ### Counters -/

theorem bump_le (n k : Nat) : bump n k ≤ 65535 := Nat.min_le_right _ _

theorem bump_eq (n k : Nat) : bump n k = min (n + k) 65535 := rfl

end Sys2Proof.Machine
end

