-- ==== Sys2Proof/Laws/Frames.lean ====
section
/-! SUPPORT. Frames of the shared operations: the blocks of the part that each leaves as they were. -/

namespace Sys2Proof.Machine

/-- What every step of a fold keeps, the fold keeps. -/
theorem foldl_keeps {α β : Type} (g : Part → α) (f : Part → β → Part) (h : ∀ p x, g (f p x) = g p) (l : List β) (p : Part) :
    g (l.foldl f p) = g p := by
  induction l generalizing p with
  | nil => rfl
  | cons x l ih => rw [List.foldl_cons, ih, h]

@[simp] theorem beginHold_frame (r : Range) (p : Part) :
    (beginHold r p).tb = p.tb ∧ (beginHold r p).resetLow = p.resetLow ∧ (beginHold r p).resetWork = p.resetWork ∧
    (beginHold r p).partState = p.partState ∧ (beginHold r p).sp = p.sp ∧ (beginHold r p).inp = p.inp ∧
    (beginHold r p).ae = p.ae ∧ (beginHold r p).pc = p.pc ∧ (beginHold r p).ot = p.ot ∧ (beginHold r p).bl = p.bl ∧
    (beginHold r p).pw = p.pw ∧ (beginHold r p).kt = p.kt ∧ (beginHold r p).pn = p.pn ∧ (beginHold r p).cc = p.cc ∧
    (beginHold r p).sa = p.sa ∧ (beginHold r p).rq = p.rq ∧ (beginHold r p).sl = p.sl ∧ (beginHold r p).nu = p.nu := by
  simp only [beginHold]
  (repeat' split) <;> simp

@[simp] theorem judge_frame (p : Part) :
    (judge p).tb = p.tb ∧ (judge p).resetLow = p.resetLow ∧ (judge p).resetWork = p.resetWork ∧
    (judge p).partState = p.partState ∧ (judge p).sp = p.sp ∧ (judge p).inp = p.inp ∧ (judge p).ae = p.ae ∧
    (judge p).pc = p.pc ∧ (judge p).ot = p.ot ∧ (judge p).bl = p.bl ∧ (judge p).pw = p.pw ∧ (judge p).kt = p.kt ∧
    (judge p).pn = p.pn ∧ (judge p).cc = p.cc ∧ (judge p).sa = p.sa ∧ (judge p).hp = p.hp ∧ (judge p).rq = p.rq ∧
    (judge p).sl = p.sl := by
  simp [judge]

@[simp] theorem setCell_frame (c : NoticeClass) (x : ClassCell) (p : Part) :
    (setCell c x p).tb = p.tb ∧ (setCell c x p).resetLow = p.resetLow ∧ (setCell c x p).resetWork = p.resetWork ∧
    (setCell c x p).partState = p.partState ∧ (setCell c x p).sp = p.sp ∧ (setCell c x p).inp = p.inp ∧
    (setCell c x p).ae = p.ae ∧ (setCell c x p).pc = p.pc ∧ (setCell c x p).ot = p.ot ∧ (setCell c x p).bl = p.bl ∧
    (setCell c x p).pw = p.pw ∧ (setCell c x p).kt = p.kt ∧ (setCell c x p).pn = p.pn ∧ (setCell c x p).cc = p.cc ∧
    (setCell c x p).sa = p.sa ∧ (setCell c x p).hp = p.hp ∧ (setCell c x p).rq = p.rq ∧ (setCell c x p).sl = p.sl := by
  simp [setCell]

@[simp] theorem beginRecord_frame (p : Part) :
    (beginRecord p).tb = p.tb ∧ (beginRecord p).resetLow = p.resetLow ∧ (beginRecord p).resetWork = p.resetWork ∧
    (beginRecord p).partState = p.partState ∧ (beginRecord p).sp = p.sp ∧ (beginRecord p).inp = p.inp ∧
    (beginRecord p).ae = p.ae ∧ (beginRecord p).pc = p.pc ∧ (beginRecord p).ot = p.ot ∧ (beginRecord p).bl = p.bl ∧
    (beginRecord p).pw = p.pw ∧ (beginRecord p).kt = p.kt ∧ (beginRecord p).pn = p.pn ∧ (beginRecord p).cc = p.cc ∧
    (beginRecord p).sa = p.sa ∧ (beginRecord p).rq = p.rq ∧ (beginRecord p).sl = p.sl ∧
    (beginRecord p).nu = p.nu := by
  simp only [beginRecord]
  split <;> simp

@[simp] theorem lineUp_frame (c : NoticeClass) (p : Part) :
    (lineUp c p).tb = p.tb ∧ (lineUp c p).resetLow = p.resetLow ∧ (lineUp c p).resetWork = p.resetWork ∧
    (lineUp c p).partState = p.partState ∧ (lineUp c p).sp = p.sp ∧ (lineUp c p).inp = p.inp ∧
    (lineUp c p).ae = p.ae ∧ (lineUp c p).pc = p.pc ∧ (lineUp c p).ot = p.ot ∧ (lineUp c p).bl = p.bl ∧
    (lineUp c p).pw = p.pw ∧ (lineUp c p).kt = p.kt ∧ (lineUp c p).pn = p.pn ∧ (lineUp c p).cc = p.cc ∧
    (lineUp c p).sa = p.sa ∧ (lineUp c p).rq = p.rq ∧ (lineUp c p).sl = p.sl := by
  simp only [lineUp]
  split <;> simp

/-- A record that joins the line stands last in it (R158). -/
@[simp] theorem lineUp_nu (c : NoticeClass) (p : Part) :
    (lineUp c p).nu = { p.nu with writing := p.nu.writing ++ [c] } := by
  simp only [lineUp]
  split <;> simp

@[simp] theorem recordWritten_frame (p : Part) :
    (recordWritten p).tb = p.tb ∧ (recordWritten p).resetLow = p.resetLow ∧
    (recordWritten p).resetWork = p.resetWork ∧ (recordWritten p).partState = p.partState ∧
    (recordWritten p).sp = p.sp ∧ (recordWritten p).inp = p.inp ∧ (recordWritten p).ae = p.ae ∧
    (recordWritten p).pc = p.pc ∧ (recordWritten p).ot = p.ot ∧ (recordWritten p).bl = p.bl ∧
    (recordWritten p).pw = p.pw ∧ (recordWritten p).kt = p.kt ∧ (recordWritten p).pn = p.pn ∧
    (recordWritten p).cc = p.cc ∧ (recordWritten p).sa = p.sa ∧ (recordWritten p).rq = p.rq ∧
    (recordWritten p).sl = p.sl := by
  simp [recordWritten]

/-- What the end of a record leaves of NU: all but the line of records (R158). -/
@[simp] theorem recordWritten_nu (p : Part) :
    (recordWritten p).nu = { p.nu with writing := p.nu.writing.tail } := by
  simp [recordWritten]

@[simp] theorem publish_frame (content : Content) (coalesce : Nat) (p : Part) :
    (publish content coalesce p).tb = p.tb ∧ (publish content coalesce p).resetLow = p.resetLow ∧
    (publish content coalesce p).resetWork = p.resetWork ∧ (publish content coalesce p).partState = p.partState ∧
    (publish content coalesce p).sp = p.sp ∧ (publish content coalesce p).inp = p.inp ∧
    (publish content coalesce p).ae = p.ae ∧ (publish content coalesce p).pc = p.pc ∧
    (publish content coalesce p).ot = p.ot ∧ (publish content coalesce p).bl = p.bl ∧
    (publish content coalesce p).pw = p.pw ∧ (publish content coalesce p).pn = p.pn ∧
    (publish content coalesce p).cc = p.cc ∧ (publish content coalesce p).sa = p.sa ∧
    (publish content coalesce p).rq = p.rq ∧ (publish content coalesce p).sl = p.sl := by
  simp only [publish]
  (repeat' split) <;> simp

@[simp] theorem absorb_frame (content : Content) (p : Part) :
    (absorb content p).tb = p.tb ∧ (absorb content p).resetLow = p.resetLow ∧
    (absorb content p).resetWork = p.resetWork ∧ (absorb content p).partState = p.partState ∧
    (absorb content p).sp = p.sp ∧ (absorb content p).inp = p.inp ∧ (absorb content p).ae = p.ae ∧
    (absorb content p).pc = p.pc ∧ (absorb content p).ot = p.ot ∧ (absorb content p).bl = p.bl ∧
    (absorb content p).pw = p.pw ∧ (absorb content p).pn = p.pn ∧ (absorb content p).cc = p.cc ∧
    (absorb content p).sa = p.sa ∧ (absorb content p).rq = p.rq ∧ (absorb content p).sl = p.sl := by
  simp only [absorb]
  (repeat' split) <;> simp

@[simp] theorem takeOffer_frame (o : Offer) (p : Part) :
    (takeOffer o p).tb = p.tb ∧ (takeOffer o p).resetLow = p.resetLow ∧ (takeOffer o p).resetWork = p.resetWork ∧
    (takeOffer o p).partState = p.partState ∧ (takeOffer o p).sp = p.sp ∧ (takeOffer o p).inp = p.inp ∧
    (takeOffer o p).ae = p.ae ∧ (takeOffer o p).pc = p.pc ∧ (takeOffer o p).ot = p.ot ∧ (takeOffer o p).bl = p.bl ∧
    (takeOffer o p).pw = p.pw ∧ (takeOffer o p).pn = p.pn ∧ (takeOffer o p).cc = p.cc ∧ (takeOffer o p).sa = p.sa ∧
    (takeOffer o p).rq = p.rq ∧ (takeOffer o p).sl = p.sl := by
  simp only [takeOffer]
  (repeat' split) <;> simp

@[simp] theorem offer_frame (o : Offer) (p : Part) :
    (offer o p).tb = p.tb ∧ (offer o p).resetLow = p.resetLow ∧ (offer o p).resetWork = p.resetWork ∧
    (offer o p).partState = p.partState ∧ (offer o p).sp = p.sp ∧ (offer o p).inp = p.inp ∧ (offer o p).ae = p.ae ∧
    (offer o p).pc = p.pc ∧ (offer o p).ot = p.ot ∧ (offer o p).bl = p.bl ∧ (offer o p).pw = p.pw ∧
    (offer o p).pn = p.pn ∧ (offer o p).cc = p.cc ∧ (offer o p).sa = p.sa ∧ (offer o p).rq = p.rq ∧
    (offer o p).sl = p.sl := by
  simp only [offer]
  (repeat' split) <;> simp

/-- Only the offer of KEYS, which takes transitions from the key queue, changes KT. -/
@[simp] theorem publish_kt (c : Content) (n : Nat) (p : Part) (h : c ≠ .keys) : (publish c n p).kt = p.kt := by
  cases c <;> simp_all [publish]

@[simp] theorem absorb_kt (c : Content) (p : Part) (h : c ≠ .keys) : (absorb c p).kt = p.kt := by
  simp only [absorb]
  split <;> simp [h]

@[simp] theorem offer_kt (o : Offer) (p : Part) (h : o ≠ .content .keys) : (offer o p).kt = p.kt := by
  cases o with
  | content c =>
    have hc : c ≠ .keys := fun e => h (by rw [e])
    simp only [offer, takeOffer]
    split <;> simp [hc]
  | faults j l =>
    simp only [offer, takeOffer]
    split <;> simp

@[simp] theorem raiseFault_frame (f : FaultName) (p : Part) :
    (raiseFault f p).tb = p.tb ∧ (raiseFault f p).resetLow = p.resetLow ∧ (raiseFault f p).resetWork = p.resetWork ∧
    (raiseFault f p).partState = p.partState ∧ (raiseFault f p).sp = p.sp ∧ (raiseFault f p).inp = p.inp ∧
    (raiseFault f p).ae = p.ae ∧ (raiseFault f p).pc = p.pc ∧ (raiseFault f p).ot = p.ot ∧ (raiseFault f p).bl = p.bl ∧
    (raiseFault f p).pw = p.pw ∧ (raiseFault f p).kt = p.kt ∧ (raiseFault f p).pn = p.pn ∧ (raiseFault f p).cc = p.cc ∧
    (raiseFault f p).sa = p.sa ∧ (raiseFault f p).rq = p.rq ∧ (raiseFault f p).sl = p.sl := by
  simp [raiseFault]

@[simp] theorem clearFault_frame (f : FaultName) (p : Part) :
    (clearFault f p).tb = p.tb ∧ (clearFault f p).resetLow = p.resetLow ∧ (clearFault f p).resetWork = p.resetWork ∧
    (clearFault f p).partState = p.partState ∧ (clearFault f p).sp = p.sp ∧ (clearFault f p).inp = p.inp ∧
    (clearFault f p).ae = p.ae ∧ (clearFault f p).pc = p.pc ∧ (clearFault f p).ot = p.ot ∧ (clearFault f p).bl = p.bl ∧
    (clearFault f p).pw = p.pw ∧ (clearFault f p).kt = p.kt ∧ (clearFault f p).pn = p.pn ∧ (clearFault f p).cc = p.cc ∧
    (clearFault f p).sa = p.sa ∧ (clearFault f p).rq = p.rq ∧ (clearFault f p).sl = p.sl := by
  simp [clearFault]

@[simp] theorem pulseWake_frame (p : Part) :
    (pulseWake p).tb = p.tb ∧ (pulseWake p).resetLow = p.resetLow ∧ (pulseWake p).resetWork = p.resetWork ∧
    (pulseWake p).partState = p.partState ∧ (pulseWake p).sp = p.sp ∧ (pulseWake p).inp = p.inp ∧
    (pulseWake p).ae = p.ae ∧ (pulseWake p).pc = p.pc ∧ (pulseWake p).ot = p.ot ∧ (pulseWake p).bl = p.bl ∧
    (pulseWake p).pw = p.pw ∧ (pulseWake p).kt = p.kt ∧ (pulseWake p).pn = p.pn ∧ (pulseWake p).cc = p.cc ∧
    (pulseWake p).sa = p.sa ∧ (pulseWake p).hp = p.hp ∧ (pulseWake p).rq = p.rq ∧ (pulseWake p).sl = p.sl := by
  simp [pulseWake]

@[simp] theorem nuHostState_frame (h : HostState) (p : Part) :
    (nuHostState h p).tb = p.tb ∧ (nuHostState h p).resetLow = p.resetLow ∧ (nuHostState h p).resetWork = p.resetWork ∧
    (nuHostState h p).partState = p.partState ∧ (nuHostState h p).sp = p.sp ∧ (nuHostState h p).inp = p.inp ∧
    (nuHostState h p).ae = p.ae ∧ (nuHostState h p).pc = p.pc ∧ (nuHostState h p).ot = p.ot ∧
    (nuHostState h p).bl = p.bl ∧ (nuHostState h p).pw = p.pw ∧ (nuHostState h p).kt = p.kt ∧
    (nuHostState h p).pn = p.pn ∧ (nuHostState h p).cc = p.cc ∧ (nuHostState h p).sa = p.sa ∧
    (nuHostState h p).hp = p.hp ∧ (nuHostState h p).rq = p.rq ∧ (nuHostState h p).sl = p.sl := by
  simp [nuHostState]

@[simp] theorem nuSettings_frame (old : Settings) (p : Part) :
    (nuSettings old p).tb = p.tb ∧ (nuSettings old p).resetLow = p.resetLow ∧
    (nuSettings old p).resetWork = p.resetWork ∧ (nuSettings old p).partState = p.partState ∧
    (nuSettings old p).sp = p.sp ∧ (nuSettings old p).inp = p.inp ∧ (nuSettings old p).ae = p.ae ∧
    (nuSettings old p).pc = p.pc ∧ (nuSettings old p).ot = p.ot ∧ (nuSettings old p).bl = p.bl ∧
    (nuSettings old p).pw = p.pw ∧ (nuSettings old p).kt = p.kt ∧ (nuSettings old p).pn = p.pn ∧
    (nuSettings old p).cc = p.cc ∧ (nuSettings old p).sa = p.sa ∧ (nuSettings old p).hp = p.hp ∧
    (nuSettings old p).rq = p.rq ∧ (nuSettings old p).sl = p.sl := by
  simp only [nuSettings]
  (repeat' split) <;> simp

@[simp] theorem serve_frame (c : NoticeClass) (p : Part) :
    (serve c p).tb = p.tb ∧ (serve c p).resetLow = p.resetLow ∧ (serve c p).resetWork = p.resetWork ∧
    (serve c p).partState = p.partState ∧ (serve c p).sp = p.sp ∧ (serve c p).inp = p.inp ∧ (serve c p).ae = p.ae ∧
    (serve c p).pc = p.pc ∧ (serve c p).ot = p.ot ∧ (serve c p).bl = p.bl ∧ (serve c p).pw = p.pw ∧
    (serve c p).kt = p.kt ∧ (serve c p).pn = p.pn ∧ (serve c p).cc = p.cc ∧ (serve c p).sa = p.sa ∧
    (serve c p).hp = p.hp ∧ (serve c p).rq = p.rq ∧ (serve c p).sl = p.sl := by
  simp [serve]

@[simp] theorem countBadService_frame (p : Part) :
    (countBadService p).tb = p.tb ∧ (countBadService p).resetLow = p.resetLow ∧
    (countBadService p).resetWork = p.resetWork ∧ (countBadService p).partState = p.partState ∧
    (countBadService p).sp = p.sp ∧ (countBadService p).inp = p.inp ∧ (countBadService p).ae = p.ae ∧
    (countBadService p).pc = p.pc ∧ (countBadService p).ot = p.ot ∧ (countBadService p).bl = p.bl ∧
    (countBadService p).pw = p.pw ∧ (countBadService p).kt = p.kt ∧ (countBadService p).pn = p.pn ∧
    (countBadService p).cc = p.cc ∧ (countBadService p).sa = p.sa ∧ (countBadService p).hp = p.hp ∧
    (countBadService p).rq = p.rq ∧ (countBadService p).sl = p.sl := by
  simp [countBadService]

@[simp] theorem takeClass_frame (w : Word) (p : Part) :
    (takeClass w p).tb = p.tb ∧ (takeClass w p).resetLow = p.resetLow ∧ (takeClass w p).resetWork = p.resetWork ∧
    (takeClass w p).partState = p.partState ∧ (takeClass w p).sp = p.sp ∧ (takeClass w p).inp = p.inp ∧
    (takeClass w p).ae = p.ae ∧ (takeClass w p).pc = p.pc ∧ (takeClass w p).ot = p.ot ∧ (takeClass w p).bl = p.bl ∧
    (takeClass w p).pw = p.pw ∧ (takeClass w p).kt = p.kt ∧ (takeClass w p).pn = p.pn ∧ (takeClass w p).cc = p.cc ∧
    (takeClass w p).sa = p.sa ∧ (takeClass w p).hp = p.hp ∧ (takeClass w p).rq = p.rq ∧ (takeClass w p).sl = p.sl := by
  simp only [takeClass]
  (repeat' split) <;> simp

@[simp] theorem releaseClass_frame (c : NoticeClass) (p : Part) :
    (releaseClass c p).tb = p.tb ∧ (releaseClass c p).resetLow = p.resetLow ∧
    (releaseClass c p).resetWork = p.resetWork ∧ (releaseClass c p).partState = p.partState ∧
    (releaseClass c p).sp = p.sp ∧ (releaseClass c p).inp = p.inp ∧ (releaseClass c p).ae = p.ae ∧
    (releaseClass c p).pc = p.pc ∧ (releaseClass c p).ot = p.ot ∧ (releaseClass c p).bl = p.bl ∧
    (releaseClass c p).pw = p.pw ∧ (releaseClass c p).pn = p.pn ∧ (releaseClass c p).cc = p.cc ∧
    (releaseClass c p).sa = p.sa ∧ (releaseClass c p).rq = p.rq ∧ (releaseClass c p).sl = p.sl := by
  simp only [releaseClass]
  (repeat' split) <;> simp

@[simp] theorem endServiceOf_frame (w : Word) (p : Part) :
    (endServiceOf w p).tb = p.tb ∧ (endServiceOf w p).resetLow = p.resetLow ∧
    (endServiceOf w p).resetWork = p.resetWork ∧ (endServiceOf w p).partState = p.partState ∧
    (endServiceOf w p).sp = p.sp ∧ (endServiceOf w p).inp = p.inp ∧ (endServiceOf w p).ae = p.ae ∧
    (endServiceOf w p).pc = p.pc ∧ (endServiceOf w p).ot = p.ot ∧ (endServiceOf w p).bl = p.bl ∧
    (endServiceOf w p).pw = p.pw ∧ (endServiceOf w p).pn = p.pn ∧ (endServiceOf w p).cc = p.cc ∧
    (endServiceOf w p).sa = p.sa ∧ (endServiceOf w p).rq = p.rq ∧ (endServiceOf w p).sl = p.sl := by
  simp only [endServiceOf]
  (repeat' split) <;> simp

@[simp] theorem publicationEnded_frame (c : NoticeClass) (p : Part) :
    (publicationEnded c p).tb = p.tb ∧ (publicationEnded c p).resetLow = p.resetLow ∧
    (publicationEnded c p).resetWork = p.resetWork ∧ (publicationEnded c p).partState = p.partState ∧
    (publicationEnded c p).sp = p.sp ∧ (publicationEnded c p).inp = p.inp ∧ (publicationEnded c p).ae = p.ae ∧
    (publicationEnded c p).pc = p.pc ∧ (publicationEnded c p).ot = p.ot ∧ (publicationEnded c p).bl = p.bl ∧
    (publicationEnded c p).pw = p.pw ∧ (publicationEnded c p).kt = p.kt ∧ (publicationEnded c p).pn = p.pn ∧
    (publicationEnded c p).cc = p.cc ∧ (publicationEnded c p).sa = p.sa ∧
    (publicationEnded c p).rq = p.rq ∧ (publicationEnded c p).sl = p.sl := by
  simp only [publicationEnded]
  (repeat' split) <;> simp

@[simp] theorem complete_frame (c : Completion) (p : Part) :
    (complete c p).tb = p.tb ∧ (complete c p).resetLow = p.resetLow ∧ (complete c p).resetWork = p.resetWork ∧
    (complete c p).partState = p.partState ∧ (complete c p).sp = p.sp ∧ (complete c p).inp = p.inp ∧
    (complete c p).ae = p.ae ∧ (complete c p).pc = p.pc ∧ (complete c p).ot = p.ot ∧ (complete c p).bl = p.bl ∧
    (complete c p).pw = p.pw ∧ (complete c p).kt = p.kt ∧ (complete c p).pn = p.pn ∧ (complete c p).cc = p.cc ∧
    (complete c p).sa = p.sa ∧ (complete c p).sl = p.sl ∧ (complete c p).nu = p.nu := by
  simp only [complete]
  (repeat' split) <;> simp

@[simp] theorem completeDone_frame (r : Request) (code : Word) (data : List Word) (p : Part) :
    (completeDone r code data p).tb = p.tb ∧ (completeDone r code data p).resetLow = p.resetLow ∧
    (completeDone r code data p).resetWork = p.resetWork ∧ (completeDone r code data p).partState = p.partState ∧
    (completeDone r code data p).sp = p.sp ∧ (completeDone r code data p).inp = p.inp ∧
    (completeDone r code data p).ae = p.ae ∧ (completeDone r code data p).pc = p.pc ∧
    (completeDone r code data p).ot = p.ot ∧ (completeDone r code data p).bl = p.bl ∧
    (completeDone r code data p).pw = p.pw ∧ (completeDone r code data p).kt = p.kt ∧
    (completeDone r code data p).pn = p.pn ∧ (completeDone r code data p).cc = p.cc ∧
    (completeDone r code data p).sa = p.sa ∧ (completeDone r code data p).sl = p.sl ∧
    (completeDone r code data p).nu = p.nu := by
  simp [completeDone]

@[simp] theorem completeFailed_frame (r : Request) (code : Word) (p : Part) :
    (completeFailed r code p).tb = p.tb ∧ (completeFailed r code p).resetLow = p.resetLow ∧
    (completeFailed r code p).resetWork = p.resetWork ∧ (completeFailed r code p).partState = p.partState ∧
    (completeFailed r code p).sp = p.sp ∧ (completeFailed r code p).inp = p.inp ∧ (completeFailed r code p).ae = p.ae ∧
    (completeFailed r code p).pc = p.pc ∧ (completeFailed r code p).ot = p.ot ∧ (completeFailed r code p).bl = p.bl ∧
    (completeFailed r code p).pw = p.pw ∧ (completeFailed r code p).kt = p.kt ∧ (completeFailed r code p).pn = p.pn ∧
    (completeFailed r code p).cc = p.cc ∧ (completeFailed r code p).sa = p.sa ∧ (completeFailed r code p).sl = p.sl ∧
    (completeFailed r code p).nu = p.nu := by
  simp [completeFailed]

@[simp] theorem clearCounters_frame (p : Part) :
    (clearCounters p).tb = p.tb ∧ (clearCounters p).resetLow = p.resetLow ∧ (clearCounters p).resetWork = p.resetWork ∧
    (clearCounters p).partState = p.partState ∧ (clearCounters p).sp = p.sp ∧ (clearCounters p).inp = p.inp ∧
    (clearCounters p).ae = p.ae ∧ (clearCounters p).ot = p.ot ∧ (clearCounters p).pw = p.pw ∧
    (clearCounters p).cc = p.cc ∧ (clearCounters p).sa = p.sa ∧ (clearCounters p).hp = p.hp ∧
    (clearCounters p).rq = p.rq ∧ (clearCounters p).sl = p.sl ∧ (clearCounters p).nu = p.nu := by
  simp [clearCounters]

@[simp] theorem readCurrent_frame (p : Part) :
    (readCurrent p).tb = p.tb ∧ (readCurrent p).resetLow = p.resetLow ∧ (readCurrent p).resetWork = p.resetWork ∧
    (readCurrent p).partState = p.partState ∧ (readCurrent p).sp = p.sp ∧ (readCurrent p).inp = p.inp ∧
    (readCurrent p).ae = p.ae ∧ (readCurrent p).pc = p.pc ∧ (readCurrent p).ot = p.ot ∧ (readCurrent p).bl = p.bl ∧
    (readCurrent p).pw = p.pw ∧ (readCurrent p).kt = p.kt ∧ (readCurrent p).pn = p.pn ∧ (readCurrent p).sa = p.sa ∧
    (readCurrent p).hp = p.hp ∧ (readCurrent p).rq = p.rq ∧ (readCurrent p).sl = p.sl ∧ (readCurrent p).nu = p.nu := by
  simp only [readCurrent]
  (repeat' split) <;> simp

@[simp] theorem offerPen_frame (p : Part) :
    (offerPen p).tb = p.tb ∧ (offerPen p).resetLow = p.resetLow ∧ (offerPen p).resetWork = p.resetWork ∧
    (offerPen p).partState = p.partState ∧ (offerPen p).sp = p.sp ∧ (offerPen p).inp = p.inp ∧ (offerPen p).ae = p.ae ∧
    (offerPen p).pc = p.pc ∧ (offerPen p).ot = p.ot ∧ (offerPen p).bl = p.bl ∧ (offerPen p).pw = p.pw ∧
    (offerPen p).kt = p.kt ∧ (offerPen p).pn = p.pn ∧ (offerPen p).cc = p.cc ∧ (offerPen p).sa = p.sa ∧
    (offerPen p).rq = p.rq ∧ (offerPen p).sl = p.sl := by
  simp [offerPen]

@[simp] theorem offerCharge_frame (p : Part) :
    (offerCharge p).tb = p.tb ∧ (offerCharge p).resetLow = p.resetLow ∧ (offerCharge p).resetWork = p.resetWork ∧
    (offerCharge p).partState = p.partState ∧ (offerCharge p).sp = p.sp ∧ (offerCharge p).inp = p.inp ∧
    (offerCharge p).ae = p.ae ∧ (offerCharge p).pc = p.pc ∧ (offerCharge p).ot = p.ot ∧ (offerCharge p).bl = p.bl ∧
    (offerCharge p).pw = p.pw ∧ (offerCharge p).kt = p.kt ∧ (offerCharge p).pn = p.pn ∧ (offerCharge p).sa = p.sa ∧
    (offerCharge p).rq = p.rq ∧ (offerCharge p).sl = p.sl := by
  simp [offerCharge]

@[simp] theorem moment_frame (f : Part → Part) (p : Part) :
    (moment f p).tb = (f p).tb ∧ (moment f p).resetLow = (f p).resetLow ∧ (moment f p).resetWork = (f p).resetWork ∧
    (moment f p).partState = (f p).partState ∧ (moment f p).sp = (f p).sp ∧ (moment f p).inp = (f p).inp ∧
    (moment f p).ae = (f p).ae ∧ (moment f p).pc = (f p).pc ∧ (moment f p).ot = (f p).ot ∧ (moment f p).bl = (f p).bl ∧
    (moment f p).pw = (f p).pw ∧ (moment f p).kt = (f p).kt ∧ (moment f p).pn = (f p).pn ∧ (moment f p).sa = (f p).sa ∧
    (moment f p).rq = (f p).rq ∧ (moment f p).sl = (f p).sl := by
  simp only [moment]
  (repeat' split) <;> simp

@[simp] theorem setSession_frame (st : Session) (timer : Option Timer) (p : Part) :
    (setSession st timer p).tb = p.tb ∧ (setSession st timer p).resetLow = p.resetLow ∧
    (setSession st timer p).resetWork = p.resetWork ∧ (setSession st timer p).partState = p.partState ∧
    (setSession st timer p).sp = p.sp ∧ (setSession st timer p).inp = p.inp ∧ (setSession st timer p).ae = p.ae ∧
    (setSession st timer p).pc = p.pc ∧ (setSession st timer p).ot = p.ot ∧ (setSession st timer p).bl = p.bl ∧
    (setSession st timer p).pw = p.pw ∧ (setSession st timer p).kt = p.kt ∧ (setSession st timer p).pn = p.pn ∧
    (setSession st timer p).sa = p.sa ∧ (setSession st timer p).hp = p.hp ∧ (setSession st timer p).rq = p.rq ∧
    (setSession st timer p).sl = p.sl ∧ (setSession st timer p).nu = p.nu := by
  simp [setSession]

@[simp] theorem startWindow_frame (p : Part) :
    (startWindow p).tb = p.tb ∧ (startWindow p).resetLow = p.resetLow ∧ (startWindow p).resetWork = p.resetWork ∧
    (startWindow p).partState = p.partState ∧ (startWindow p).sp = p.sp ∧ (startWindow p).inp = p.inp ∧
    (startWindow p).ae = p.ae ∧ (startWindow p).pc = p.pc ∧ (startWindow p).ot = p.ot ∧ (startWindow p).bl = p.bl ∧
    (startWindow p).pw = p.pw ∧ (startWindow p).kt = p.kt ∧ (startWindow p).sa = p.sa ∧ (startWindow p).hp = p.hp ∧
    (startWindow p).rq = p.rq ∧ (startWindow p).sl = p.sl ∧ (startWindow p).nu = p.nu := by
  simp [startWindow]

@[simp] theorem startOrDue_frame (p : Part) :
    (startOrDue p).tb = p.tb ∧ (startOrDue p).resetLow = p.resetLow ∧ (startOrDue p).resetWork = p.resetWork ∧
    (startOrDue p).partState = p.partState ∧ (startOrDue p).sp = p.sp ∧ (startOrDue p).inp = p.inp ∧
    (startOrDue p).ae = p.ae ∧ (startOrDue p).pc = p.pc ∧ (startOrDue p).ot = p.ot ∧ (startOrDue p).bl = p.bl ∧
    (startOrDue p).pw = p.pw ∧ (startOrDue p).kt = p.kt ∧ (startOrDue p).sa = p.sa ∧ (startOrDue p).hp = p.hp ∧
    (startOrDue p).rq = p.rq ∧ (startOrDue p).sl = p.sl ∧ (startOrDue p).nu = p.nu := by
  simp only [startOrDue]
  (repeat' split) <;> simp

@[simp] theorem enterWakingSession_frame (p : Part) :
    (enterWakingSession p).tb = p.tb ∧ (enterWakingSession p).resetLow = p.resetLow ∧
    (enterWakingSession p).resetWork = p.resetWork ∧ (enterWakingSession p).partState = p.partState ∧
    (enterWakingSession p).sp = p.sp ∧ (enterWakingSession p).inp = p.inp ∧ (enterWakingSession p).ae = p.ae ∧
    (enterWakingSession p).pc = p.pc ∧ (enterWakingSession p).ot = p.ot ∧ (enterWakingSession p).bl = p.bl ∧
    (enterWakingSession p).pw = p.pw ∧ (enterWakingSession p).kt = p.kt ∧ (enterWakingSession p).sa = p.sa ∧
    (enterWakingSession p).hp = p.hp ∧ (enterWakingSession p).rq = p.rq ∧ (enterWakingSession p).sl = p.sl ∧
    (enterWakingSession p).nu = p.nu := by
  simp [enterWakingSession]

@[simp] theorem enterPaused_frame (p : Part) :
    (enterPaused p).tb = p.tb ∧ (enterPaused p).resetLow = p.resetLow ∧ (enterPaused p).resetWork = p.resetWork ∧
    (enterPaused p).partState = p.partState ∧ (enterPaused p).sp = p.sp ∧ (enterPaused p).inp = p.inp ∧
    (enterPaused p).ae = p.ae ∧ (enterPaused p).pc = p.pc ∧ (enterPaused p).ot = p.ot ∧ (enterPaused p).bl = p.bl ∧
    (enterPaused p).pw = p.pw ∧ (enterPaused p).kt = p.kt ∧ (enterPaused p).pn = p.pn ∧ (enterPaused p).sa = p.sa ∧
    (enterPaused p).hp = p.hp ∧ (enterPaused p).rq = p.rq ∧ (enterPaused p).sl = p.sl ∧ (enterPaused p).nu = p.nu := by
  simp [enterPaused]

@[simp] theorem reactToCauses_frame (p : Part) :
    (reactToCauses p).tb = p.tb ∧ (reactToCauses p).resetLow = p.resetLow ∧ (reactToCauses p).resetWork = p.resetWork ∧
    (reactToCauses p).partState = p.partState ∧ (reactToCauses p).sp = p.sp ∧ (reactToCauses p).inp = p.inp ∧
    (reactToCauses p).ae = p.ae ∧ (reactToCauses p).pc = p.pc ∧ (reactToCauses p).ot = p.ot ∧
    (reactToCauses p).bl = p.bl ∧ (reactToCauses p).pw = p.pw ∧ (reactToCauses p).kt = p.kt ∧
    (reactToCauses p).pn = p.pn ∧ (reactToCauses p).sa = p.sa ∧ (reactToCauses p).hp = p.hp ∧
    (reactToCauses p).rq = p.rq ∧ (reactToCauses p).sl = p.sl ∧ (reactToCauses p).nu = p.nu := by
  simp only [reactToCauses]
  (repeat' split) <;> simp

@[simp] theorem reduce_frame (p : Part) :
    (reduce p).tb = p.tb ∧ (reduce p).resetLow = p.resetLow ∧ (reduce p).resetWork = p.resetWork ∧
    (reduce p).partState = p.partState ∧ (reduce p).sp = p.sp ∧ (reduce p).inp = p.inp ∧ (reduce p).ae = p.ae ∧
    (reduce p).pc = p.pc ∧ (reduce p).ot = p.ot ∧ (reduce p).bl = p.bl ∧ (reduce p).pw = p.pw ∧ (reduce p).kt = p.kt ∧
    (reduce p).pn = p.pn ∧ (reduce p).sa = p.sa ∧ (reduce p).hp = p.hp ∧ (reduce p).rq = p.rq ∧ (reduce p).sl = p.sl ∧
    (reduce p).nu = p.nu := by
  simp only [reduce]
  (repeat' split) <;> simp

@[simp] theorem relimit_frame (b : Bool) (p : Part) :
    (relimit b p).tb = p.tb ∧ (relimit b p).resetLow = p.resetLow ∧ (relimit b p).resetWork = p.resetWork ∧
    (relimit b p).partState = p.partState ∧ (relimit b p).sp = p.sp ∧ (relimit b p).inp = p.inp ∧ (relimit b p).ae = p.ae ∧
    (relimit b p).pc = p.pc ∧ (relimit b p).ot = p.ot ∧ (relimit b p).bl = p.bl ∧ (relimit b p).pw = p.pw ∧
    (relimit b p).kt = p.kt ∧ (relimit b p).pn = p.pn ∧ (relimit b p).sa = p.sa ∧ (relimit b p).hp = p.hp ∧
    (relimit b p).rq = p.rq ∧ (relimit b p).sl = p.sl ∧ (relimit b p).nu = p.nu := by
  simp only [relimit]
  (repeat' split) <;> simp

@[simp] theorem chargeReservation_frame (r : Nat) (p : Part) :
    (chargeReservation r p).tb = p.tb ∧ (chargeReservation r p).resetLow = p.resetLow ∧
    (chargeReservation r p).resetWork = p.resetWork ∧ (chargeReservation r p).partState = p.partState ∧
    (chargeReservation r p).sp = p.sp ∧ (chargeReservation r p).inp = p.inp ∧ (chargeReservation r p).ae = p.ae ∧
    (chargeReservation r p).pc = p.pc ∧ (chargeReservation r p).ot = p.ot ∧ (chargeReservation r p).bl = p.bl ∧
    (chargeReservation r p).pw = p.pw ∧ (chargeReservation r p).kt = p.kt ∧ (chargeReservation r p).pn = p.pn ∧
    (chargeReservation r p).sa = p.sa ∧ (chargeReservation r p).rq = p.rq ∧ (chargeReservation r p).sl = p.sl := by
  simp [chargeReservation]

@[simp] theorem chargeHostState_frame (h : HostState) (p : Part) :
    (chargeHostState h p).tb = p.tb ∧ (chargeHostState h p).resetLow = p.resetLow ∧
    (chargeHostState h p).resetWork = p.resetWork ∧ (chargeHostState h p).partState = p.partState ∧
    (chargeHostState h p).sp = p.sp ∧ (chargeHostState h p).inp = p.inp ∧ (chargeHostState h p).ae = p.ae ∧
    (chargeHostState h p).pc = p.pc ∧ (chargeHostState h p).ot = p.ot ∧ (chargeHostState h p).bl = p.bl ∧
    (chargeHostState h p).pw = p.pw ∧ (chargeHostState h p).kt = p.kt ∧ (chargeHostState h p).pn = p.pn ∧
    (chargeHostState h p).sa = p.sa ∧ (chargeHostState h p).rq = p.rq ∧ (chargeHostState h p).sl = p.sl := by
  simp only [chargeHostState]
  (repeat' split) <;> simp

@[simp] theorem enterPrecharge_frame (p : Part) :
    (enterPrecharge p).tb = p.tb ∧ (enterPrecharge p).resetLow = p.resetLow ∧
    (enterPrecharge p).resetWork = p.resetWork ∧ (enterPrecharge p).partState = p.partState ∧
    (enterPrecharge p).sp = p.sp ∧ (enterPrecharge p).inp = p.inp ∧ (enterPrecharge p).ae = p.ae ∧
    (enterPrecharge p).pc = p.pc ∧ (enterPrecharge p).ot = p.ot ∧ (enterPrecharge p).bl = p.bl ∧
    (enterPrecharge p).pw = p.pw ∧ (enterPrecharge p).kt = p.kt ∧ (enterPrecharge p).pn = p.pn ∧
    (enterPrecharge p).sa = p.sa ∧ (enterPrecharge p).hp = p.hp ∧ (enterPrecharge p).rq = p.rq ∧
    (enterPrecharge p).sl = p.sl ∧ (enterPrecharge p).nu = p.nu := by
  simp [enterPrecharge]

@[simp] theorem enterSilent_frame (p : Part) :
    (enterSilent p).tb = p.tb ∧ (enterSilent p).resetLow = p.resetLow ∧ (enterSilent p).resetWork = p.resetWork ∧
    (enterSilent p).partState = p.partState ∧ (enterSilent p).sp = p.sp ∧ (enterSilent p).inp = p.inp ∧
    (enterSilent p).ae = p.ae ∧ (enterSilent p).pc = p.pc ∧ (enterSilent p).ot = p.ot ∧ (enterSilent p).bl = p.bl ∧
    (enterSilent p).pw = p.pw ∧ (enterSilent p).kt = p.kt ∧ (enterSilent p).pn = p.pn ∧ (enterSilent p).sa = p.sa ∧
    (enterSilent p).rq = p.rq ∧ (enterSilent p).sl = p.sl := by
  simp [enterSilent]

@[simp] theorem abandonWindow_frame (p : Part) :
    (abandonWindow p).tb = p.tb ∧ (abandonWindow p).resetLow = p.resetLow ∧ (abandonWindow p).resetWork = p.resetWork ∧
    (abandonWindow p).partState = p.partState ∧ (abandonWindow p).sp = p.sp ∧ (abandonWindow p).inp = p.inp ∧
    (abandonWindow p).ae = p.ae ∧ (abandonWindow p).pc = p.pc ∧ (abandonWindow p).ot = p.ot ∧
    (abandonWindow p).bl = p.bl ∧ (abandonWindow p).pw = p.pw ∧ (abandonWindow p).kt = p.kt ∧
    (abandonWindow p).cc = p.cc ∧ (abandonWindow p).sa = p.sa ∧ (abandonWindow p).hp = p.hp ∧
    (abandonWindow p).rq = p.rq ∧ (abandonWindow p).sl = p.sl ∧ (abandonWindow p).nu = p.nu := by
  simp [abandonWindow]

@[simp] theorem wakingFailed_frame (p : Part) :
    (wakingFailed p).tb = p.tb ∧ (wakingFailed p).resetLow = p.resetLow ∧ (wakingFailed p).resetWork = p.resetWork ∧
    (wakingFailed p).partState = p.partState ∧ (wakingFailed p).sp = p.sp ∧ (wakingFailed p).inp = p.inp ∧
    (wakingFailed p).ae = p.ae ∧ (wakingFailed p).pc = p.pc ∧ (wakingFailed p).ot = p.ot ∧ (wakingFailed p).bl = p.bl ∧
    (wakingFailed p).pw = p.pw ∧ (wakingFailed p).kt = p.kt ∧ (wakingFailed p).pn = p.pn ∧ (wakingFailed p).sa = p.sa ∧
    (wakingFailed p).rq = p.rq ∧ (wakingFailed p).sl = p.sl := by
  simp only [wakingFailed]
  (repeat' split) <;> simp

@[simp] theorem countedFailure_frame (p : Part) :
    (countedFailure p).tb = p.tb ∧ (countedFailure p).resetLow = p.resetLow ∧
    (countedFailure p).resetWork = p.resetWork ∧ (countedFailure p).partState = p.partState ∧
    (countedFailure p).sp = p.sp ∧ (countedFailure p).inp = p.inp ∧ (countedFailure p).ae = p.ae ∧
    (countedFailure p).pc = p.pc ∧ (countedFailure p).ot = p.ot ∧ (countedFailure p).bl = p.bl ∧
    (countedFailure p).pw = p.pw ∧ (countedFailure p).kt = p.kt ∧ (countedFailure p).sa = p.sa ∧
    (countedFailure p).rq = p.rq ∧ (countedFailure p).sl = p.sl := by
  simp only [countedFailure]
  (repeat' split) <;> simp

@[simp] theorem restoreSetpoint_frame (p : Part) :
    (restoreSetpoint p).tb = p.tb ∧ (restoreSetpoint p).resetLow = p.resetLow ∧
    (restoreSetpoint p).resetWork = p.resetWork ∧ (restoreSetpoint p).partState = p.partState ∧
    (restoreSetpoint p).sp = p.sp ∧ (restoreSetpoint p).inp = p.inp ∧ (restoreSetpoint p).ae = p.ae ∧
    (restoreSetpoint p).pc = p.pc ∧ (restoreSetpoint p).ot = p.ot ∧ (restoreSetpoint p).bl = p.bl ∧
    (restoreSetpoint p).pw = p.pw ∧ (restoreSetpoint p).kt = p.kt ∧ (restoreSetpoint p).pn = p.pn ∧
    (restoreSetpoint p).sa = p.sa ∧ (restoreSetpoint p).hp = p.hp ∧ (restoreSetpoint p).rq = p.rq ∧
    (restoreSetpoint p).sl = p.sl ∧ (restoreSetpoint p).nu = p.nu := by
  simp only [restoreSetpoint]
  (repeat' split) <;> simp

@[simp] theorem failWindow_frame (k : WindowFailure) (p : Part) :
    (failWindow k p).tb = p.tb ∧ (failWindow k p).resetLow = p.resetLow ∧ (failWindow k p).resetWork = p.resetWork ∧
    (failWindow k p).partState = p.partState ∧ (failWindow k p).sp = p.sp ∧ (failWindow k p).inp = p.inp ∧
    (failWindow k p).ae = p.ae ∧ (failWindow k p).pc = p.pc ∧ (failWindow k p).ot = p.ot ∧ (failWindow k p).bl = p.bl ∧
    (failWindow k p).pw = p.pw ∧ (failWindow k p).kt = p.kt ∧ (failWindow k p).sa = p.sa ∧ (failWindow k p).rq = p.rq ∧
    (failWindow k p).sl = p.sl := by
  simp only [failWindow]
  (repeat' split) <;> simp

@[simp] theorem applyPenId_frame (i : BitVec 32) (p : Part) :
    (applyPenId i p).tb = p.tb ∧ (applyPenId i p).resetLow = p.resetLow ∧ (applyPenId i p).resetWork = p.resetWork ∧
    (applyPenId i p).partState = p.partState ∧ (applyPenId i p).sp = p.sp ∧ (applyPenId i p).inp = p.inp ∧
    (applyPenId i p).ae = p.ae ∧ (applyPenId i p).pc = p.pc ∧ (applyPenId i p).ot = p.ot ∧ (applyPenId i p).bl = p.bl ∧
    (applyPenId i p).pw = p.pw ∧ (applyPenId i p).kt = p.kt ∧ (applyPenId i p).sa = p.sa ∧ (applyPenId i p).hp = p.hp ∧
    (applyPenId i p).rq = p.rq ∧ (applyPenId i p).sl = p.sl ∧ (applyPenId i p).nu = p.nu := by
  simp only [applyPenId]
  (repeat' split) <;> simp

@[simp] theorem computeGrant_frame (r : PenReport) (p : Part) :
    (computeGrant r p).tb = p.tb ∧ (computeGrant r p).resetLow = p.resetLow ∧
    (computeGrant r p).resetWork = p.resetWork ∧ (computeGrant r p).partState = p.partState ∧
    (computeGrant r p).sp = p.sp ∧ (computeGrant r p).inp = p.inp ∧ (computeGrant r p).ae = p.ae ∧
    (computeGrant r p).pc = p.pc ∧ (computeGrant r p).ot = p.ot ∧ (computeGrant r p).bl = p.bl ∧
    (computeGrant r p).pw = p.pw ∧ (computeGrant r p).kt = p.kt ∧ (computeGrant r p).pn = p.pn ∧
    (computeGrant r p).sa = p.sa ∧ (computeGrant r p).hp = p.hp ∧ (computeGrant r p).rq = p.rq ∧
    (computeGrant r p).sl = p.sl ∧ (computeGrant r p).nu = p.nu := by
  simp [computeGrant]

@[simp] theorem sendGrant_frame (r : PenReport) (p : Part) :
    (sendGrant r p).tb = p.tb ∧ (sendGrant r p).resetLow = p.resetLow ∧ (sendGrant r p).resetWork = p.resetWork ∧
    (sendGrant r p).partState = p.partState ∧ (sendGrant r p).sp = p.sp ∧ (sendGrant r p).inp = p.inp ∧
    (sendGrant r p).ae = p.ae ∧ (sendGrant r p).pc = p.pc ∧ (sendGrant r p).ot = p.ot ∧ (sendGrant r p).bl = p.bl ∧
    (sendGrant r p).pw = p.pw ∧ (sendGrant r p).kt = p.kt ∧ (sendGrant r p).cc = p.cc ∧ (sendGrant r p).sa = p.sa ∧
    (sendGrant r p).hp = p.hp ∧ (sendGrant r p).rq = p.rq ∧ (sendGrant r p).sl = p.sl ∧ (sendGrant r p).nu = p.nu := by
  simp [sendGrant]

@[simp] theorem acceptReport_frame (i : BitVec 32) (r : PenReport) (p : Part) :
    (acceptReport i r p).tb = p.tb ∧ (acceptReport i r p).resetLow = p.resetLow ∧
    (acceptReport i r p).resetWork = p.resetWork ∧ (acceptReport i r p).partState = p.partState ∧
    (acceptReport i r p).sp = p.sp ∧ (acceptReport i r p).inp = p.inp ∧ (acceptReport i r p).ae = p.ae ∧
    (acceptReport i r p).pc = p.pc ∧ (acceptReport i r p).ot = p.ot ∧ (acceptReport i r p).bl = p.bl ∧
    (acceptReport i r p).pw = p.pw ∧ (acceptReport i r p).kt = p.kt ∧ (acceptReport i r p).sa = p.sa ∧
    (acceptReport i r p).hp = p.hp ∧ (acceptReport i r p).rq = p.rq ∧ (acceptReport i r p).sl = p.sl ∧
    (acceptReport i r p).nu = p.nu := by
  simp [acceptReport]

@[simp] theorem judgeFault_frame (p : Part) :
    (judgeFault p).tb = p.tb ∧ (judgeFault p).resetLow = p.resetLow ∧ (judgeFault p).resetWork = p.resetWork ∧
    (judgeFault p).partState = p.partState ∧ (judgeFault p).sp = p.sp ∧ (judgeFault p).inp = p.inp ∧
    (judgeFault p).ae = p.ae ∧ (judgeFault p).pc = p.pc ∧ (judgeFault p).ot = p.ot ∧ (judgeFault p).bl = p.bl ∧
    (judgeFault p).pw = p.pw ∧ (judgeFault p).kt = p.kt ∧ (judgeFault p).pn = p.pn ∧ (judgeFault p).sa = p.sa ∧
    (judgeFault p).rq = p.rq ∧ (judgeFault p).sl = p.sl := by
  simp only [judgeFault]
  (repeat' split) <;> simp

@[simp] theorem takeChargeFault_frame (k : ChargeFault) (p : Part) :
    (takeChargeFault k p).tb = p.tb ∧ (takeChargeFault k p).resetLow = p.resetLow ∧
    (takeChargeFault k p).resetWork = p.resetWork ∧ (takeChargeFault k p).partState = p.partState ∧
    (takeChargeFault k p).sp = p.sp ∧ (takeChargeFault k p).inp = p.inp ∧ (takeChargeFault k p).ae = p.ae ∧
    (takeChargeFault k p).pc = p.pc ∧ (takeChargeFault k p).ot = p.ot ∧ (takeChargeFault k p).bl = p.bl ∧
    (takeChargeFault k p).pw = p.pw ∧ (takeChargeFault k p).kt = p.kt ∧ (takeChargeFault k p).sa = p.sa ∧
    (takeChargeFault k p).rq = p.rq ∧ (takeChargeFault k p).sl = p.sl := by
  simp [takeChargeFault]

@[simp] theorem endWindow_frame (st : Session) (p : Part) :
    (endWindow st p).tb = p.tb ∧ (endWindow st p).resetLow = p.resetLow ∧ (endWindow st p).resetWork = p.resetWork ∧
    (endWindow st p).partState = p.partState ∧ (endWindow st p).sp = p.sp ∧ (endWindow st p).inp = p.inp ∧
    (endWindow st p).ae = p.ae ∧ (endWindow st p).pc = p.pc ∧ (endWindow st p).ot = p.ot ∧ (endWindow st p).bl = p.bl ∧
    (endWindow st p).pw = p.pw ∧ (endWindow st p).kt = p.kt ∧ (endWindow st p).sa = p.sa ∧ (endWindow st p).hp = p.hp ∧
    (endWindow st p).rq = p.rq ∧ (endWindow st p).sl = p.sl ∧ (endWindow st p).nu = p.nu := by
  simp only [endWindow]
  (repeat' split) <;> simp

@[simp] theorem guardOn_frame (p : Part) :
    (guardOn p).tb = p.tb ∧ (guardOn p).resetLow = p.resetLow ∧ (guardOn p).resetWork = p.resetWork ∧
    (guardOn p).partState = p.partState ∧ (guardOn p).sp = p.sp ∧ (guardOn p).inp = p.inp ∧ (guardOn p).ae = p.ae ∧
    (guardOn p).pc = p.pc ∧ (guardOn p).ot = p.ot ∧ (guardOn p).bl = p.bl ∧ (guardOn p).pw = p.pw ∧
    (guardOn p).kt = p.kt ∧ (guardOn p).sa = p.sa ∧ (guardOn p).hp = p.hp ∧ (guardOn p).rq = p.rq ∧
    (guardOn p).sl = p.sl ∧ (guardOn p).nu = p.nu := by
  simp only [guardOn]
  (repeat' split) <;> simp

@[simp] theorem guardWindow_frame (since : Time) (p : Part) :
    (guardWindow since p).tb = p.tb ∧ (guardWindow since p).resetLow = p.resetLow ∧
    (guardWindow since p).resetWork = p.resetWork ∧ (guardWindow since p).partState = p.partState ∧
    (guardWindow since p).sp = p.sp ∧ (guardWindow since p).inp = p.inp ∧ (guardWindow since p).ae = p.ae ∧
    (guardWindow since p).pc = p.pc ∧ (guardWindow since p).ot = p.ot ∧ (guardWindow since p).bl = p.bl ∧
    (guardWindow since p).pw = p.pw ∧ (guardWindow since p).kt = p.kt ∧ (guardWindow since p).sa = p.sa ∧
    (guardWindow since p).hp = p.hp ∧ (guardWindow since p).rq = p.rq ∧ (guardWindow since p).sl = p.sl ∧
    (guardWindow since p).nu = p.nu := by
  simp [guardWindow]

@[simp] theorem guardEnd_frame (since : Time) (p : Part) :
    (guardEnd since p).tb = p.tb ∧ (guardEnd since p).resetLow = p.resetLow ∧
    (guardEnd since p).resetWork = p.resetWork ∧ (guardEnd since p).partState = p.partState ∧
    (guardEnd since p).sp = p.sp ∧ (guardEnd since p).inp = p.inp ∧ (guardEnd since p).ae = p.ae ∧
    (guardEnd since p).pc = p.pc ∧ (guardEnd since p).ot = p.ot ∧ (guardEnd since p).bl = p.bl ∧
    (guardEnd since p).pw = p.pw ∧ (guardEnd since p).kt = p.kt ∧ (guardEnd since p).sa = p.sa ∧
    (guardEnd since p).hp = p.hp ∧ (guardEnd since p).rq = p.rq ∧ (guardEnd since p).sl = p.sl ∧
    (guardEnd since p).nu = p.nu := by
  simp only [guardEnd]
  (repeat' split) <;> simp

@[simp] theorem rawPenh_frame (present : Bool) (p : Part) :
    (rawPenh present p).tb = p.tb ∧ (rawPenh present p).resetLow = p.resetLow ∧
    (rawPenh present p).resetWork = p.resetWork ∧ (rawPenh present p).partState = p.partState ∧
    (rawPenh present p).sp = p.sp ∧ (rawPenh present p).inp = p.inp ∧ (rawPenh present p).ae = p.ae ∧
    (rawPenh present p).pc = p.pc ∧ (rawPenh present p).ot = p.ot ∧ (rawPenh present p).bl = p.bl ∧
    (rawPenh present p).pw = p.pw ∧ (rawPenh present p).kt = p.kt ∧ (rawPenh present p).sa = p.sa ∧
    (rawPenh present p).rq = p.rq ∧ (rawPenh present p).sl = p.sl := by
  simp only [rawPenh]
  (repeat' split) <;> simp

@[simp] theorem penDocked_frame (p : Part) :
    (penDocked p).tb = p.tb ∧ (penDocked p).resetLow = p.resetLow ∧ (penDocked p).resetWork = p.resetWork ∧
    (penDocked p).partState = p.partState ∧ (penDocked p).sp = p.sp ∧ (penDocked p).inp = p.inp ∧
    (penDocked p).ae = p.ae ∧ (penDocked p).pc = p.pc ∧ (penDocked p).ot = p.ot ∧ (penDocked p).bl = p.bl ∧
    (penDocked p).pw = p.pw ∧ (penDocked p).kt = p.kt ∧ (penDocked p).sa = p.sa ∧ (penDocked p).hp = p.hp ∧
    (penDocked p).rq = p.rq ∧ (penDocked p).sl = p.sl ∧ (penDocked p).nu = p.nu := by
  simp only [penDocked]
  (repeat' split) <;> simp

@[simp] theorem penGone_frame (p : Part) :
    (penGone p).tb = p.tb ∧ (penGone p).resetLow = p.resetLow ∧ (penGone p).resetWork = p.resetWork ∧
    (penGone p).partState = p.partState ∧ (penGone p).sp = p.sp ∧ (penGone p).inp = p.inp ∧ (penGone p).ae = p.ae ∧
    (penGone p).pc = p.pc ∧ (penGone p).ot = p.ot ∧ (penGone p).bl = p.bl ∧ (penGone p).pw = p.pw ∧
    (penGone p).kt = p.kt ∧ (penGone p).sa = p.sa ∧ (penGone p).rq = p.rq ∧ (penGone p).sl = p.sl := by
  simp only [penGone]
  (repeat' split) <;> simp

@[simp] theorem debouncedPenh_frame (present : Bool) (p : Part) :
    (debouncedPenh present p).tb = p.tb ∧ (debouncedPenh present p).resetLow = p.resetLow ∧
    (debouncedPenh present p).resetWork = p.resetWork ∧ (debouncedPenh present p).partState = p.partState ∧
    (debouncedPenh present p).sp = p.sp ∧ (debouncedPenh present p).inp = p.inp ∧ (debouncedPenh present p).ae = p.ae ∧
    (debouncedPenh present p).pc = p.pc ∧ (debouncedPenh present p).ot = p.ot ∧ (debouncedPenh present p).bl = p.bl ∧
    (debouncedPenh present p).pw = p.pw ∧ (debouncedPenh present p).kt = p.kt ∧ (debouncedPenh present p).sa = p.sa ∧
    (debouncedPenh present p).rq = p.rq ∧ (debouncedPenh present p).sl = p.sl := by
  simp only [debouncedPenh]
  (repeat' split) <;> simp

@[simp] theorem rethermal_frame (s : Settings) (p : Part) :
    (rethermal s p).tb = p.tb ∧ (rethermal s p).resetLow = p.resetLow ∧ (rethermal s p).resetWork = p.resetWork ∧
    (rethermal s p).partState = p.partState ∧ (rethermal s p).sp = p.sp ∧ (rethermal s p).inp = p.inp ∧
    (rethermal s p).ae = p.ae ∧ (rethermal s p).pc = p.pc ∧ (rethermal s p).ot = p.ot ∧ (rethermal s p).bl = p.bl ∧
    (rethermal s p).pw = p.pw ∧ (rethermal s p).kt = p.kt ∧ (rethermal s p).pn = p.pn ∧ (rethermal s p).sa = p.sa ∧
    (rethermal s p).hp = p.hp ∧ (rethermal s p).rq = p.rq ∧ (rethermal s p).sl = p.sl ∧ (rethermal s p).nu = p.nu := by
  simp only [rethermal]
  (repeat' split) <;> simp

@[simp] theorem chargeSettings_frame (old : Settings) (h : HostState) (p : Part) :
    (chargeSettings old h p).tb = p.tb ∧ (chargeSettings old h p).resetLow = p.resetLow ∧
    (chargeSettings old h p).resetWork = p.resetWork ∧ (chargeSettings old h p).partState = p.partState ∧
    (chargeSettings old h p).sp = p.sp ∧ (chargeSettings old h p).inp = p.inp ∧ (chargeSettings old h p).ae = p.ae ∧
    (chargeSettings old h p).pc = p.pc ∧ (chargeSettings old h p).ot = p.ot ∧ (chargeSettings old h p).bl = p.bl ∧
    (chargeSettings old h p).pw = p.pw ∧ (chargeSettings old h p).kt = p.kt ∧ (chargeSettings old h p).pn = p.pn ∧
    (chargeSettings old h p).sa = p.sa ∧ (chargeSettings old h p).rq = p.rq ∧ (chargeSettings old h p).sl = p.sl := by
  simp only [chargeSettings]
  (repeat' split) <;> simp

@[simp] theorem stallSync_frame (restart : Bool) (p : Part) :
    (stallSync restart p).tb = p.tb ∧ (stallSync restart p).resetLow = p.resetLow ∧
    (stallSync restart p).resetWork = p.resetWork ∧ (stallSync restart p).partState = p.partState ∧
    (stallSync restart p).sp = p.sp ∧ (stallSync restart p).inp = p.inp ∧ (stallSync restart p).ae = p.ae ∧
    (stallSync restart p).pc = p.pc ∧ (stallSync restart p).ot = p.ot ∧ (stallSync restart p).pw = p.pw ∧
    (stallSync restart p).kt = p.kt ∧ (stallSync restart p).pn = p.pn ∧ (stallSync restart p).cc = p.cc ∧
    (stallSync restart p).sa = p.sa ∧ (stallSync restart p).hp = p.hp ∧ (stallSync restart p).rq = p.rq ∧
    (stallSync restart p).sl = p.sl ∧ (stallSync restart p).nu = p.nu := by
  simp [stallSync]

@[simp] theorem pump_frame (restart : Bool) (p : Part) :
    (pump restart p).tb = p.tb ∧ (pump restart p).resetLow = p.resetLow ∧ (pump restart p).resetWork = p.resetWork ∧
    (pump restart p).partState = p.partState ∧ (pump restart p).sp = p.sp ∧ (pump restart p).inp = p.inp ∧
    (pump restart p).ae = p.ae ∧ (pump restart p).pc = p.pc ∧ (pump restart p).ot = p.ot ∧ (pump restart p).pw = p.pw ∧
    (pump restart p).kt = p.kt ∧ (pump restart p).pn = p.pn ∧ (pump restart p).cc = p.cc ∧ (pump restart p).sa = p.sa ∧
    (pump restart p).hp = p.hp ∧ (pump restart p).rq = p.rq ∧ (pump restart p).sl = p.sl ∧ (pump restart p).nu = p.nu := by
  simp [pump]

@[simp] theorem quietChanged_frame (on : Bool) (p : Part) :
    (quietChanged on p).tb = p.tb ∧ (quietChanged on p).resetLow = p.resetLow ∧
    (quietChanged on p).resetWork = p.resetWork ∧ (quietChanged on p).partState = p.partState ∧
    (quietChanged on p).sp = p.sp ∧ (quietChanged on p).inp = p.inp ∧ (quietChanged on p).ae = p.ae ∧
    (quietChanged on p).pc = p.pc ∧ (quietChanged on p).ot = p.ot ∧ (quietChanged on p).pw = p.pw ∧
    (quietChanged on p).kt = p.kt ∧ (quietChanged on p).pn = p.pn ∧ (quietChanged on p).cc = p.cc ∧
    (quietChanged on p).sa = p.sa ∧ (quietChanged on p).hp = p.hp ∧ (quietChanged on p).rq = p.rq ∧
    (quietChanged on p).sl = p.sl ∧ (quietChanged on p).nu = p.nu := by
  simp [quietChanged]

@[simp] theorem joinQuery_frame (p : Part) :
    (joinQuery p).tb = p.tb ∧ (joinQuery p).resetLow = p.resetLow ∧ (joinQuery p).resetWork = p.resetWork ∧
    (joinQuery p).partState = p.partState ∧ (joinQuery p).sp = p.sp ∧ (joinQuery p).inp = p.inp ∧
    (joinQuery p).ae = p.ae ∧ (joinQuery p).pc = p.pc ∧ (joinQuery p).ot = p.ot ∧ (joinQuery p).pw = p.pw ∧
    (joinQuery p).kt = p.kt ∧ (joinQuery p).pn = p.pn ∧ (joinQuery p).cc = p.cc ∧ (joinQuery p).sa = p.sa ∧
    (joinQuery p).hp = p.hp ∧ (joinQuery p).rq = p.rq ∧ (joinQuery p).sl = p.sl ∧ (joinQuery p).nu = p.nu := by
  simp [joinQuery]

@[simp] theorem joinAttr_frame (op : AttrOp) (p : Part) :
    (joinAttr op p).tb = p.tb ∧ (joinAttr op p).resetLow = p.resetLow ∧ (joinAttr op p).resetWork = p.resetWork ∧
    (joinAttr op p).partState = p.partState ∧ (joinAttr op p).sp = p.sp ∧ (joinAttr op p).inp = p.inp ∧
    (joinAttr op p).ae = p.ae ∧ (joinAttr op p).pc = p.pc ∧ (joinAttr op p).ot = p.ot ∧ (joinAttr op p).pw = p.pw ∧
    (joinAttr op p).kt = p.kt ∧ (joinAttr op p).pn = p.pn ∧ (joinAttr op p).cc = p.cc ∧ (joinAttr op p).sa = p.sa ∧
    (joinAttr op p).hp = p.hp ∧ (joinAttr op p).rq = p.rq ∧ (joinAttr op p).sl = p.sl ∧ (joinAttr op p).nu = p.nu := by
  simp [joinAttr]

@[simp] theorem setReservation_frame (r : Nat) (p : Part) :
    (setReservation r p).tb = p.tb ∧ (setReservation r p).resetLow = p.resetLow ∧
    (setReservation r p).resetWork = p.resetWork ∧ (setReservation r p).partState = p.partState ∧
    (setReservation r p).sp = p.sp ∧ (setReservation r p).inp = p.inp ∧ (setReservation r p).ae = p.ae ∧
    (setReservation r p).pc = p.pc ∧ (setReservation r p).ot = p.ot ∧ (setReservation r p).pw = p.pw ∧
    (setReservation r p).kt = p.kt ∧ (setReservation r p).pn = p.pn ∧ (setReservation r p).sa = p.sa ∧
    (setReservation r p).rq = p.rq ∧ (setReservation r p).sl = p.sl := by
  simp only [setReservation]
  (repeat' split) <;> simp

@[simp] theorem offerBase_frame (e : BaseEvent) (p : Part) :
    (offerBase e p).tb = p.tb ∧ (offerBase e p).resetLow = p.resetLow ∧ (offerBase e p).resetWork = p.resetWork ∧
    (offerBase e p).partState = p.partState ∧ (offerBase e p).sp = p.sp ∧ (offerBase e p).inp = p.inp ∧
    (offerBase e p).ae = p.ae ∧ (offerBase e p).pc = p.pc ∧ (offerBase e p).ot = p.ot ∧ (offerBase e p).bl = p.bl ∧
    (offerBase e p).pw = p.pw ∧ (offerBase e p).kt = p.kt ∧ (offerBase e p).pn = p.pn ∧ (offerBase e p).cc = p.cc ∧
    (offerBase e p).sa = p.sa ∧ (offerBase e p).rq = p.rq ∧ (offerBase e p).sl = p.sl := by
  simp [offerBase]

@[simp] theorem orderTarget_frame (m : LinkMode) (p : Part) :
    (orderTarget m p).tb = p.tb ∧ (orderTarget m p).resetLow = p.resetLow ∧ (orderTarget m p).resetWork = p.resetWork ∧
    (orderTarget m p).partState = p.partState ∧ (orderTarget m p).sp = p.sp ∧ (orderTarget m p).inp = p.inp ∧
    (orderTarget m p).ae = p.ae ∧ (orderTarget m p).pc = p.pc ∧ (orderTarget m p).ot = p.ot ∧
    (orderTarget m p).pw = p.pw ∧ (orderTarget m p).kt = p.kt ∧ (orderTarget m p).pn = p.pn ∧
    (orderTarget m p).cc = p.cc ∧ (orderTarget m p).sa = p.sa ∧ (orderTarget m p).hp = p.hp ∧
    (orderTarget m p).rq = p.rq ∧ (orderTarget m p).sl = p.sl ∧ (orderTarget m p).nu = p.nu := by
  simp [orderTarget]

@[simp] theorem orderWake_frame (p : Part) :
    (orderWake p).tb = p.tb ∧ (orderWake p).resetLow = p.resetLow ∧ (orderWake p).resetWork = p.resetWork ∧
    (orderWake p).partState = p.partState ∧ (orderWake p).sp = p.sp ∧ (orderWake p).inp = p.inp ∧
    (orderWake p).ae = p.ae ∧ (orderWake p).pc = p.pc ∧ (orderWake p).ot = p.ot ∧ (orderWake p).pw = p.pw ∧
    (orderWake p).kt = p.kt ∧ (orderWake p).pn = p.pn ∧ (orderWake p).cc = p.cc ∧ (orderWake p).sa = p.sa ∧
    (orderWake p).hp = p.hp ∧ (orderWake p).rq = p.rq ∧ (orderWake p).sl = p.sl ∧ (orderWake p).nu = p.nu := by
  simp only [orderWake]
  (repeat' split) <;> simp

@[simp] theorem advise_frame (k : AdviceKind) (causes : BitVec 6) (p : Part) :
    (advise k causes p).tb = p.tb ∧ (advise k causes p).resetLow = p.resetLow ∧
    (advise k causes p).resetWork = p.resetWork ∧ (advise k causes p).partState = p.partState ∧
    (advise k causes p).sp = p.sp ∧ (advise k causes p).inp = p.inp ∧ (advise k causes p).ae = p.ae ∧
    (advise k causes p).pc = p.pc ∧ (advise k causes p).ot = p.ot ∧ (advise k causes p).bl = p.bl ∧
    (advise k causes p).pw = p.pw ∧ (advise k causes p).kt = p.kt ∧ (advise k causes p).pn = p.pn ∧
    (advise k causes p).cc = p.cc ∧ (advise k causes p).sa = p.sa ∧ (advise k causes p).rq = p.rq ∧
    (advise k causes p).sl = p.sl := by
  simp [advise]

@[simp] theorem adviseWake_frame (c : AdviceCause) (p : Part) :
    (adviseWake c p).tb = p.tb ∧ (adviseWake c p).resetLow = p.resetLow ∧ (adviseWake c p).resetWork = p.resetWork ∧
    (adviseWake c p).partState = p.partState ∧ (adviseWake c p).sp = p.sp ∧ (adviseWake c p).inp = p.inp ∧
    (adviseWake c p).ae = p.ae ∧ (adviseWake c p).pc = p.pc ∧ (adviseWake c p).ot = p.ot ∧ (adviseWake c p).pw = p.pw ∧
    (adviseWake c p).kt = p.kt ∧ (adviseWake c p).pn = p.pn ∧ (adviseWake c p).cc = p.cc ∧ (adviseWake c p).sa = p.sa ∧
    (adviseWake c p).rq = p.rq ∧ (adviseWake c p).sl = p.sl := by
  simp only [adviseWake]
  (repeat' split) <;> simp

@[simp] theorem wakeCause_frame (c : AdviceCause) (p : Part) :
    (wakeCause c p).tb = p.tb ∧ (wakeCause c p).resetLow = p.resetLow ∧ (wakeCause c p).resetWork = p.resetWork ∧
    (wakeCause c p).partState = p.partState ∧ (wakeCause c p).sp = p.sp ∧ (wakeCause c p).inp = p.inp ∧
    (wakeCause c p).ae = p.ae ∧ (wakeCause c p).pc = p.pc ∧ (wakeCause c p).ot = p.ot ∧ (wakeCause c p).pw = p.pw ∧
    (wakeCause c p).kt = p.kt ∧ (wakeCause c p).pn = p.pn ∧ (wakeCause c p).cc = p.cc ∧ (wakeCause c p).sa = p.sa ∧
    (wakeCause c p).rq = p.rq ∧ (wakeCause c p).sl = p.sl := by
  simp only [wakeCause]
  (repeat' split) <;> simp

@[simp] theorem startInactivity_frame (p : Part) :
    (startInactivity p).tb = p.tb ∧ (startInactivity p).resetLow = p.resetLow ∧
    (startInactivity p).resetWork = p.resetWork ∧ (startInactivity p).partState = p.partState ∧
    (startInactivity p).sp = p.sp ∧ (startInactivity p).inp = p.inp ∧ (startInactivity p).ae = p.ae ∧
    (startInactivity p).pc = p.pc ∧ (startInactivity p).ot = p.ot ∧ (startInactivity p).bl = p.bl ∧
    (startInactivity p).pw = p.pw ∧ (startInactivity p).kt = p.kt ∧ (startInactivity p).pn = p.pn ∧
    (startInactivity p).cc = p.cc ∧ (startInactivity p).hp = p.hp ∧ (startInactivity p).rq = p.rq ∧
    (startInactivity p).sl = p.sl ∧ (startInactivity p).nu = p.nu := by
  simp [startInactivity]

@[simp] theorem restartInactivity_frame (p : Part) :
    (restartInactivity p).tb = p.tb ∧ (restartInactivity p).resetLow = p.resetLow ∧
    (restartInactivity p).resetWork = p.resetWork ∧ (restartInactivity p).partState = p.partState ∧
    (restartInactivity p).sp = p.sp ∧ (restartInactivity p).inp = p.inp ∧ (restartInactivity p).ae = p.ae ∧
    (restartInactivity p).pc = p.pc ∧ (restartInactivity p).ot = p.ot ∧ (restartInactivity p).bl = p.bl ∧
    (restartInactivity p).pw = p.pw ∧ (restartInactivity p).kt = p.kt ∧ (restartInactivity p).pn = p.pn ∧
    (restartInactivity p).cc = p.cc ∧ (restartInactivity p).hp = p.hp ∧ (restartInactivity p).rq = p.rq ∧
    (restartInactivity p).sl = p.sl ∧ (restartInactivity p).nu = p.nu := by
  simp [restartInactivity]

@[simp] theorem undim_frame (p : Part) :
    (undim p).tb = p.tb ∧ (undim p).resetLow = p.resetLow ∧ (undim p).resetWork = p.resetWork ∧
    (undim p).partState = p.partState ∧ (undim p).sp = p.sp ∧ (undim p).inp = p.inp ∧ (undim p).ae = p.ae ∧
    (undim p).pc = p.pc ∧ (undim p).ot = p.ot ∧ (undim p).bl = p.bl ∧ (undim p).pw = p.pw ∧ (undim p).kt = p.kt ∧
    (undim p).pn = p.pn ∧ (undim p).cc = p.cc ∧ (undim p).rq = p.rq ∧ (undim p).sl = p.sl := by
  simp [undim]

@[simp] theorem activity_frame (p : Part) :
    (activity p).tb = p.tb ∧ (activity p).resetLow = p.resetLow ∧ (activity p).resetWork = p.resetWork ∧
    (activity p).partState = p.partState ∧ (activity p).sp = p.sp ∧ (activity p).inp = p.inp ∧ (activity p).ae = p.ae ∧
    (activity p).pc = p.pc ∧ (activity p).ot = p.ot ∧ (activity p).bl = p.bl ∧ (activity p).pw = p.pw ∧
    (activity p).kt = p.kt ∧ (activity p).pn = p.pn ∧ (activity p).cc = p.cc ∧ (activity p).rq = p.rq ∧
    (activity p).sl = p.sl := by
  simp only [activity]
  (repeat' split) <;> simp

@[simp] theorem keyTold_frame (p : Part) :
    (keyTold p).tb = p.tb ∧ (keyTold p).resetLow = p.resetLow ∧ (keyTold p).resetWork = p.resetWork ∧
    (keyTold p).partState = p.partState ∧ (keyTold p).sp = p.sp ∧ (keyTold p).inp = p.inp ∧ (keyTold p).ae = p.ae ∧
    (keyTold p).pc = p.pc ∧ (keyTold p).ot = p.ot ∧ (keyTold p).pw = p.pw ∧ (keyTold p).kt = p.kt ∧
    (keyTold p).pn = p.pn ∧ (keyTold p).cc = p.cc ∧ (keyTold p).rq = p.rq ∧ (keyTold p).sl = p.sl := by
  simp [keyTold]

@[simp] theorem enterClosePending_frame (p : Part) :
    (enterClosePending p).tb = p.tb ∧ (enterClosePending p).resetLow = p.resetLow ∧
    (enterClosePending p).resetWork = p.resetWork ∧ (enterClosePending p).partState = p.partState ∧
    (enterClosePending p).sp = p.sp ∧ (enterClosePending p).inp = p.inp ∧ (enterClosePending p).ae = p.ae ∧
    (enterClosePending p).pc = p.pc ∧ (enterClosePending p).ot = p.ot ∧ (enterClosePending p).bl = p.bl ∧
    (enterClosePending p).pw = p.pw ∧ (enterClosePending p).kt = p.kt ∧ (enterClosePending p).pn = p.pn ∧
    (enterClosePending p).cc = p.cc ∧ (enterClosePending p).hp = p.hp ∧ (enterClosePending p).rq = p.rq ∧
    (enterClosePending p).sl = p.sl ∧ (enterClosePending p).nu = p.nu := by
  simp [enterClosePending]

@[simp] theorem leaveClose_frame (p : Part) :
    (leaveClose p).tb = p.tb ∧ (leaveClose p).resetLow = p.resetLow ∧ (leaveClose p).resetWork = p.resetWork ∧
    (leaveClose p).partState = p.partState ∧ (leaveClose p).sp = p.sp ∧ (leaveClose p).inp = p.inp ∧
    (leaveClose p).ae = p.ae ∧ (leaveClose p).pc = p.pc ∧ (leaveClose p).ot = p.ot ∧ (leaveClose p).bl = p.bl ∧
    (leaveClose p).pw = p.pw ∧ (leaveClose p).kt = p.kt ∧ (leaveClose p).pn = p.pn ∧ (leaveClose p).cc = p.cc ∧
    (leaveClose p).rq = p.rq ∧ (leaveClose p).sl = p.sl := by
  simp only [leaveClose]
  (repeat' split) <;> simp

@[simp] theorem postureRunning_frame (q : Posture) (p : Part) :
    (postureRunning q p).tb = p.tb ∧ (postureRunning q p).resetLow = p.resetLow ∧
    (postureRunning q p).resetWork = p.resetWork ∧ (postureRunning q p).partState = p.partState ∧
    (postureRunning q p).sp = p.sp ∧ (postureRunning q p).inp = p.inp ∧ (postureRunning q p).ae = p.ae ∧
    (postureRunning q p).pc = p.pc ∧ (postureRunning q p).ot = p.ot ∧ (postureRunning q p).bl = p.bl ∧
    (postureRunning q p).pw = p.pw ∧ (postureRunning q p).kt = p.kt ∧ (postureRunning q p).pn = p.pn ∧
    (postureRunning q p).cc = p.cc ∧ (postureRunning q p).rq = p.rq ∧ (postureRunning q p).sl = p.sl := by
  simp only [postureRunning]
  (repeat' split) <;> simp

@[simp] theorem postureTold_frame (q : Posture) (p : Part) :
    (postureTold q p).tb = p.tb ∧ (postureTold q p).resetLow = p.resetLow ∧ (postureTold q p).resetWork = p.resetWork ∧
    (postureTold q p).partState = p.partState ∧ (postureTold q p).sp = p.sp ∧ (postureTold q p).inp = p.inp ∧
    (postureTold q p).ae = p.ae ∧ (postureTold q p).pc = p.pc ∧ (postureTold q p).ot = p.ot ∧
    (postureTold q p).pw = p.pw ∧ (postureTold q p).kt = p.kt ∧ (postureTold q p).pn = p.pn ∧
    (postureTold q p).cc = p.cc ∧ (postureTold q p).rq = p.rq ∧ (postureTold q p).sl = p.sl := by
  simp only [postureTold]
  (repeat' split) <;> simp

@[simp] theorem linkTold_frame (old new : Link) (p : Part) :
    (linkTold old new p).tb = p.tb ∧ (linkTold old new p).resetLow = p.resetLow ∧
    (linkTold old new p).resetWork = p.resetWork ∧ (linkTold old new p).partState = p.partState ∧
    (linkTold old new p).sp = p.sp ∧ (linkTold old new p).inp = p.inp ∧ (linkTold old new p).ae = p.ae ∧
    (linkTold old new p).pc = p.pc ∧ (linkTold old new p).ot = p.ot ∧ (linkTold old new p).pw = p.pw ∧
    (linkTold old new p).kt = p.kt ∧ (linkTold old new p).pn = p.pn ∧ (linkTold old new p).cc = p.cc ∧
    (linkTold old new p).rq = p.rq ∧ (linkTold old new p).sl = p.sl := by
  simp only [linkTold]
  (repeat' split) <;> simp

@[simp] theorem penTold_frame (present : Bool) (p : Part) :
    (penTold present p).tb = p.tb ∧ (penTold present p).resetLow = p.resetLow ∧
    (penTold present p).resetWork = p.resetWork ∧ (penTold present p).partState = p.partState ∧
    (penTold present p).sp = p.sp ∧ (penTold present p).inp = p.inp ∧ (penTold present p).ae = p.ae ∧
    (penTold present p).pc = p.pc ∧ (penTold present p).ot = p.ot ∧ (penTold present p).pw = p.pw ∧
    (penTold present p).kt = p.kt ∧ (penTold present p).pn = p.pn ∧ (penTold present p).cc = p.cc ∧
    (penTold present p).rq = p.rq ∧ (penTold present p).sl = p.sl := by
  simp only [penTold]
  (repeat' split) <;> simp

@[simp] theorem lidTold_frame (active : Bool) (p : Part) :
    (lidTold active p).tb = p.tb ∧ (lidTold active p).resetLow = p.resetLow ∧
    (lidTold active p).resetWork = p.resetWork ∧ (lidTold active p).partState = p.partState ∧
    (lidTold active p).sp = p.sp ∧ (lidTold active p).inp = p.inp ∧ (lidTold active p).ae = p.ae ∧
    (lidTold active p).pc = p.pc ∧ (lidTold active p).ot = p.ot ∧ (lidTold active p).pw = p.pw ∧
    (lidTold active p).kt = p.kt ∧ (lidTold active p).pn = p.pn ∧ (lidTold active p).cc = p.cc ∧
    (lidTold active p).sa = p.sa ∧ (lidTold active p).rq = p.rq ∧ (lidTold active p).sl = p.sl := by
  simp only [lidTold]
  (repeat' split) <;> simp

@[simp] theorem lidSampleTold_frame (x y z : Int) (fresh : Bool) (p : Part) :
    (lidSampleTold x y z fresh p).tb = p.tb ∧ (lidSampleTold x y z fresh p).resetLow = p.resetLow ∧
    (lidSampleTold x y z fresh p).resetWork = p.resetWork ∧ (lidSampleTold x y z fresh p).partState = p.partState ∧
    (lidSampleTold x y z fresh p).sp = p.sp ∧ (lidSampleTold x y z fresh p).inp = p.inp ∧
    (lidSampleTold x y z fresh p).ae = p.ae ∧ (lidSampleTold x y z fresh p).pc = p.pc ∧
    (lidSampleTold x y z fresh p).ot = p.ot ∧ (lidSampleTold x y z fresh p).pw = p.pw ∧
    (lidSampleTold x y z fresh p).kt = p.kt ∧ (lidSampleTold x y z fresh p).pn = p.pn ∧
    (lidSampleTold x y z fresh p).cc = p.cc ∧ (lidSampleTold x y z fresh p).rq = p.rq ∧
    (lidSampleTold x y z fresh p).sl = p.sl := by
  simp only [lidSampleTold]
  (repeat' split) <;> simp

@[simp] theorem inactivityExpired_frame (p : Part) :
    (inactivityExpired p).tb = p.tb ∧ (inactivityExpired p).resetLow = p.resetLow ∧
    (inactivityExpired p).resetWork = p.resetWork ∧ (inactivityExpired p).partState = p.partState ∧
    (inactivityExpired p).sp = p.sp ∧ (inactivityExpired p).inp = p.inp ∧ (inactivityExpired p).ae = p.ae ∧
    (inactivityExpired p).pc = p.pc ∧ (inactivityExpired p).ot = p.ot ∧ (inactivityExpired p).bl = p.bl ∧
    (inactivityExpired p).pw = p.pw ∧ (inactivityExpired p).kt = p.kt ∧ (inactivityExpired p).pn = p.pn ∧
    (inactivityExpired p).cc = p.cc ∧ (inactivityExpired p).rq = p.rq ∧ (inactivityExpired p).sl = p.sl := by
  simp only [inactivityExpired]
  (repeat' split) <;> simp

@[simp] theorem graceExpired_frame (p : Part) :
    (graceExpired p).tb = p.tb ∧ (graceExpired p).resetLow = p.resetLow ∧ (graceExpired p).resetWork = p.resetWork ∧
    (graceExpired p).partState = p.partState ∧ (graceExpired p).sp = p.sp ∧ (graceExpired p).inp = p.inp ∧
    (graceExpired p).ae = p.ae ∧ (graceExpired p).pc = p.pc ∧ (graceExpired p).ot = p.ot ∧ (graceExpired p).bl = p.bl ∧
    (graceExpired p).pw = p.pw ∧ (graceExpired p).kt = p.kt ∧ (graceExpired p).pn = p.pn ∧ (graceExpired p).cc = p.cc ∧
    (graceExpired p).rq = p.rq ∧ (graceExpired p).sl = p.sl := by
  simp only [graceExpired]
  (repeat' split) <;> simp

@[simp] theorem advisorHostState_frame (h : HostState) (p : Part) :
    (advisorHostState h p).tb = p.tb ∧ (advisorHostState h p).resetLow = p.resetLow ∧
    (advisorHostState h p).resetWork = p.resetWork ∧ (advisorHostState h p).partState = p.partState ∧
    (advisorHostState h p).sp = p.sp ∧ (advisorHostState h p).inp = p.inp ∧ (advisorHostState h p).ae = p.ae ∧
    (advisorHostState h p).pc = p.pc ∧ (advisorHostState h p).ot = p.ot ∧ (advisorHostState h p).bl = p.bl ∧
    (advisorHostState h p).pw = p.pw ∧ (advisorHostState h p).kt = p.kt ∧ (advisorHostState h p).pn = p.pn ∧
    (advisorHostState h p).cc = p.cc ∧ (advisorHostState h p).hp = p.hp ∧ (advisorHostState h p).rq = p.rq ∧
    (advisorHostState h p).sl = p.sl ∧ (advisorHostState h p).nu = p.nu := by
  simp only [advisorHostState]
  (repeat' split) <;> simp

@[simp] theorem keepAwakeOn_frame (p : Part) :
    (keepAwakeOn p).tb = p.tb ∧ (keepAwakeOn p).resetLow = p.resetLow ∧ (keepAwakeOn p).resetWork = p.resetWork ∧
    (keepAwakeOn p).partState = p.partState ∧ (keepAwakeOn p).sp = p.sp ∧ (keepAwakeOn p).inp = p.inp ∧
    (keepAwakeOn p).ae = p.ae ∧ (keepAwakeOn p).pc = p.pc ∧ (keepAwakeOn p).ot = p.ot ∧ (keepAwakeOn p).bl = p.bl ∧
    (keepAwakeOn p).pw = p.pw ∧ (keepAwakeOn p).kt = p.kt ∧ (keepAwakeOn p).pn = p.pn ∧ (keepAwakeOn p).cc = p.cc ∧
    (keepAwakeOn p).rq = p.rq ∧ (keepAwakeOn p).sl = p.sl := by
  simp only [keepAwakeOn]
  (repeat' split) <;> simp

@[simp] theorem closeSleepOff_frame (p : Part) :
    (closeSleepOff p).tb = p.tb ∧ (closeSleepOff p).resetLow = p.resetLow ∧ (closeSleepOff p).resetWork = p.resetWork ∧
    (closeSleepOff p).partState = p.partState ∧ (closeSleepOff p).sp = p.sp ∧ (closeSleepOff p).inp = p.inp ∧
    (closeSleepOff p).ae = p.ae ∧ (closeSleepOff p).pc = p.pc ∧ (closeSleepOff p).ot = p.ot ∧
    (closeSleepOff p).bl = p.bl ∧ (closeSleepOff p).pw = p.pw ∧ (closeSleepOff p).kt = p.kt ∧
    (closeSleepOff p).pn = p.pn ∧ (closeSleepOff p).cc = p.cc ∧ (closeSleepOff p).rq = p.rq ∧
    (closeSleepOff p).sl = p.sl := by
  simp only [closeSleepOff]
  (repeat' split) <;> simp

@[simp] theorem closeSleepOn_frame (p : Part) :
    (closeSleepOn p).tb = p.tb ∧ (closeSleepOn p).resetLow = p.resetLow ∧ (closeSleepOn p).resetWork = p.resetWork ∧
    (closeSleepOn p).partState = p.partState ∧ (closeSleepOn p).sp = p.sp ∧ (closeSleepOn p).inp = p.inp ∧
    (closeSleepOn p).ae = p.ae ∧ (closeSleepOn p).pc = p.pc ∧ (closeSleepOn p).ot = p.ot ∧ (closeSleepOn p).bl = p.bl ∧
    (closeSleepOn p).pw = p.pw ∧ (closeSleepOn p).kt = p.kt ∧ (closeSleepOn p).pn = p.pn ∧ (closeSleepOn p).cc = p.cc ∧
    (closeSleepOn p).hp = p.hp ∧ (closeSleepOn p).rq = p.rq ∧ (closeSleepOn p).sl = p.sl ∧ (closeSleepOn p).nu = p.nu := by
  simp only [closeSleepOn]
  (repeat' split) <;> simp

@[simp] theorem inactivitySettings_frame (old : Settings) (p : Part) :
    (inactivitySettings old p).tb = p.tb ∧ (inactivitySettings old p).resetLow = p.resetLow ∧
    (inactivitySettings old p).resetWork = p.resetWork ∧ (inactivitySettings old p).partState = p.partState ∧
    (inactivitySettings old p).sp = p.sp ∧ (inactivitySettings old p).inp = p.inp ∧
    (inactivitySettings old p).ae = p.ae ∧ (inactivitySettings old p).pc = p.pc ∧ (inactivitySettings old p).ot = p.ot ∧
    (inactivitySettings old p).bl = p.bl ∧ (inactivitySettings old p).pw = p.pw ∧ (inactivitySettings old p).kt = p.kt ∧
    (inactivitySettings old p).pn = p.pn ∧ (inactivitySettings old p).cc = p.cc ∧ (inactivitySettings old p).hp = p.hp ∧
    (inactivitySettings old p).rq = p.rq ∧ (inactivitySettings old p).sl = p.sl ∧ (inactivitySettings old p).nu = p.nu := by
  simp only [inactivitySettings]
  (repeat' split) <;> simp

@[simp] theorem advisorSettings_frame (old : Settings) (p : Part) :
    (advisorSettings old p).tb = p.tb ∧ (advisorSettings old p).resetLow = p.resetLow ∧
    (advisorSettings old p).resetWork = p.resetWork ∧ (advisorSettings old p).partState = p.partState ∧
    (advisorSettings old p).sp = p.sp ∧ (advisorSettings old p).inp = p.inp ∧ (advisorSettings old p).ae = p.ae ∧
    (advisorSettings old p).pc = p.pc ∧ (advisorSettings old p).ot = p.ot ∧ (advisorSettings old p).bl = p.bl ∧
    (advisorSettings old p).pw = p.pw ∧ (advisorSettings old p).kt = p.kt ∧ (advisorSettings old p).pn = p.pn ∧
    (advisorSettings old p).cc = p.cc ∧ (advisorSettings old p).rq = p.rq ∧ (advisorSettings old p).sl = p.sl := by
  simp only [advisorSettings]
  (repeat' split) <;> simp

@[simp] theorem offerKeys_frame (p : Part) :
    (offerKeys p).tb = p.tb ∧ (offerKeys p).resetLow = p.resetLow ∧ (offerKeys p).resetWork = p.resetWork ∧
    (offerKeys p).partState = p.partState ∧ (offerKeys p).sp = p.sp ∧ (offerKeys p).inp = p.inp ∧
    (offerKeys p).ae = p.ae ∧ (offerKeys p).pc = p.pc ∧ (offerKeys p).ot = p.ot ∧ (offerKeys p).bl = p.bl ∧
    (offerKeys p).pw = p.pw ∧ (offerKeys p).pn = p.pn ∧ (offerKeys p).cc = p.cc ∧ (offerKeys p).sa = p.sa ∧
    (offerKeys p).rq = p.rq ∧ (offerKeys p).sl = p.sl := by
  simp [offerKeys]

@[simp] theorem offerIfQueued_frame (before : Nat) (p : Part) :
    (offerIfQueued before p).tb = p.tb ∧ (offerIfQueued before p).resetLow = p.resetLow ∧
    (offerIfQueued before p).resetWork = p.resetWork ∧ (offerIfQueued before p).partState = p.partState ∧
    (offerIfQueued before p).sp = p.sp ∧ (offerIfQueued before p).inp = p.inp ∧ (offerIfQueued before p).ae = p.ae ∧
    (offerIfQueued before p).pc = p.pc ∧ (offerIfQueued before p).ot = p.ot ∧ (offerIfQueued before p).bl = p.bl ∧
    (offerIfQueued before p).pw = p.pw ∧ (offerIfQueued before p).pn = p.pn ∧ (offerIfQueued before p).cc = p.cc ∧
    (offerIfQueued before p).sa = p.sa ∧ (offerIfQueued before p).rq = p.rq ∧ (offerIfQueued before p).sl = p.sl := by
  simp only [offerIfQueued]
  (repeat' split) <;> simp

@[simp] theorem suppressionTold_frame (on : Bool) (p : Part) :
    (suppressionTold on p).tb = p.tb ∧ (suppressionTold on p).resetLow = p.resetLow ∧
    (suppressionTold on p).resetWork = p.resetWork ∧ (suppressionTold on p).partState = p.partState ∧
    (suppressionTold on p).sp = p.sp ∧ (suppressionTold on p).inp = p.inp ∧ (suppressionTold on p).ae = p.ae ∧
    (suppressionTold on p).pc = p.pc ∧ (suppressionTold on p).ot = p.ot ∧ (suppressionTold on p).bl = p.bl ∧
    (suppressionTold on p).pw = p.pw ∧ (suppressionTold on p).pn = p.pn ∧ (suppressionTold on p).cc = p.cc ∧
    (suppressionTold on p).sa = p.sa ∧ (suppressionTold on p).rq = p.rq ∧ (suppressionTold on p).sl = p.sl := by
  simp only [suppressionTold]
  (repeat' split) <;> simp

@[simp] theorem linkToldKeys_frame (old new : Link) (p : Part) :
    (linkToldKeys old new p).tb = p.tb ∧ (linkToldKeys old new p).resetLow = p.resetLow ∧
    (linkToldKeys old new p).resetWork = p.resetWork ∧ (linkToldKeys old new p).partState = p.partState ∧
    (linkToldKeys old new p).sp = p.sp ∧ (linkToldKeys old new p).inp = p.inp ∧ (linkToldKeys old new p).ae = p.ae ∧
    (linkToldKeys old new p).pc = p.pc ∧ (linkToldKeys old new p).ot = p.ot ∧ (linkToldKeys old new p).bl = p.bl ∧
    (linkToldKeys old new p).pw = p.pw ∧ (linkToldKeys old new p).pn = p.pn ∧ (linkToldKeys old new p).cc = p.cc ∧
    (linkToldKeys old new p).sa = p.sa ∧ (linkToldKeys old new p).rq = p.rq ∧ (linkToldKeys old new p).sl = p.sl := by
  simp only [linkToldKeys]
  (repeat' split) <;> simp

@[simp] theorem queuePress_frame (code : Nat) (synthesized : Bool) (time : Word) (p : Part) :
    (queuePress code synthesized time p).tb = p.tb ∧ (queuePress code synthesized time p).resetLow = p.resetLow ∧
    (queuePress code synthesized time p).resetWork = p.resetWork ∧
    (queuePress code synthesized time p).partState = p.partState ∧ (queuePress code synthesized time p).sp = p.sp ∧
    (queuePress code synthesized time p).inp = p.inp ∧ (queuePress code synthesized time p).ae = p.ae ∧
    (queuePress code synthesized time p).pc = p.pc ∧ (queuePress code synthesized time p).ot = p.ot ∧
    (queuePress code synthesized time p).pw = p.pw ∧ (queuePress code synthesized time p).pn = p.pn ∧
    (queuePress code synthesized time p).cc = p.cc ∧ (queuePress code synthesized time p).rq = p.rq ∧
    (queuePress code synthesized time p).sl = p.sl := by
  simp only [queuePress]
  (repeat' split) <;> simp

@[simp] theorem press_frame (code : Nat) (time : Word) (p : Part) :
    (press code time p).tb = p.tb ∧ (press code time p).resetLow = p.resetLow ∧
    (press code time p).resetWork = p.resetWork ∧ (press code time p).partState = p.partState ∧
    (press code time p).sp = p.sp ∧ (press code time p).inp = p.inp ∧ (press code time p).ae = p.ae ∧
    (press code time p).pc = p.pc ∧ (press code time p).ot = p.ot ∧ (press code time p).pw = p.pw ∧
    (press code time p).pn = p.pn ∧ (press code time p).cc = p.cc ∧ (press code time p).rq = p.rq ∧
    (press code time p).sl = p.sl := by
  simp only [press]
  (repeat' split) <;> simp

@[simp] theorem keyTransition_frame (time : Word) (p : Part) (e : KeyEvent) :
    (keyTransition time p e).tb = p.tb ∧ (keyTransition time p e).resetLow = p.resetLow ∧
    (keyTransition time p e).resetWork = p.resetWork ∧ (keyTransition time p e).partState = p.partState ∧
    (keyTransition time p e).sp = p.sp ∧ (keyTransition time p e).inp = p.inp ∧ (keyTransition time p e).ae = p.ae ∧
    (keyTransition time p e).pc = p.pc ∧ (keyTransition time p e).ot = p.ot ∧ (keyTransition time p e).pw = p.pw ∧
    (keyTransition time p e).pn = p.pn ∧ (keyTransition time p e).cc = p.cc ∧ (keyTransition time p e).rq = p.rq ∧
    (keyTransition time p e).sl = p.sl := by
  simp only [keyTransition]
  (repeat' split) <;> simp

@[simp] theorem foldl_keyTransition_frame (t : Word) (es : List KeyEvent) (p : Part) :
    (es.foldl (keyTransition t) p).tb = p.tb ∧
    (es.foldl (keyTransition t) p).resetLow = p.resetLow ∧
    (es.foldl (keyTransition t) p).resetWork = p.resetWork ∧
    (es.foldl (keyTransition t) p).partState = p.partState ∧
    (es.foldl (keyTransition t) p).sp = p.sp ∧
    (es.foldl (keyTransition t) p).inp = p.inp ∧
    (es.foldl (keyTransition t) p).ae = p.ae ∧
    (es.foldl (keyTransition t) p).pc = p.pc ∧
    (es.foldl (keyTransition t) p).ot = p.ot ∧
    (es.foldl (keyTransition t) p).pw = p.pw ∧
    (es.foldl (keyTransition t) p).pn = p.pn ∧
    (es.foldl (keyTransition t) p).cc = p.cc ∧
    (es.foldl (keyTransition t) p).rq = p.rq ∧
    (es.foldl (keyTransition t) p).sl = p.sl := by
  induction es generalizing p with
  | nil => simp
  | cons x es ih => simp [ih]

@[simp] theorem keysFrame_frame (gap : Bool) (es : List KeyEvent) (heldCount : Nat) (p : Part) :
    (keysFrame gap es heldCount p).tb = p.tb ∧ (keysFrame gap es heldCount p).resetLow = p.resetLow ∧
    (keysFrame gap es heldCount p).resetWork = p.resetWork ∧ (keysFrame gap es heldCount p).partState = p.partState ∧
    (keysFrame gap es heldCount p).sp = p.sp ∧ (keysFrame gap es heldCount p).inp = p.inp ∧
    (keysFrame gap es heldCount p).ae = p.ae ∧ (keysFrame gap es heldCount p).pc = p.pc ∧
    (keysFrame gap es heldCount p).ot = p.ot ∧ (keysFrame gap es heldCount p).pw = p.pw ∧
    (keysFrame gap es heldCount p).pn = p.pn ∧ (keysFrame gap es heldCount p).cc = p.cc ∧
    (keysFrame gap es heldCount p).rq = p.rq ∧ (keysFrame gap es heldCount p).sl = p.sl := by
  simp only [keysFrame]
  split <;> simp

@[simp] theorem resyncPress_frame (time : Word) (p : Part) (code : Nat) :
    (resyncPress time p code).tb = p.tb ∧ (resyncPress time p code).resetLow = p.resetLow ∧
    (resyncPress time p code).resetWork = p.resetWork ∧ (resyncPress time p code).partState = p.partState ∧
    (resyncPress time p code).sp = p.sp ∧ (resyncPress time p code).inp = p.inp ∧ (resyncPress time p code).ae = p.ae ∧
    (resyncPress time p code).pc = p.pc ∧ (resyncPress time p code).ot = p.ot ∧ (resyncPress time p code).pw = p.pw ∧
    (resyncPress time p code).pn = p.pn ∧ (resyncPress time p code).cc = p.cc ∧ (resyncPress time p code).rq = p.rq ∧
    (resyncPress time p code).sl = p.sl := by
  simp only [resyncPress]
  (repeat' split) <;> simp

@[simp] theorem foldl_resyncPress_frame (t : Word) (ks : List Nat) (p : Part) :
    (ks.foldl (resyncPress t) p).tb = p.tb ∧
    (ks.foldl (resyncPress t) p).resetLow = p.resetLow ∧
    (ks.foldl (resyncPress t) p).resetWork = p.resetWork ∧
    (ks.foldl (resyncPress t) p).partState = p.partState ∧
    (ks.foldl (resyncPress t) p).sp = p.sp ∧
    (ks.foldl (resyncPress t) p).inp = p.inp ∧
    (ks.foldl (resyncPress t) p).ae = p.ae ∧
    (ks.foldl (resyncPress t) p).pc = p.pc ∧
    (ks.foldl (resyncPress t) p).ot = p.ot ∧
    (ks.foldl (resyncPress t) p).pw = p.pw ∧
    (ks.foldl (resyncPress t) p).pn = p.pn ∧
    (ks.foldl (resyncPress t) p).cc = p.cc ∧
    (ks.foldl (resyncPress t) p).rq = p.rq ∧
    (ks.foldl (resyncPress t) p).sl = p.sl := by
  induction ks generalizing p with
  | nil => simp
  | cons x ks ih => simp [ih]

@[simp] theorem resync_frame (codes : List Byte) (p : Part) :
    (resync codes p).tb = p.tb ∧ (resync codes p).resetLow = p.resetLow ∧ (resync codes p).resetWork = p.resetWork ∧
    (resync codes p).partState = p.partState ∧ (resync codes p).sp = p.sp ∧ (resync codes p).inp = p.inp ∧
    (resync codes p).ae = p.ae ∧ (resync codes p).pc = p.pc ∧ (resync codes p).ot = p.ot ∧ (resync codes p).pw = p.pw ∧
    (resync codes p).pn = p.pn ∧ (resync codes p).cc = p.cc ∧ (resync codes p).rq = p.rq ∧ (resync codes p).sl = p.sl := by
  simp only [resync]
  split <;> simp

@[simp] theorem offerOrientation_frame (p : Part) :
    (offerOrientation p).tb = p.tb ∧ (offerOrientation p).resetLow = p.resetLow ∧
    (offerOrientation p).resetWork = p.resetWork ∧ (offerOrientation p).partState = p.partState ∧
    (offerOrientation p).sp = p.sp ∧ (offerOrientation p).inp = p.inp ∧ (offerOrientation p).ae = p.ae ∧
    (offerOrientation p).pc = p.pc ∧ (offerOrientation p).ot = p.ot ∧ (offerOrientation p).bl = p.bl ∧
    (offerOrientation p).pw = p.pw ∧ (offerOrientation p).kt = p.kt ∧ (offerOrientation p).pn = p.pn ∧
    (offerOrientation p).cc = p.cc ∧ (offerOrientation p).sa = p.sa ∧ (offerOrientation p).rq = p.rq ∧
    (offerOrientation p).sl = p.sl := by
  simp [offerOrientation]

@[simp] theorem rehold_frame (p : Part) :
    (rehold p).tb = p.tb ∧ (rehold p).resetLow = p.resetLow ∧ (rehold p).resetWork = p.resetWork ∧
    (rehold p).partState = p.partState ∧ (rehold p).sp = p.sp ∧ (rehold p).inp = p.inp ∧ (rehold p).ae = p.ae ∧
    (rehold p).pc = p.pc ∧ (rehold p).bl = p.bl ∧ (rehold p).pw = p.pw ∧ (rehold p).kt = p.kt ∧ (rehold p).pn = p.pn ∧
    (rehold p).cc = p.cc ∧ (rehold p).rq = p.rq ∧ (rehold p).sl = p.sl := by
  simp only [rehold]
  (repeat' split) <;> simp

@[simp] theorem orientationTold_frame (q : Posture) (p : Part) :
    (orientationTold q p).tb = p.tb ∧ (orientationTold q p).resetLow = p.resetLow ∧
    (orientationTold q p).resetWork = p.resetWork ∧ (orientationTold q p).partState = p.partState ∧
    (orientationTold q p).sp = p.sp ∧ (orientationTold q p).inp = p.inp ∧ (orientationTold q p).ae = p.ae ∧
    (orientationTold q p).pc = p.pc ∧ (orientationTold q p).bl = p.bl ∧ (orientationTold q p).pw = p.pw ∧
    (orientationTold q p).kt = p.kt ∧ (orientationTold q p).pn = p.pn ∧ (orientationTold q p).cc = p.cc ∧
    (orientationTold q p).rq = p.rq ∧ (orientationTold q p).sl = p.sl := by
  simp [orientationTold]

@[simp] theorem orientationSettings_frame (old : Settings) (p : Part) :
    (orientationSettings old p).tb = p.tb ∧ (orientationSettings old p).resetLow = p.resetLow ∧
    (orientationSettings old p).resetWork = p.resetWork ∧ (orientationSettings old p).partState = p.partState ∧
    (orientationSettings old p).sp = p.sp ∧ (orientationSettings old p).inp = p.inp ∧
    (orientationSettings old p).ae = p.ae ∧ (orientationSettings old p).pc = p.pc ∧
    (orientationSettings old p).bl = p.bl ∧ (orientationSettings old p).pw = p.pw ∧
    (orientationSettings old p).kt = p.kt ∧ (orientationSettings old p).pn = p.pn ∧
    (orientationSettings old p).cc = p.cc ∧ (orientationSettings old p).rq = p.rq ∧
    (orientationSettings old p).sl = p.sl := by
  simp only [orientationSettings]
  (repeat' split) <;> simp

@[simp] theorem orientationDelivery_frame (lid : Delivery) (p : Part) :
    (orientationDelivery lid p).tb = p.tb ∧ (orientationDelivery lid p).resetLow = p.resetLow ∧
    (orientationDelivery lid p).resetWork = p.resetWork ∧ (orientationDelivery lid p).partState = p.partState ∧
    (orientationDelivery lid p).sp = p.sp ∧ (orientationDelivery lid p).inp = p.inp ∧
    (orientationDelivery lid p).ae = p.ae ∧ (orientationDelivery lid p).pc = p.pc ∧
    (orientationDelivery lid p).bl = p.bl ∧ (orientationDelivery lid p).pw = p.pw ∧
    (orientationDelivery lid p).kt = p.kt ∧ (orientationDelivery lid p).pn = p.pn ∧
    (orientationDelivery lid p).cc = p.cc ∧ (orientationDelivery lid p).sa = p.sa ∧
    (orientationDelivery lid p).hp = p.hp ∧ (orientationDelivery lid p).rq = p.rq ∧
    (orientationDelivery lid p).sl = p.sl ∧ (orientationDelivery lid p).nu = p.nu := by
  simp only [orientationDelivery]
  (repeat' split) <;> simp

@[simp] theorem rotationExpired_frame (p : Part) :
    (rotationExpired p).tb = p.tb ∧ (rotationExpired p).resetLow = p.resetLow ∧
    (rotationExpired p).resetWork = p.resetWork ∧ (rotationExpired p).partState = p.partState ∧
    (rotationExpired p).sp = p.sp ∧ (rotationExpired p).inp = p.inp ∧ (rotationExpired p).ae = p.ae ∧
    (rotationExpired p).pc = p.pc ∧ (rotationExpired p).bl = p.bl ∧ (rotationExpired p).pw = p.pw ∧
    (rotationExpired p).kt = p.kt ∧ (rotationExpired p).pn = p.pn ∧ (rotationExpired p).cc = p.cc ∧
    (rotationExpired p).rq = p.rq ∧ (rotationExpired p).sl = p.sl := by
  simp only [rotationExpired]
  (repeat' split) <;> simp

@[simp] theorem decideSuppression_frame (p : Part) :
    (decideSuppression p).tb = p.tb ∧ (decideSuppression p).resetLow = p.resetLow ∧
    (decideSuppression p).resetWork = p.resetWork ∧ (decideSuppression p).partState = p.partState ∧
    (decideSuppression p).sp = p.sp ∧ (decideSuppression p).inp = p.inp ∧ (decideSuppression p).ae = p.ae ∧
    (decideSuppression p).ot = p.ot ∧ (decideSuppression p).pw = p.pw ∧ (decideSuppression p).pn = p.pn ∧
    (decideSuppression p).cc = p.cc ∧ (decideSuppression p).sa = p.sa ∧ (decideSuppression p).rq = p.rq ∧
    (decideSuppression p).sl = p.sl := by
  simp only [decideSuppression]
  (repeat' split) <;> simp

@[simp] theorem offerPosture_frame (p : Part) :
    (offerPosture p).tb = p.tb ∧ (offerPosture p).resetLow = p.resetLow ∧ (offerPosture p).resetWork = p.resetWork ∧
    (offerPosture p).partState = p.partState ∧ (offerPosture p).sp = p.sp ∧ (offerPosture p).inp = p.inp ∧
    (offerPosture p).ae = p.ae ∧ (offerPosture p).ot = p.ot ∧ (offerPosture p).bl = p.bl ∧ (offerPosture p).pw = p.pw ∧
    (offerPosture p).kt = p.kt ∧ (offerPosture p).pn = p.pn ∧ (offerPosture p).cc = p.cc ∧ (offerPosture p).sa = p.sa ∧
    (offerPosture p).rq = p.rq ∧ (offerPosture p).sl = p.sl := by
  simp [offerPosture]

@[simp] theorem tellPosture_frame (p : Part) :
    (tellPosture p).tb = p.tb ∧ (tellPosture p).resetLow = p.resetLow ∧ (tellPosture p).resetWork = p.resetWork ∧
    (tellPosture p).partState = p.partState ∧ (tellPosture p).sp = p.sp ∧ (tellPosture p).inp = p.inp ∧
    (tellPosture p).ae = p.ae ∧ (tellPosture p).pc = p.pc ∧ (tellPosture p).pw = p.pw ∧ (tellPosture p).kt = p.kt ∧
    (tellPosture p).pn = p.pn ∧ (tellPosture p).cc = p.cc ∧ (tellPosture p).rq = p.rq ∧ (tellPosture p).sl = p.sl := by
  simp only [tellPosture]
  (repeat' split) <;> simp

@[simp] theorem handOn_frame (before : Posture) (p : Part) :
    (handOn before p).tb = p.tb ∧ (handOn before p).resetLow = p.resetLow ∧ (handOn before p).resetWork = p.resetWork ∧
    (handOn before p).partState = p.partState ∧ (handOn before p).sp = p.sp ∧ (handOn before p).inp = p.inp ∧
    (handOn before p).ae = p.ae ∧ (handOn before p).pw = p.pw ∧ (handOn before p).kt = p.kt ∧
    (handOn before p).pn = p.pn ∧ (handOn before p).cc = p.cc ∧ (handOn before p).rq = p.rq ∧
    (handOn before p).sl = p.sl := by
  simp only [handOn]
  (repeat' split) <;> simp

@[simp] theorem evaluatePosture_frame (p : Part) :
    (evaluatePosture p).tb = p.tb ∧ (evaluatePosture p).resetLow = p.resetLow ∧
    (evaluatePosture p).resetWork = p.resetWork ∧ (evaluatePosture p).partState = p.partState ∧
    (evaluatePosture p).sp = p.sp ∧ (evaluatePosture p).inp = p.inp ∧ (evaluatePosture p).ae = p.ae ∧
    (evaluatePosture p).pw = p.pw ∧ (evaluatePosture p).pn = p.pn ∧ (evaluatePosture p).cc = p.cc ∧
    (evaluatePosture p).rq = p.rq ∧ (evaluatePosture p).sl = p.sl := by
  simp [evaluatePosture]

@[simp] theorem postureExpired_frame (p : Part) :
    (postureExpired p).tb = p.tb ∧ (postureExpired p).resetLow = p.resetLow ∧
    (postureExpired p).resetWork = p.resetWork ∧ (postureExpired p).partState = p.partState ∧
    (postureExpired p).sp = p.sp ∧ (postureExpired p).inp = p.inp ∧ (postureExpired p).ae = p.ae ∧
    (postureExpired p).pw = p.pw ∧ (postureExpired p).pn = p.pn ∧ (postureExpired p).cc = p.cc ∧
    (postureExpired p).rq = p.rq ∧ (postureExpired p).sl = p.sl := by
  simp [postureExpired]

@[simp] theorem postureDelivery_frame (d : StoredDelivery) (p : Part) :
    (postureDelivery d p).tb = p.tb ∧ (postureDelivery d p).resetLow = p.resetLow ∧
    (postureDelivery d p).resetWork = p.resetWork ∧ (postureDelivery d p).partState = p.partState ∧
    (postureDelivery d p).sp = p.sp ∧ (postureDelivery d p).inp = p.inp ∧ (postureDelivery d p).ae = p.ae ∧
    (postureDelivery d p).pw = p.pw ∧ (postureDelivery d p).pn = p.pn ∧ (postureDelivery d p).cc = p.cc ∧
    (postureDelivery d p).rq = p.rq ∧ (postureDelivery d p).sl = p.sl := by
  simp [postureDelivery]

@[simp] theorem postureSettings_frame (old : Settings) (p : Part) :
    (postureSettings old p).tb = p.tb ∧ (postureSettings old p).resetLow = p.resetLow ∧
    (postureSettings old p).resetWork = p.resetWork ∧ (postureSettings old p).partState = p.partState ∧
    (postureSettings old p).sp = p.sp ∧ (postureSettings old p).inp = p.inp ∧ (postureSettings old p).ae = p.ae ∧
    (postureSettings old p).pw = p.pw ∧ (postureSettings old p).pn = p.pn ∧ (postureSettings old p).cc = p.cc ∧
    (postureSettings old p).rq = p.rq ∧ (postureSettings old p).sl = p.sl := by
  simp only [postureSettings]
  (repeat' split) <;> simp

@[simp] theorem askWake_frame (p : Part) :
    (askWake p).tb = p.tb ∧ (askWake p).resetLow = p.resetLow ∧ (askWake p).resetWork = p.resetWork ∧
    (askWake p).partState = p.partState ∧ (askWake p).sp = p.sp ∧ (askWake p).inp = p.inp ∧ (askWake p).ae = p.ae ∧
    (askWake p).pc = p.pc ∧ (askWake p).ot = p.ot ∧ (askWake p).kt = p.kt ∧ (askWake p).pn = p.pn ∧
    (askWake p).cc = p.cc ∧ (askWake p).sa = p.sa ∧ (askWake p).hp = p.hp ∧ (askWake p).rq = p.rq ∧
    (askWake p).sl = p.sl ∧ (askWake p).nu = p.nu := by
  simp only [askWake]
  (repeat' split) <;> simp

@[simp] theorem startWalk_frame (w : Walk) (e : Option WalkEnd) (p : Part) :
    (startWalk w e p).tb = p.tb ∧ (startWalk w e p).resetLow = p.resetLow ∧ (startWalk w e p).resetWork = p.resetWork ∧
    (startWalk w e p).partState = p.partState ∧ (startWalk w e p).sp = p.sp ∧ (startWalk w e p).inp = p.inp ∧
    (startWalk w e p).ae = p.ae ∧ (startWalk w e p).pc = p.pc ∧ (startWalk w e p).ot = p.ot ∧ (startWalk w e p).bl = p.bl ∧
    (startWalk w e p).kt = p.kt ∧ (startWalk w e p).pn = p.pn ∧ (startWalk w e p).cc = p.cc ∧ (startWalk w e p).sa = p.sa ∧
    (startWalk w e p).rq = p.rq ∧ (startWalk w e p).sl = p.sl ∧ (startWalk w e p).nu = p.nu := by
  simp [startWalk]

@[simp] theorem startWalk_pw (w : Walk) (e : Option WalkEnd) (p : Part) :
    (startWalk w e p).pw = { p.pw with walk := w, op := .snapshot, ending := e, snapshot := none } := by
  simp [startWalk]

@[simp] theorem startWaiting_frame (p : Part) :
    (startWaiting p).tb = p.tb ∧ (startWaiting p).resetLow = p.resetLow ∧ (startWaiting p).resetWork = p.resetWork ∧
    (startWaiting p).partState = p.partState ∧ (startWaiting p).sp = p.sp ∧ (startWaiting p).inp = p.inp ∧
    (startWaiting p).ae = p.ae ∧ (startWaiting p).pc = p.pc ∧ (startWaiting p).ot = p.ot ∧ (startWaiting p).bl = p.bl ∧
    (startWaiting p).kt = p.kt ∧ (startWaiting p).pn = p.pn ∧ (startWaiting p).cc = p.cc ∧ (startWaiting p).sa = p.sa ∧
    (startWaiting p).rq = p.rq ∧ (startWaiting p).sl = p.sl ∧ (startWaiting p).nu = p.nu := by
  simp only [startWaiting]
  split <;> simp

@[simp] theorem startResultWrite_frame (e : WalkEnd) (p : Part) :
    (startResultWrite e p).tb = p.tb ∧ (startResultWrite e p).resetLow = p.resetLow ∧
    (startResultWrite e p).resetWork = p.resetWork ∧ (startResultWrite e p).partState = p.partState ∧
    (startResultWrite e p).sp = p.sp ∧ (startResultWrite e p).inp = p.inp ∧ (startResultWrite e p).ae = p.ae ∧
    (startResultWrite e p).pc = p.pc ∧ (startResultWrite e p).ot = p.ot ∧ (startResultWrite e p).bl = p.bl ∧
    (startResultWrite e p).kt = p.kt ∧ (startResultWrite e p).pn = p.pn ∧ (startResultWrite e p).cc = p.cc ∧
    (startResultWrite e p).sa = p.sa ∧ (startResultWrite e p).rq = p.rq ∧ (startResultWrite e p).sl = p.sl ∧
    (startResultWrite e p).nu = p.nu := by
  simp [startResultWrite]

@[simp] theorem submit_frame (origin : Origin) (op : AttrOp) (p : Part) :
    (submit origin op p).tb = p.tb ∧ (submit origin op p).resetLow = p.resetLow ∧
    (submit origin op p).resetWork = p.resetWork ∧ (submit origin op p).partState = p.partState ∧
    (submit origin op p).sp = p.sp ∧ (submit origin op p).inp = p.inp ∧ (submit origin op p).ae = p.ae ∧
    (submit origin op p).pc = p.pc ∧ (submit origin op p).ot = p.ot ∧ (submit origin op p).kt = p.kt ∧
    (submit origin op p).pn = p.pn ∧ (submit origin op p).cc = p.cc ∧ (submit origin op p).sa = p.sa ∧
    (submit origin op p).hp = p.hp ∧ (submit origin op p).rq = p.rq ∧ (submit origin op p).sl = p.sl ∧
    (submit origin op p).nu = p.nu := by
  simp [submit]

@[simp] theorem applyLink_frame (id value : Nat) (p : Part) :
    (applyLink id value p).tb = p.tb ∧ (applyLink id value p).resetLow = p.resetLow ∧
    (applyLink id value p).resetWork = p.resetWork ∧ (applyLink id value p).partState = p.partState ∧
    (applyLink id value p).sp = p.sp ∧ (applyLink id value p).inp = p.inp ∧ (applyLink id value p).ae = p.ae ∧
    (applyLink id value p).pc = p.pc ∧ (applyLink id value p).ot = p.ot ∧ (applyLink id value p).kt = p.kt ∧
    (applyLink id value p).pn = p.pn ∧ (applyLink id value p).cc = p.cc ∧ (applyLink id value p).sa = p.sa ∧
    (applyLink id value p).hp = p.hp ∧ (applyLink id value p).rq = p.rq ∧ (applyLink id value p).sl = p.sl ∧
    (applyLink id value p).nu = p.nu := by
  simp only [applyLink]
  (repeat' split) <;> simp

@[simp] theorem visit_frame (es : List (Word × Word)) (p : Part) :
    (visit es p).tb = p.tb ∧ (visit es p).resetLow = p.resetLow ∧ (visit es p).resetWork = p.resetWork ∧
    (visit es p).partState = p.partState ∧ (visit es p).sp = p.sp ∧ (visit es p).inp = p.inp ∧ (visit es p).ae = p.ae ∧
    (visit es p).pc = p.pc ∧ (visit es p).ot = p.ot ∧ (visit es p).kt = p.kt ∧ (visit es p).pn = p.pn ∧
    (visit es p).cc = p.cc ∧ (visit es p).sa = p.sa ∧ (visit es p).rq = p.rq ∧ (visit es p).sl = p.sl ∧
    (visit es p).nu = p.nu := by
  induction es generalizing p with
  | nil => simp [visit]
  | cons e es ih =>
    simp only [visit]
    split <;> simp [ih]

@[simp] theorem continueWalk_frame (p : Part) :
    (continueWalk p).tb = p.tb ∧ (continueWalk p).resetLow = p.resetLow ∧ (continueWalk p).resetWork = p.resetWork ∧
    (continueWalk p).partState = p.partState ∧ (continueWalk p).sp = p.sp ∧ (continueWalk p).inp = p.inp ∧
    (continueWalk p).ae = p.ae ∧ (continueWalk p).pc = p.pc ∧ (continueWalk p).ot = p.ot ∧ (continueWalk p).kt = p.kt ∧
    (continueWalk p).pn = p.pn ∧ (continueWalk p).cc = p.cc ∧ (continueWalk p).sa = p.sa ∧ (continueWalk p).rq = p.rq ∧
    (continueWalk p).sl = p.sl ∧ (continueWalk p).nu = p.nu := by
  simp only [continueWalk]
  (repeat' split) <;> simp

@[simp] theorem snapshotTaken_frame (entries : List (Word × Word)) (p : Part) :
    (snapshotTaken entries p).tb = p.tb ∧ (snapshotTaken entries p).resetLow = p.resetLow ∧
    (snapshotTaken entries p).resetWork = p.resetWork ∧ (snapshotTaken entries p).partState = p.partState ∧
    (snapshotTaken entries p).sp = p.sp ∧ (snapshotTaken entries p).inp = p.inp ∧ (snapshotTaken entries p).ae = p.ae ∧
    (snapshotTaken entries p).pc = p.pc ∧ (snapshotTaken entries p).ot = p.ot ∧ (snapshotTaken entries p).kt = p.kt ∧
    (snapshotTaken entries p).pn = p.pn ∧ (snapshotTaken entries p).cc = p.cc ∧ (snapshotTaken entries p).sa = p.sa ∧
    (snapshotTaken entries p).rq = p.rq ∧ (snapshotTaken entries p).sl = p.sl ∧ (snapshotTaken entries p).nu = p.nu := by
  simp only [snapshotTaken]
  (repeat' split) <;> simp

@[simp] theorem runRequest_frame (r : Request) (p : Part) :
    (runRequest r p).tb = p.tb ∧ (runRequest r p).resetLow = p.resetLow ∧ (runRequest r p).resetWork = p.resetWork ∧
    (runRequest r p).partState = p.partState ∧ (runRequest r p).sp = p.sp ∧ (runRequest r p).inp = p.inp ∧
    (runRequest r p).ae = p.ae ∧ (runRequest r p).pc = p.pc ∧ (runRequest r p).ot = p.ot ∧ (runRequest r p).kt = p.kt ∧
    (runRequest r p).pn = p.pn ∧ (runRequest r p).cc = p.cc ∧ (runRequest r p).sa = p.sa ∧ (runRequest r p).rq = p.rq ∧
    (runRequest r p).sl = p.sl ∧ (runRequest r p).nu = p.nu := by
  simp only [runRequest]
  (repeat' split) <;> simp

@[simp] theorem waitRequest_frame (r : Request) (p : Part) :
    (waitRequest r p).tb = p.tb ∧ (waitRequest r p).resetLow = p.resetLow ∧ (waitRequest r p).resetWork = p.resetWork ∧
    (waitRequest r p).partState = p.partState ∧ (waitRequest r p).sp = p.sp ∧ (waitRequest r p).inp = p.inp ∧
    (waitRequest r p).ae = p.ae ∧ (waitRequest r p).pc = p.pc ∧ (waitRequest r p).ot = p.ot ∧
    (waitRequest r p).kt = p.kt ∧ (waitRequest r p).pn = p.pn ∧ (waitRequest r p).cc = p.cc ∧
    (waitRequest r p).sa = p.sa ∧ (waitRequest r p).hp = p.hp ∧ (waitRequest r p).rq = p.rq ∧
    (waitRequest r p).sl = p.sl ∧ (waitRequest r p).nu = p.nu := by
  simp [waitRequest]

@[simp] theorem takeRequests_frame (rs : List Request) (p : Part) :
    (takeRequests rs p).tb = p.tb ∧ (takeRequests rs p).resetLow = p.resetLow ∧
    (takeRequests rs p).resetWork = p.resetWork ∧ (takeRequests rs p).partState = p.partState ∧
    (takeRequests rs p).sp = p.sp ∧ (takeRequests rs p).inp = p.inp ∧ (takeRequests rs p).ae = p.ae ∧
    (takeRequests rs p).pc = p.pc ∧ (takeRequests rs p).ot = p.ot ∧ (takeRequests rs p).kt = p.kt ∧
    (takeRequests rs p).pn = p.pn ∧ (takeRequests rs p).cc = p.cc ∧ (takeRequests rs p).sa = p.sa ∧
    (takeRequests rs p).sl = p.sl ∧ (takeRequests rs p).nu = p.nu := by
  induction rs generalizing p with
  | nil => simp [takeRequests]
  | cons r rs ih =>
    simp only [takeRequests]
    (repeat' split) <;> simp [ih]

@[simp] theorem takeNext_frame (p : Part) :
    (takeNext p).tb = p.tb ∧ (takeNext p).resetLow = p.resetLow ∧ (takeNext p).resetWork = p.resetWork ∧
    (takeNext p).partState = p.partState ∧ (takeNext p).sp = p.sp ∧ (takeNext p).inp = p.inp ∧ (takeNext p).ae = p.ae ∧
    (takeNext p).pc = p.pc ∧ (takeNext p).ot = p.ot ∧ (takeNext p).kt = p.kt ∧ (takeNext p).pn = p.pn ∧
    (takeNext p).cc = p.cc ∧ (takeNext p).sa = p.sa ∧ (takeNext p).sl = p.sl ∧ (takeNext p).nu = p.nu := by
  simp only [takeNext]
  (repeat' split) <;> simp

@[simp] theorem finishRequest_frame (f : Part → Part) (p : Part) :
    (finishRequest f p).tb = (f { p with pw := { p.pw with current := none } }).tb ∧
    (finishRequest f p).resetLow = (f { p with pw := { p.pw with current := none } }).resetLow ∧
    (finishRequest f p).resetWork = (f { p with pw := { p.pw with current := none } }).resetWork ∧
    (finishRequest f p).partState = (f { p with pw := { p.pw with current := none } }).partState ∧
    (finishRequest f p).sp = (f { p with pw := { p.pw with current := none } }).sp ∧
    (finishRequest f p).inp = (f { p with pw := { p.pw with current := none } }).inp ∧
    (finishRequest f p).ae = (f { p with pw := { p.pw with current := none } }).ae ∧
    (finishRequest f p).pc = (f { p with pw := { p.pw with current := none } }).pc ∧
    (finishRequest f p).ot = (f { p with pw := { p.pw with current := none } }).ot ∧
    (finishRequest f p).kt = (f { p with pw := { p.pw with current := none } }).kt ∧
    (finishRequest f p).pn = (f { p with pw := { p.pw with current := none } }).pn ∧
    (finishRequest f p).cc = (f { p with pw := { p.pw with current := none } }).cc ∧
    (finishRequest f p).sa = (f { p with pw := { p.pw with current := none } }).sa ∧
    (finishRequest f p).sl = (f { p with pw := { p.pw with current := none } }).sl ∧
    (finishRequest f p).nu = (f { p with pw := { p.pw with current := none } }).nu := by
  simp [finishRequest]

@[simp] theorem replyTold_frame (ok : Bool) (value : Byte) (p : Part) :
    (replyTold ok value p).tb = p.tb ∧ (replyTold ok value p).resetLow = p.resetLow ∧
    (replyTold ok value p).resetWork = p.resetWork ∧ (replyTold ok value p).partState = p.partState ∧
    (replyTold ok value p).sp = p.sp ∧ (replyTold ok value p).inp = p.inp ∧ (replyTold ok value p).ae = p.ae ∧
    (replyTold ok value p).pc = p.pc ∧ (replyTold ok value p).ot = p.ot ∧ (replyTold ok value p).kt = p.kt ∧
    (replyTold ok value p).pn = p.pn ∧ (replyTold ok value p).cc = p.cc ∧ (replyTold ok value p).sa = p.sa ∧
    (replyTold ok value p).sl = p.sl ∧ (replyTold ok value p).nu = p.nu := by
  simp only [replyTold]
  (repeat' split) <;> simp

@[simp] theorem unansweredTold_frame (p : Part) :
    (unansweredTold p).tb = p.tb ∧ (unansweredTold p).resetLow = p.resetLow ∧
    (unansweredTold p).resetWork = p.resetWork ∧ (unansweredTold p).partState = p.partState ∧
    (unansweredTold p).sp = p.sp ∧ (unansweredTold p).inp = p.inp ∧ (unansweredTold p).ae = p.ae ∧
    (unansweredTold p).pc = p.pc ∧ (unansweredTold p).ot = p.ot ∧ (unansweredTold p).bl = p.bl ∧
    (unansweredTold p).kt = p.kt ∧ (unansweredTold p).pn = p.pn ∧ (unansweredTold p).cc = p.cc ∧
    (unansweredTold p).sa = p.sa ∧ (unansweredTold p).sl = p.sl ∧ (unansweredTold p).nu = p.nu := by
  simp only [unansweredTold]
  (repeat' split) <;> simp

@[simp] theorem abandonedTold_frame (gone : Bool) (p : Part) :
    (abandonedTold gone p).tb = p.tb ∧ (abandonedTold gone p).resetLow = p.resetLow ∧
    (abandonedTold gone p).resetWork = p.resetWork ∧ (abandonedTold gone p).partState = p.partState ∧
    (abandonedTold gone p).sp = p.sp ∧ (abandonedTold gone p).inp = p.inp ∧ (abandonedTold gone p).ae = p.ae ∧
    (abandonedTold gone p).pc = p.pc ∧ (abandonedTold gone p).ot = p.ot ∧ (abandonedTold gone p).bl = p.bl ∧
    (abandonedTold gone p).kt = p.kt ∧ (abandonedTold gone p).pn = p.pn ∧ (abandonedTold gone p).cc = p.cc ∧
    (abandonedTold gone p).sa = p.sa ∧ (abandonedTold gone p).sl = p.sl ∧ (abandonedTold gone p).nu = p.nu := by
  simp only [abandonedTold]
  (repeat' split) <;> simp

@[simp] theorem endWalk_frame (p : Part) :
    (endWalk p).tb = p.tb ∧ (endWalk p).resetLow = p.resetLow ∧ (endWalk p).resetWork = p.resetWork ∧
    (endWalk p).partState = p.partState ∧ (endWalk p).sp = p.sp ∧ (endWalk p).inp = p.inp ∧ (endWalk p).ae = p.ae ∧
    (endWalk p).pc = p.pc ∧ (endWalk p).ot = p.ot ∧ (endWalk p).bl = p.bl ∧ (endWalk p).kt = p.kt ∧
    (endWalk p).pn = p.pn ∧ (endWalk p).cc = p.cc ∧ (endWalk p).sa = p.sa ∧ (endWalk p).rq = p.rq ∧
    (endWalk p).sl = p.sl ∧ (endWalk p).nu = p.nu := by
  simp only [endWalk]
  (repeat' split) <;> simp

@[simp] theorem failRequest_frame (p : Part) :
    (failRequest p).tb = p.tb ∧ (failRequest p).resetLow = p.resetLow ∧ (failRequest p).resetWork = p.resetWork ∧
    (failRequest p).partState = p.partState ∧ (failRequest p).sp = p.sp ∧ (failRequest p).inp = p.inp ∧
    (failRequest p).ae = p.ae ∧ (failRequest p).pc = p.pc ∧ (failRequest p).ot = p.ot ∧ (failRequest p).kt = p.kt ∧
    (failRequest p).pn = p.pn ∧ (failRequest p).cc = p.cc ∧ (failRequest p).sa = p.sa ∧ (failRequest p).sl = p.sl ∧
    (failRequest p).nu = p.nu := by
  simp only [failRequest]
  (repeat' split) <;> simp

@[simp] theorem beginAttach_frame (p : Part) :
    (beginAttach p).tb = p.tb ∧ (beginAttach p).resetLow = p.resetLow ∧ (beginAttach p).resetWork = p.resetWork ∧
    (beginAttach p).partState = p.partState ∧ (beginAttach p).sp = p.sp ∧ (beginAttach p).inp = p.inp ∧
    (beginAttach p).ae = p.ae ∧ (beginAttach p).pc = p.pc ∧ (beginAttach p).ot = p.ot ∧ (beginAttach p).bl = p.bl ∧
    (beginAttach p).kt = p.kt ∧ (beginAttach p).pn = p.pn ∧ (beginAttach p).cc = p.cc ∧ (beginAttach p).sa = p.sa ∧
    (beginAttach p).rq = p.rq ∧ (beginAttach p).sl = p.sl ∧ (beginAttach p).nu = p.nu := by
  simp only [beginAttach]
  (repeat' split) <;> simp

@[simp] theorem runWaiting_frame (p : Part) :
    (runWaiting p).tb = p.tb ∧ (runWaiting p).resetLow = p.resetLow ∧ (runWaiting p).resetWork = p.resetWork ∧
    (runWaiting p).partState = p.partState ∧ (runWaiting p).sp = p.sp ∧ (runWaiting p).inp = p.inp ∧
    (runWaiting p).ae = p.ae ∧ (runWaiting p).pc = p.pc ∧ (runWaiting p).ot = p.ot ∧ (runWaiting p).kt = p.kt ∧
    (runWaiting p).pn = p.pn ∧ (runWaiting p).cc = p.cc ∧ (runWaiting p).sa = p.sa ∧ (runWaiting p).rq = p.rq ∧
    (runWaiting p).sl = p.sl ∧ (runWaiting p).nu = p.nu := by
  simp only [runWaiting]
  (repeat' split) <;> simp

@[simp] theorem linkToldProfile_frame (old new : Link) (p : Part) :
    (linkToldProfile old new p).tb = p.tb ∧ (linkToldProfile old new p).resetLow = p.resetLow ∧
    (linkToldProfile old new p).resetWork = p.resetWork ∧ (linkToldProfile old new p).partState = p.partState ∧
    (linkToldProfile old new p).sp = p.sp ∧ (linkToldProfile old new p).inp = p.inp ∧
    (linkToldProfile old new p).ae = p.ae ∧ (linkToldProfile old new p).pc = p.pc ∧
    (linkToldProfile old new p).ot = p.ot ∧ (linkToldProfile old new p).kt = p.kt ∧
    (linkToldProfile old new p).pn = p.pn ∧ (linkToldProfile old new p).cc = p.cc ∧
    (linkToldProfile old new p).sa = p.sa ∧ (linkToldProfile old new p).sl = p.sl ∧
    (linkToldProfile old new p).nu = p.nu := by
  simp only [linkToldProfile]
  (repeat' split) <;> simp

@[simp] theorem finishReload_frame (e : WalkEnd) (c : WalkCounts) (p : Part) :
    (finishReload e c p).tb = p.tb ∧ (finishReload e c p).resetLow = p.resetLow ∧
    (finishReload e c p).resetWork = p.resetWork ∧ (finishReload e c p).partState = p.partState ∧
    (finishReload e c p).sp = p.sp ∧ (finishReload e c p).inp = p.inp ∧ (finishReload e c p).ae = p.ae ∧
    (finishReload e c p).pc = p.pc ∧ (finishReload e c p).ot = p.ot ∧ (finishReload e c p).kt = p.kt ∧
    (finishReload e c p).pn = p.pn ∧ (finishReload e c p).cc = p.cc ∧ (finishReload e c p).sa = p.sa ∧
    (finishReload e c p).sl = p.sl ∧ (finishReload e c p).nu = p.nu := by
  simp only [finishReload]
  (repeat' split) <;> simp

@[simp] theorem reportComplete_frame (e : WalkEnd) (w : Walk) (next : List (Option WalkEnd)) (p : Part) :
    (reportComplete e w next p).tb = p.tb ∧ (reportComplete e w next p).resetLow = p.resetLow ∧
    (reportComplete e w next p).resetWork = p.resetWork ∧ (reportComplete e w next p).partState = p.partState ∧
    (reportComplete e w next p).sp = p.sp ∧ (reportComplete e w next p).inp = p.inp ∧
    (reportComplete e w next p).ae = p.ae ∧ (reportComplete e w next p).pc = p.pc ∧
    (reportComplete e w next p).ot = p.ot ∧ (reportComplete e w next p).pw = p.pw ∧
    (reportComplete e w next p).kt = p.kt ∧ (reportComplete e w next p).pn = p.pn ∧
    (reportComplete e w next p).cc = p.cc ∧ (reportComplete e w next p).sa = p.sa ∧
    (reportComplete e w next p).hp = p.hp ∧ (reportComplete e w next p).rq = p.rq ∧
    (reportComplete e w next p).sl = p.sl ∧ (reportComplete e w next p).nu = p.nu := by
  simp only [reportComplete]
  (repeat' split) <;> simp

@[simp] theorem runIfLive_frame (p : Part) :
    (resultsWritten.runIfLive p).tb = p.tb ∧
    (resultsWritten.runIfLive p).resetLow = p.resetLow ∧
    (resultsWritten.runIfLive p).resetWork = p.resetWork ∧
    (resultsWritten.runIfLive p).partState = p.partState ∧
    (resultsWritten.runIfLive p).sp = p.sp ∧
    (resultsWritten.runIfLive p).inp = p.inp ∧
    (resultsWritten.runIfLive p).ae = p.ae ∧
    (resultsWritten.runIfLive p).pc = p.pc ∧
    (resultsWritten.runIfLive p).ot = p.ot ∧
    (resultsWritten.runIfLive p).kt = p.kt ∧
    (resultsWritten.runIfLive p).pn = p.pn ∧
    (resultsWritten.runIfLive p).cc = p.cc ∧
    (resultsWritten.runIfLive p).sa = p.sa ∧
    (resultsWritten.runIfLive p).rq = p.rq ∧
    (resultsWritten.runIfLive p).sl = p.sl ∧
    (resultsWritten.runIfLive p).nu = p.nu := by
  simp only [resultsWritten.runIfLive]
  split <;> simp

@[simp] theorem resultsWritten_frame (e : WalkEnd) (p : Part) :
    (resultsWritten e p).tb = p.tb ∧ (resultsWritten e p).resetLow = p.resetLow ∧
    (resultsWritten e p).resetWork = p.resetWork ∧ (resultsWritten e p).partState = p.partState ∧
    (resultsWritten e p).sp = p.sp ∧ (resultsWritten e p).inp = p.inp ∧ (resultsWritten e p).ae = p.ae ∧
    (resultsWritten e p).pc = p.pc ∧ (resultsWritten e p).ot = p.ot ∧ (resultsWritten e p).kt = p.kt ∧
    (resultsWritten e p).pn = p.pn ∧ (resultsWritten e p).cc = p.cc ∧ (resultsWritten e p).sa = p.sa ∧
    (resultsWritten e p).sl = p.sl := by
  simp [resultsWritten]

@[simp] theorem enterLink_frame (new : Link) (p : Part) :
    (enterLink new p).tb = p.tb ∧ (enterLink new p).resetLow = p.resetLow ∧ (enterLink new p).resetWork = p.resetWork ∧
    (enterLink new p).partState = p.partState ∧ (enterLink new p).sp = p.sp ∧ (enterLink new p).inp = p.inp ∧
    (enterLink new p).ae = p.ae ∧ (enterLink new p).pn = p.pn ∧ (enterLink new p).cc = p.cc ∧
    (enterLink new p).sl = p.sl := by
  simp [enterLink]

@[simp] theorem emptyQueue_frame (gone : Bool) (p : Part) :
    (emptyQueue gone p).tb = p.tb ∧ (emptyQueue gone p).resetLow = p.resetLow ∧
    (emptyQueue gone p).resetWork = p.resetWork ∧ (emptyQueue gone p).partState = p.partState ∧
    (emptyQueue gone p).sp = p.sp ∧ (emptyQueue gone p).inp = p.inp ∧ (emptyQueue gone p).ae = p.ae ∧
    (emptyQueue gone p).pc = p.pc ∧ (emptyQueue gone p).ot = p.ot ∧ (emptyQueue gone p).kt = p.kt ∧
    (emptyQueue gone p).pn = p.pn ∧ (emptyQueue gone p).cc = p.cc ∧ (emptyQueue gone p).sa = p.sa ∧
    (emptyQueue gone p).sl = p.sl ∧ (emptyQueue gone p).nu = p.nu := by
  simp only [emptyQueue]
  (repeat' split) <;> simp

@[simp] theorem endExchange_frame (p : Part) :
    (endExchange p).tb = p.tb ∧ (endExchange p).resetLow = p.resetLow ∧ (endExchange p).resetWork = p.resetWork ∧
    (endExchange p).partState = p.partState ∧ (endExchange p).sp = p.sp ∧ (endExchange p).inp = p.inp ∧
    (endExchange p).ae = p.ae ∧ (endExchange p).pc = p.pc ∧ (endExchange p).ot = p.ot ∧ (endExchange p).pw = p.pw ∧
    (endExchange p).kt = p.kt ∧ (endExchange p).pn = p.pn ∧ (endExchange p).cc = p.cc ∧ (endExchange p).sa = p.sa ∧
    (endExchange p).hp = p.hp ∧ (endExchange p).rq = p.rq ∧ (endExchange p).sl = p.sl ∧ (endExchange p).nu = p.nu := by
  simp [endExchange]

@[simp] theorem clearLinkFault_frame (p : Part) :
    (clearLinkFault p).tb = p.tb ∧ (clearLinkFault p).resetLow = p.resetLow ∧
    (clearLinkFault p).resetWork = p.resetWork ∧ (clearLinkFault p).partState = p.partState ∧
    (clearLinkFault p).sp = p.sp ∧ (clearLinkFault p).inp = p.inp ∧ (clearLinkFault p).ae = p.ae ∧
    (clearLinkFault p).pc = p.pc ∧ (clearLinkFault p).ot = p.ot ∧ (clearLinkFault p).bl = p.bl ∧
    (clearLinkFault p).pw = p.pw ∧ (clearLinkFault p).kt = p.kt ∧ (clearLinkFault p).pn = p.pn ∧
    (clearLinkFault p).cc = p.cc ∧ (clearLinkFault p).sa = p.sa ∧ (clearLinkFault p).rq = p.rq ∧
    (clearLinkFault p).sl = p.sl := by
  simp only [clearLinkFault]
  (repeat' split) <;> simp

@[simp] theorem enterPowering_frame (e : BaseEvent) (p : Part) :
    (enterPowering e p).tb = p.tb ∧ (enterPowering e p).resetLow = p.resetLow ∧
    (enterPowering e p).resetWork = p.resetWork ∧ (enterPowering e p).partState = p.partState ∧
    (enterPowering e p).sp = p.sp ∧ (enterPowering e p).inp = p.inp ∧ (enterPowering e p).ae = p.ae ∧
    (enterPowering e p).pn = p.pn ∧ (enterPowering e p).sl = p.sl := by
  simp [enterPowering]

@[simp] theorem enterResetting_frame (p : Part) :
    (enterResetting p).tb = p.tb ∧ (enterResetting p).resetLow = p.resetLow ∧
    (enterResetting p).resetWork = p.resetWork ∧ (enterResetting p).partState = p.partState ∧
    (enterResetting p).sp = p.sp ∧ (enterResetting p).inp = p.inp ∧ (enterResetting p).ae = p.ae ∧
    (enterResetting p).pn = p.pn ∧ (enterResetting p).cc = p.cc ∧ (enterResetting p).sl = p.sl := by
  simp [enterResetting]

@[simp] theorem enterStopped_frame (new : Link) (f : FaultName) (e : BaseEvent) (p : Part) :
    (enterStopped new f e p).tb = p.tb ∧ (enterStopped new f e p).resetLow = p.resetLow ∧
    (enterStopped new f e p).resetWork = p.resetWork ∧ (enterStopped new f e p).partState = p.partState ∧
    (enterStopped new f e p).sp = p.sp ∧ (enterStopped new f e p).inp = p.inp ∧ (enterStopped new f e p).ae = p.ae ∧
    (enterStopped new f e p).pn = p.pn ∧ (enterStopped new f e p).sl = p.sl := by
  simp [enterStopped]

@[simp] theorem enterFault_frame (p : Part) :
    (enterFault p).tb = p.tb ∧ (enterFault p).resetLow = p.resetLow ∧ (enterFault p).resetWork = p.resetWork ∧
    (enterFault p).partState = p.partState ∧ (enterFault p).sp = p.sp ∧ (enterFault p).inp = p.inp ∧
    (enterFault p).ae = p.ae ∧ (enterFault p).pn = p.pn ∧ (enterFault p).sl = p.sl := by
  simp [enterFault]

@[simp] theorem enterRefused_frame (p : Part) :
    (enterRefused p).tb = p.tb ∧ (enterRefused p).resetLow = p.resetLow ∧ (enterRefused p).resetWork = p.resetWork ∧
    (enterRefused p).partState = p.partState ∧ (enterRefused p).sp = p.sp ∧ (enterRefused p).inp = p.inp ∧
    (enterRefused p).ae = p.ae ∧ (enterRefused p).pn = p.pn ∧ (enterRefused p).sl = p.sl := by
  simp [enterRefused]

@[simp] theorem enterDetached_frame (p : Part) :
    (enterDetached p).tb = p.tb ∧ (enterDetached p).resetLow = p.resetLow ∧ (enterDetached p).resetWork = p.resetWork ∧
    (enterDetached p).partState = p.partState ∧ (enterDetached p).sp = p.sp ∧ (enterDetached p).inp = p.inp ∧
    (enterDetached p).ae = p.ae ∧ (enterDetached p).pn = p.pn ∧ (enterDetached p).sl = p.sl := by
  simp [enterDetached]

@[simp] theorem enterStall_frame (p : Part) :
    (enterStall p).tb = p.tb ∧ (enterStall p).resetLow = p.resetLow ∧ (enterStall p).resetWork = p.resetWork ∧
    (enterStall p).partState = p.partState ∧ (enterStall p).sp = p.sp ∧ (enterStall p).inp = p.inp ∧
    (enterStall p).ae = p.ae ∧ (enterStall p).pn = p.pn ∧ (enterStall p).cc = p.cc ∧ (enterStall p).sl = p.sl := by
  simp [enterStall]

@[simp] theorem leaveStall_frame (p : Part) :
    (leaveStall p).tb = p.tb ∧ (leaveStall p).resetLow = p.resetLow ∧ (leaveStall p).resetWork = p.resetWork ∧
    (leaveStall p).partState = p.partState ∧ (leaveStall p).sp = p.sp ∧ (leaveStall p).inp = p.inp ∧
    (leaveStall p).ae = p.ae ∧ (leaveStall p).pn = p.pn ∧ (leaveStall p).cc = p.cc ∧ (leaveStall p).sl = p.sl := by
  simp [leaveStall]

@[simp] theorem stallIfOrdered_frame (m : LinkMode) (p : Part) :
    (stallIfOrdered m p).tb = p.tb ∧ (stallIfOrdered m p).resetLow = p.resetLow ∧
    (stallIfOrdered m p).resetWork = p.resetWork ∧ (stallIfOrdered m p).partState = p.partState ∧
    (stallIfOrdered m p).sp = p.sp ∧ (stallIfOrdered m p).inp = p.inp ∧ (stallIfOrdered m p).ae = p.ae ∧
    (stallIfOrdered m p).pn = p.pn ∧ (stallIfOrdered m p).cc = p.cc ∧ (stallIfOrdered m p).sl = p.sl := by
  simp only [stallIfOrdered]
  (repeat' split) <;> simp

@[simp] theorem enterActive_frame (p : Part) :
    (enterActive p).tb = p.tb ∧ (enterActive p).resetLow = p.resetLow ∧ (enterActive p).resetWork = p.resetWork ∧
    (enterActive p).partState = p.partState ∧ (enterActive p).sp = p.sp ∧ (enterActive p).inp = p.inp ∧
    (enterActive p).ae = p.ae ∧ (enterActive p).pn = p.pn ∧ (enterActive p).cc = p.cc ∧ (enterActive p).sl = p.sl := by
  simp [enterActive]

@[simp] theorem enterHibernate_frame (p : Part) :
    (enterHibernate p).tb = p.tb ∧ (enterHibernate p).resetLow = p.resetLow ∧
    (enterHibernate p).resetWork = p.resetWork ∧ (enterHibernate p).partState = p.partState ∧
    (enterHibernate p).sp = p.sp ∧ (enterHibernate p).inp = p.inp ∧ (enterHibernate p).ae = p.ae ∧
    (enterHibernate p).pn = p.pn ∧ (enterHibernate p).cc = p.cc ∧ (enterHibernate p).sl = p.sl := by
  simp [enterHibernate]

@[simp] theorem enterWaking_frame (p : Part) :
    (enterWaking p).tb = p.tb ∧ (enterWaking p).resetLow = p.resetLow ∧ (enterWaking p).resetWork = p.resetWork ∧
    (enterWaking p).partState = p.partState ∧ (enterWaking p).sp = p.sp ∧ (enterWaking p).inp = p.inp ∧
    (enterWaking p).ae = p.ae ∧ (enterWaking p).pn = p.pn ∧ (enterWaking p).cc = p.cc ∧ (enterWaking p).sl = p.sl := by
  simp [enterWaking]

@[simp] theorem enterReprofiling_frame (p : Part) :
    (enterReprofiling p).tb = p.tb ∧ (enterReprofiling p).resetLow = p.resetLow ∧
    (enterReprofiling p).resetWork = p.resetWork ∧ (enterReprofiling p).partState = p.partState ∧
    (enterReprofiling p).sp = p.sp ∧ (enterReprofiling p).inp = p.inp ∧ (enterReprofiling p).ae = p.ae ∧
    (enterReprofiling p).pn = p.pn ∧ (enterReprofiling p).cc = p.cc ∧ (enterReprofiling p).sl = p.sl := by
  simp only [enterReprofiling]
  (repeat' split) <;> simp

@[simp] theorem wakeIfPending_frame (p : Part) :
    (wakeIfPending p).tb = p.tb ∧ (wakeIfPending p).resetLow = p.resetLow ∧ (wakeIfPending p).resetWork = p.resetWork ∧
    (wakeIfPending p).partState = p.partState ∧ (wakeIfPending p).sp = p.sp ∧ (wakeIfPending p).inp = p.inp ∧
    (wakeIfPending p).ae = p.ae ∧ (wakeIfPending p).pn = p.pn ∧ (wakeIfPending p).cc = p.cc ∧
    (wakeIfPending p).sl = p.sl := by
  simp only [wakeIfPending]
  (repeat' split) <;> simp

@[simp] theorem rouseIfQueued_frame (p : Part) :
    (rouseIfQueued p).tb = p.tb ∧ (rouseIfQueued p).resetLow = p.resetLow ∧ (rouseIfQueued p).resetWork = p.resetWork ∧
    (rouseIfQueued p).partState = p.partState ∧ (rouseIfQueued p).sp = p.sp ∧ (rouseIfQueued p).inp = p.inp ∧
    (rouseIfQueued p).ae = p.ae ∧ (rouseIfQueued p).pn = p.pn ∧ (rouseIfQueued p).cc = p.cc ∧
    (rouseIfQueued p).sl = p.sl := by
  simp only [rouseIfQueued]
  (repeat' split) <;> simp

@[simp] theorem hibernateIfDue_frame (p : Part) :
    (hibernateIfDue p).tb = p.tb ∧ (hibernateIfDue p).resetLow = p.resetLow ∧
    (hibernateIfDue p).resetWork = p.resetWork ∧ (hibernateIfDue p).partState = p.partState ∧
    (hibernateIfDue p).sp = p.sp ∧ (hibernateIfDue p).inp = p.inp ∧ (hibernateIfDue p).ae = p.ae ∧
    (hibernateIfDue p).pn = p.pn ∧ (hibernateIfDue p).cc = p.cc ∧ (hibernateIfDue p).sl = p.sl := by
  simp only [hibernateIfDue]
  (repeat' split) <;> simp

@[simp] theorem settleWith_frame (restart : Bool) (p : Part) :
    (settleWith restart p).tb = p.tb ∧ (settleWith restart p).resetLow = p.resetLow ∧
    (settleWith restart p).resetWork = p.resetWork ∧ (settleWith restart p).partState = p.partState ∧
    (settleWith restart p).sp = p.sp ∧ (settleWith restart p).inp = p.inp ∧ (settleWith restart p).ae = p.ae ∧
    (settleWith restart p).pn = p.pn ∧ (settleWith restart p).cc = p.cc ∧ (settleWith restart p).sl = p.sl := by
  simp [settleWith]

@[simp] theorem settle_frame (p : Part) :
    (settle p).tb = p.tb ∧ (settle p).resetLow = p.resetLow ∧ (settle p).resetWork = p.resetWork ∧
    (settle p).partState = p.partState ∧ (settle p).sp = p.sp ∧ (settle p).inp = p.inp ∧ (settle p).ae = p.ae ∧
    (settle p).pn = p.pn ∧ (settle p).cc = p.cc ∧ (settle p).sl = p.sl := by
  simp [settle]

@[simp] theorem modeOrder_frame (m : LinkMode) (p : Part) :
    (modeOrder m p).tb = p.tb ∧ (modeOrder m p).resetLow = p.resetLow ∧ (modeOrder m p).resetWork = p.resetWork ∧
    (modeOrder m p).partState = p.partState ∧ (modeOrder m p).sp = p.sp ∧ (modeOrder m p).inp = p.inp ∧
    (modeOrder m p).ae = p.ae ∧ (modeOrder m p).pn = p.pn ∧ (modeOrder m p).cc = p.cc ∧ (modeOrder m p).sl = p.sl := by
  simp [modeOrder]

@[simp] theorem countNoise_frame (n : NoiseCount) (p : Part) :
    (countNoise n p).tb = p.tb ∧ (countNoise n p).resetLow = p.resetLow ∧ (countNoise n p).resetWork = p.resetWork ∧
    (countNoise n p).partState = p.partState ∧ (countNoise n p).sp = p.sp ∧ (countNoise n p).inp = p.inp ∧
    (countNoise n p).ae = p.ae ∧ (countNoise n p).pc = p.pc ∧ (countNoise n p).ot = p.ot ∧ (countNoise n p).pw = p.pw ∧
    (countNoise n p).kt = p.kt ∧ (countNoise n p).pn = p.pn ∧ (countNoise n p).cc = p.cc ∧ (countNoise n p).sa = p.sa ∧
    (countNoise n p).hp = p.hp ∧ (countNoise n p).rq = p.rq ∧ (countNoise n p).sl = p.sl ∧ (countNoise n p).nu = p.nu := by
  simp only [countNoise]
  (repeat' split) <;> simp

@[simp] theorem countDiscard_frame (d : Discard) (p : Part) :
    (countDiscard d p).tb = p.tb ∧ (countDiscard d p).resetLow = p.resetLow ∧
    (countDiscard d p).resetWork = p.resetWork ∧ (countDiscard d p).partState = p.partState ∧
    (countDiscard d p).sp = p.sp ∧ (countDiscard d p).inp = p.inp ∧ (countDiscard d p).ae = p.ae ∧
    (countDiscard d p).pc = p.pc ∧ (countDiscard d p).ot = p.ot ∧ (countDiscard d p).pw = p.pw ∧
    (countDiscard d p).kt = p.kt ∧ (countDiscard d p).pn = p.pn ∧ (countDiscard d p).cc = p.cc ∧
    (countDiscard d p).sa = p.sa ∧ (countDiscard d p).hp = p.hp ∧ (countDiscard d p).rq = p.rq ∧
    (countDiscard d p).sl = p.sl ∧ (countDiscard d p).nu = p.nu := by
  simp only [countDiscard]
  (repeat' split) <;> simp

@[simp] theorem seqCheck_frame (seq : BitVec 4) (p : Part) :
    (seqCheck seq p).tb = p.tb ∧ (seqCheck seq p).resetLow = p.resetLow ∧ (seqCheck seq p).resetWork = p.resetWork ∧
    (seqCheck seq p).partState = p.partState ∧ (seqCheck seq p).sp = p.sp ∧ (seqCheck seq p).inp = p.inp ∧
    (seqCheck seq p).ae = p.ae ∧ (seqCheck seq p).pc = p.pc ∧ (seqCheck seq p).ot = p.ot ∧ (seqCheck seq p).pw = p.pw ∧
    (seqCheck seq p).kt = p.kt ∧ (seqCheck seq p).pn = p.pn ∧ (seqCheck seq p).cc = p.cc ∧ (seqCheck seq p).sa = p.sa ∧
    (seqCheck seq p).hp = p.hp ∧ (seqCheck seq p).rq = p.rq ∧ (seqCheck seq p).sl = p.sl ∧ (seqCheck seq p).nu = p.nu := by
  simp only [seqCheck]
  (repeat' split) <;> simp

@[simp] theorem takeHello_frame (h : Hello) (p : Part) :
    (takeHello h p).tb = p.tb ∧ (takeHello h p).resetLow = p.resetLow ∧ (takeHello h p).resetWork = p.resetWork ∧
    (takeHello h p).partState = p.partState ∧ (takeHello h p).sp = p.sp ∧ (takeHello h p).inp = p.inp ∧
    (takeHello h p).ae = p.ae ∧ (takeHello h p).pn = p.pn ∧ (takeHello h p).sl = p.sl := by
  simp only [takeHello]
  (repeat' split) <;> simp

@[simp] theorem restartBase_frame (h : Hello) (p : Part) :
    (restartBase h p).tb = p.tb ∧ (restartBase h p).resetLow = p.resetLow ∧ (restartBase h p).resetWork = p.resetWork ∧
    (restartBase h p).partState = p.partState ∧ (restartBase h p).sp = p.sp ∧ (restartBase h p).inp = p.inp ∧
    (restartBase h p).ae = p.ae ∧ (restartBase h p).pn = p.pn ∧ (restartBase h p).sl = p.sl := by
  simp [restartBase]

@[simp] theorem helloFrame_frame (h : Hello) (p : Part) :
    (helloFrame h p).tb = p.tb ∧ (helloFrame h p).resetLow = p.resetLow ∧ (helloFrame h p).resetWork = p.resetWork ∧
    (helloFrame h p).partState = p.partState ∧ (helloFrame h p).sp = p.sp ∧ (helloFrame h p).inp = p.inp ∧
    (helloFrame h p).ae = p.ae ∧ (helloFrame h p).pn = p.pn ∧ (helloFrame h p).sl = p.sl := by
  simp only [helloFrame]
  (repeat' split) <;> simp

@[simp] theorem keysReceived_frame (gap : Bool) (es : List KeyEvent) (heldCount : Nat) (p : Part) :
    (keysReceived gap es heldCount p).tb = p.tb ∧ (keysReceived gap es heldCount p).resetLow = p.resetLow ∧
    (keysReceived gap es heldCount p).resetWork = p.resetWork ∧
    (keysReceived gap es heldCount p).partState = p.partState ∧ (keysReceived gap es heldCount p).sp = p.sp ∧
    (keysReceived gap es heldCount p).inp = p.inp ∧ (keysReceived gap es heldCount p).ae = p.ae ∧
    (keysReceived gap es heldCount p).pn = p.pn ∧ (keysReceived gap es heldCount p).cc = p.cc ∧
    (keysReceived gap es heldCount p).sl = p.sl := by
  simp only [keysReceived]
  (repeat' split) <;> simp

@[simp] theorem motionFrame_frame (x y z : Word) (counter : Byte) (p : Part) :
    (motionFrame x y z counter p).tb = p.tb ∧ (motionFrame x y z counter p).resetLow = p.resetLow ∧
    (motionFrame x y z counter p).resetWork = p.resetWork ∧ (motionFrame x y z counter p).partState = p.partState ∧
    (motionFrame x y z counter p).sp = p.sp ∧ (motionFrame x y z counter p).inp = p.inp ∧
    (motionFrame x y z counter p).ae = p.ae ∧ (motionFrame x y z counter p).pc = p.pc ∧
    (motionFrame x y z counter p).ot = p.ot ∧ (motionFrame x y z counter p).pw = p.pw ∧
    (motionFrame x y z counter p).kt = p.kt ∧ (motionFrame x y z counter p).pn = p.pn ∧
    (motionFrame x y z counter p).cc = p.cc ∧ (motionFrame x y z counter p).sa = p.sa ∧
    (motionFrame x y z counter p).hp = p.hp ∧ (motionFrame x y z counter p).rq = p.rq ∧
    (motionFrame x y z counter p).sl = p.sl ∧ (motionFrame x y z counter p).nu = p.nu := by
  simp only [motionFrame]
  (repeat' split) <;> simp

@[simp] theorem modeAnswered_frame (lost : Bool) (p : Part) :
    (modeAnswered lost p).tb = p.tb ∧ (modeAnswered lost p).resetLow = p.resetLow ∧
    (modeAnswered lost p).resetWork = p.resetWork ∧ (modeAnswered lost p).partState = p.partState ∧
    (modeAnswered lost p).sp = p.sp ∧ (modeAnswered lost p).inp = p.inp ∧ (modeAnswered lost p).ae = p.ae ∧
    (modeAnswered lost p).pn = p.pn ∧ (modeAnswered lost p).cc = p.cc ∧ (modeAnswered lost p).sl = p.sl := by
  simp only [modeAnswered]
  (repeat' split) <;> simp

@[simp] theorem answerStatus_frame (st : BaseStatus) (held : List Byte) (p : Part) :
    (answerStatus st held p).tb = p.tb ∧ (answerStatus st held p).resetLow = p.resetLow ∧
    (answerStatus st held p).resetWork = p.resetWork ∧ (answerStatus st held p).partState = p.partState ∧
    (answerStatus st held p).sp = p.sp ∧ (answerStatus st held p).inp = p.inp ∧ (answerStatus st held p).ae = p.ae ∧
    (answerStatus st held p).pn = p.pn ∧ (answerStatus st held p).cc = p.cc ∧ (answerStatus st held p).sl = p.sl := by
  simp only [answerStatus]
  (repeat' split) <;> simp

@[simp] theorem statusFrame_frame (st : BaseStatus) (held : List Byte) (p : Part) :
    (statusFrame st held p).tb = p.tb ∧ (statusFrame st held p).resetLow = p.resetLow ∧
    (statusFrame st held p).resetWork = p.resetWork ∧ (statusFrame st held p).partState = p.partState ∧
    (statusFrame st held p).sp = p.sp ∧ (statusFrame st held p).inp = p.inp ∧ (statusFrame st held p).ae = p.ae ∧
    (statusFrame st held p).pn = p.pn ∧ (statusFrame st held p).sl = p.sl := by
  simp only [statusFrame]
  (repeat' split) <;> simp

@[simp] theorem replyFrame_frame (id : Word) (result value : Byte) (p : Part) :
    (replyFrame id result value p).tb = p.tb ∧ (replyFrame id result value p).resetLow = p.resetLow ∧
    (replyFrame id result value p).resetWork = p.resetWork ∧ (replyFrame id result value p).partState = p.partState ∧
    (replyFrame id result value p).sp = p.sp ∧ (replyFrame id result value p).inp = p.inp ∧
    (replyFrame id result value p).ae = p.ae ∧ (replyFrame id result value p).pn = p.pn ∧
    (replyFrame id result value p).cc = p.cc ∧ (replyFrame id result value p).sl = p.sl := by
  simp only [replyFrame]
  (repeat' split) <;> simp

@[simp] theorem frameSent_frame (p : Part) :
    (frameSent p).tb = p.tb ∧ (frameSent p).resetLow = p.resetLow ∧ (frameSent p).resetWork = p.resetWork ∧
    (frameSent p).partState = p.partState ∧ (frameSent p).sp = p.sp ∧ (frameSent p).inp = p.inp ∧
    (frameSent p).ae = p.ae ∧ (frameSent p).pn = p.pn ∧ (frameSent p).cc = p.cc ∧ (frameSent p).sl = p.sl := by
  simp only [frameSent]
  (repeat' split) <;> simp

@[simp] theorem replyExpired_frame (p : Part) :
    (replyExpired p).tb = p.tb ∧ (replyExpired p).resetLow = p.resetLow ∧ (replyExpired p).resetWork = p.resetWork ∧
    (replyExpired p).partState = p.partState ∧ (replyExpired p).sp = p.sp ∧ (replyExpired p).inp = p.inp ∧
    (replyExpired p).ae = p.ae ∧ (replyExpired p).pn = p.pn ∧ (replyExpired p).sl = p.sl := by
  simp only [replyExpired]
  (repeat' split) <;> simp

@[simp] theorem lineResetEnded_frame (live : Bool) (p : Part) :
    (lineResetEnded live p).tb = p.tb ∧ (lineResetEnded live p).resetLow = p.resetLow ∧
    (lineResetEnded live p).resetWork = p.resetWork ∧ (lineResetEnded live p).partState = p.partState ∧
    (lineResetEnded live p).sp = p.sp ∧ (lineResetEnded live p).inp = p.inp ∧ (lineResetEnded live p).ae = p.ae ∧
    (lineResetEnded live p).pn = p.pn ∧ (lineResetEnded live p).cc = p.cc ∧ (lineResetEnded live p).sl = p.sl := by
  simp only [lineResetEnded]
  (repeat' split) <;> simp

@[simp] theorem activateExpired_frame (p : Part) :
    (activateExpired p).tb = p.tb ∧ (activateExpired p).resetLow = p.resetLow ∧
    (activateExpired p).resetWork = p.resetWork ∧ (activateExpired p).partState = p.partState ∧
    (activateExpired p).sp = p.sp ∧ (activateExpired p).inp = p.inp ∧ (activateExpired p).ae = p.ae ∧
    (activateExpired p).pn = p.pn ∧ (activateExpired p).sl = p.sl := by
  simp only [activateExpired]
  (repeat' split) <;> simp

@[simp] theorem helloExpired_frame (p : Part) :
    (helloExpired p).tb = p.tb ∧ (helloExpired p).resetLow = p.resetLow ∧ (helloExpired p).resetWork = p.resetWork ∧
    (helloExpired p).partState = p.partState ∧ (helloExpired p).sp = p.sp ∧ (helloExpired p).inp = p.inp ∧
    (helloExpired p).ae = p.ae ∧ (helloExpired p).pn = p.pn ∧ (helloExpired p).sl = p.sl := by
  simp only [helloExpired]
  (repeat' split) <;> simp

@[simp] theorem wakeBreakEnded_frame (live : Bool) (p : Part) :
    (wakeBreakEnded live p).tb = p.tb ∧ (wakeBreakEnded live p).resetLow = p.resetLow ∧
    (wakeBreakEnded live p).resetWork = p.resetWork ∧ (wakeBreakEnded live p).partState = p.partState ∧
    (wakeBreakEnded live p).sp = p.sp ∧ (wakeBreakEnded live p).inp = p.inp ∧ (wakeBreakEnded live p).ae = p.ae ∧
    (wakeBreakEnded live p).pn = p.pn ∧ (wakeBreakEnded live p).cc = p.cc ∧ (wakeBreakEnded live p).sl = p.sl := by
  simp only [wakeBreakEnded]
  (repeat' split) <;> simp

@[simp] theorem presenceTold_frame (present : Bool) (p : Part) :
    (presenceTold present p).tb = p.tb ∧ (presenceTold present p).resetLow = p.resetLow ∧
    (presenceTold present p).resetWork = p.resetWork ∧ (presenceTold present p).partState = p.partState ∧
    (presenceTold present p).sp = p.sp ∧ (presenceTold present p).inp = p.inp ∧ (presenceTold present p).ae = p.ae ∧
    (presenceTold present p).pn = p.pn ∧ (presenceTold present p).sl = p.sl := by
  simp only [presenceTold]
  (repeat' split) <;> simp

@[simp] theorem retryBase_frame (r : Request) (p : Part) :
    (retryBase r p).tb = p.tb ∧ (retryBase r p).resetLow = p.resetLow ∧ (retryBase r p).resetWork = p.resetWork ∧
    (retryBase r p).partState = p.partState ∧ (retryBase r p).sp = p.sp ∧ (retryBase r p).inp = p.inp ∧
    (retryBase r p).ae = p.ae ∧ (retryBase r p).pn = p.pn ∧ (retryBase r p).sl = p.sl := by
  simp only [retryBase]
  (repeat' split) <;> simp

@[simp] theorem deliver_frame (lid : Option Reading) (p : Part) :
    (deliver lid p).tb = p.tb ∧ (deliver lid p).resetLow = p.resetLow ∧ (deliver lid p).resetWork = p.resetWork ∧
    (deliver lid p).partState = p.partState ∧ (deliver lid p).sp = p.sp ∧ (deliver lid p).inp = p.inp ∧
    (deliver lid p).ae = p.ae ∧ (deliver lid p).pw = p.pw ∧ (deliver lid p).pn = p.pn ∧ (deliver lid p).cc = p.cc ∧
    (deliver lid p).rq = p.rq ∧ (deliver lid p).sl = p.sl := by
  simp [deliver, handDelivery]

@[simp] theorem loseAngle_frame (why : Reason) (p : Part) :
    (loseAngle why p).tb = p.tb ∧ (loseAngle why p).resetLow = p.resetLow ∧ (loseAngle why p).resetWork = p.resetWork ∧
    (loseAngle why p).partState = p.partState ∧ (loseAngle why p).sp = p.sp ∧ (loseAngle why p).inp = p.inp ∧
    (loseAngle why p).pw = p.pw ∧ (loseAngle why p).pn = p.pn ∧ (loseAngle why p).cc = p.cc ∧
    (loseAngle why p).rq = p.rq ∧ (loseAngle why p).sl = p.sl := by
  simp only [loseAngle]
  (repeat' split) <;> simp

@[simp] theorem holdExpired_frame (p : Part) :
    (holdExpired p).tb = p.tb ∧ (holdExpired p).resetLow = p.resetLow ∧ (holdExpired p).resetWork = p.resetWork ∧
    (holdExpired p).partState = p.partState ∧ (holdExpired p).sp = p.sp ∧ (holdExpired p).inp = p.inp ∧
    (holdExpired p).pw = p.pw ∧ (holdExpired p).pn = p.pn ∧ (holdExpired p).cc = p.cc ∧ (holdExpired p).rq = p.rq ∧
    (holdExpired p).sl = p.sl := by
  simp [holdExpired]

@[simp] theorem lidSampleAngle_frame (lid : Reading) (p : Part) :
    (lidSampleAngle lid p).tb = p.tb ∧ (lidSampleAngle lid p).resetLow = p.resetLow ∧
    (lidSampleAngle lid p).resetWork = p.resetWork ∧ (lidSampleAngle lid p).partState = p.partState ∧
    (lidSampleAngle lid p).sp = p.sp ∧ (lidSampleAngle lid p).inp = p.inp ∧ (lidSampleAngle lid p).pw = p.pw ∧
    (lidSampleAngle lid p).pn = p.pn ∧ (lidSampleAngle lid p).cc = p.cc ∧ (lidSampleAngle lid p).rq = p.rq ∧
    (lidSampleAngle lid p).sl = p.sl := by
  simp only [lidSampleAngle]
  (repeat' split) <;> simp

@[simp] theorem angleSettings_frame (old : Settings) (p : Part) :
    (angleSettings old p).tb = p.tb ∧ (angleSettings old p).resetLow = p.resetLow ∧
    (angleSettings old p).resetWork = p.resetWork ∧ (angleSettings old p).partState = p.partState ∧
    (angleSettings old p).sp = p.sp ∧ (angleSettings old p).inp = p.inp ∧ (angleSettings old p).pw = p.pw ∧
    (angleSettings old p).pn = p.pn ∧ (angleSettings old p).cc = p.cc ∧ (angleSettings old p).rq = p.rq ∧
    (angleSettings old p).sl = p.sl := by
  simp only [angleSettings]
  (repeat' split) <;> simp

@[simp] theorem leaveStarting_frame (p : Part) :
    (leaveStarting p).tb = p.tb ∧ (leaveStarting p).resetLow = p.resetLow ∧ (leaveStarting p).resetWork = p.resetWork ∧
    (leaveStarting p).sp = p.sp ∧ (leaveStarting p).inp = p.inp ∧ (leaveStarting p).ae = p.ae ∧
    (leaveStarting p).pc = p.pc ∧ (leaveStarting p).ot = p.ot ∧ (leaveStarting p).bl = p.bl ∧
    (leaveStarting p).pw = p.pw ∧ (leaveStarting p).kt = p.kt ∧ (leaveStarting p).pn = p.pn ∧
    (leaveStarting p).cc = p.cc ∧ (leaveStarting p).sa = p.sa ∧ (leaveStarting p).hp = p.hp ∧
    (leaveStarting p).rq = p.rq ∧ (leaveStarting p).sl = p.sl ∧ (leaveStarting p).nu = p.nu := by
  simp only [leaveStarting]
  (repeat' split) <;> simp

@[simp] theorem raiseSensorFault_frame (due : Time) (p : Part) :
    (raiseSensorFault due p).tb = p.tb ∧ (raiseSensorFault due p).resetLow = p.resetLow ∧
    (raiseSensorFault due p).resetWork = p.resetWork ∧ (raiseSensorFault due p).inp = p.inp ∧
    (raiseSensorFault due p).pn = p.pn ∧ (raiseSensorFault due p).cc = p.cc ∧ (raiseSensorFault due p).sl = p.sl := by
  simp only [raiseSensorFault]
  (repeat' split) <;> simp

@[simp] theorem configEnded_frame (start : Time) (ok : Bool) (p : Part) :
    (configEnded start ok p).tb = p.tb ∧ (configEnded start ok p).resetLow = p.resetLow ∧
    (configEnded start ok p).resetWork = p.resetWork ∧ (configEnded start ok p).inp = p.inp ∧
    (configEnded start ok p).pn = p.pn ∧ (configEnded start ok p).cc = p.cc ∧ (configEnded start ok p).sl = p.sl := by
  simp only [configEnded]
  (repeat' split) <;> simp

@[simp] theorem deliverSample_frame (v : Reading) (p : Part) :
    (deliverSample v p).tb = p.tb ∧ (deliverSample v p).resetLow = p.resetLow ∧
    (deliverSample v p).resetWork = p.resetWork ∧ (deliverSample v p).partState = p.partState ∧
    (deliverSample v p).inp = p.inp ∧ (deliverSample v p).pn = p.pn ∧ (deliverSample v p).cc = p.cc ∧
    (deliverSample v p).sl = p.sl := by
  simp [deliverSample]

@[simp] theorem sampleFailed_frame (due : Time) (p : Part) :
    (sampleFailed due p).tb = p.tb ∧ (sampleFailed due p).resetLow = p.resetLow ∧
    (sampleFailed due p).resetWork = p.resetWork ∧ (sampleFailed due p).inp = p.inp ∧ (sampleFailed due p).pn = p.pn ∧
    (sampleFailed due p).cc = p.cc ∧ (sampleFailed due p).sl = p.sl := by
  simp only [sampleFailed]
  (repeat' split) <;> simp

@[simp] theorem sampleEnded_frame (due : Time) (v : Option Reading) (p : Part) :
    (sampleEnded due v p).tb = p.tb ∧ (sampleEnded due v p).resetLow = p.resetLow ∧
    (sampleEnded due v p).resetWork = p.resetWork ∧ (sampleEnded due v p).inp = p.inp ∧
    (sampleEnded due v p).pn = p.pn ∧ (sampleEnded due v p).cc = p.cc ∧ (sampleEnded due v p).sl = p.sl := by
  simp only [sampleEnded]
  (repeat' split) <;> simp

@[simp] theorem clearSensorFault_frame (due : Time) (p : Part) :
    (clearSensorFault due p).tb = p.tb ∧ (clearSensorFault due p).resetLow = p.resetLow ∧
    (clearSensorFault due p).resetWork = p.resetWork ∧ (clearSensorFault due p).inp = p.inp ∧
    (clearSensorFault due p).ae = p.ae ∧ (clearSensorFault due p).pc = p.pc ∧ (clearSensorFault due p).ot = p.ot ∧
    (clearSensorFault due p).bl = p.bl ∧ (clearSensorFault due p).pw = p.pw ∧ (clearSensorFault due p).kt = p.kt ∧
    (clearSensorFault due p).pn = p.pn ∧ (clearSensorFault due p).cc = p.cc ∧ (clearSensorFault due p).sa = p.sa ∧
    (clearSensorFault due p).rq = p.rq ∧ (clearSensorFault due p).sl = p.sl := by
  simp only [clearSensorFault]
  (repeat' split) <;> simp

@[simp] theorem attemptEnded_frame (due : Time) (good : Bool) (p : Part) :
    (attemptEnded due good p).tb = p.tb ∧ (attemptEnded due good p).resetLow = p.resetLow ∧
    (attemptEnded due good p).resetWork = p.resetWork ∧ (attemptEnded due good p).inp = p.inp ∧
    (attemptEnded due good p).ae = p.ae ∧ (attemptEnded due good p).pc = p.pc ∧ (attemptEnded due good p).ot = p.ot ∧
    (attemptEnded due good p).bl = p.bl ∧ (attemptEnded due good p).pw = p.pw ∧ (attemptEnded due good p).kt = p.kt ∧
    (attemptEnded due good p).pn = p.pn ∧ (attemptEnded due good p).cc = p.cc ∧ (attemptEnded due good p).sa = p.sa ∧
    (attemptEnded due good p).rq = p.rq ∧ (attemptEnded due good p).sl = p.sl := by
  simp only [attemptEnded]
  (repeat' split) <;> simp

@[simp] theorem setInput_frame (i : Input) (x : InputState) (p : Part) :
    (setInput i x p).tb = p.tb ∧ (setInput i x p).resetLow = p.resetLow ∧ (setInput i x p).resetWork = p.resetWork ∧
    (setInput i x p).partState = p.partState ∧ (setInput i x p).sp = p.sp ∧ (setInput i x p).ae = p.ae ∧
    (setInput i x p).pc = p.pc ∧ (setInput i x p).ot = p.ot ∧ (setInput i x p).bl = p.bl ∧ (setInput i x p).pw = p.pw ∧
    (setInput i x p).kt = p.kt ∧ (setInput i x p).pn = p.pn ∧ (setInput i x p).cc = p.cc ∧ (setInput i x p).sa = p.sa ∧
    (setInput i x p).hp = p.hp ∧ (setInput i x p).rq = p.rq ∧ (setInput i x p).sl = p.sl ∧ (setInput i x p).nu = p.nu := by
  simp [setInput]

@[simp] theorem rawChange_frame (i : Input) (active : Bool) (p : Part) :
    (rawChange i active p).tb = p.tb ∧ (rawChange i active p).resetLow = p.resetLow ∧
    (rawChange i active p).resetWork = p.resetWork ∧ (rawChange i active p).partState = p.partState ∧
    (rawChange i active p).sp = p.sp ∧ (rawChange i active p).inp = p.inp ∧ (rawChange i active p).ae = p.ae ∧
    (rawChange i active p).pc = p.pc ∧ (rawChange i active p).ot = p.ot ∧ (rawChange i active p).bl = p.bl ∧
    (rawChange i active p).pw = p.pw ∧ (rawChange i active p).kt = p.kt ∧ (rawChange i active p).sa = p.sa ∧
    (rawChange i active p).rq = p.rq ∧ (rawChange i active p).sl = p.sl := by
  simp only [rawChange]
  (repeat' split) <;> simp

@[simp] theorem debouncedChange_frame (i : Input) (active : Bool) (p : Part) :
    (debouncedChange i active p).tb = p.tb ∧ (debouncedChange i active p).resetLow = p.resetLow ∧
    (debouncedChange i active p).resetWork = p.resetWork ∧ (debouncedChange i active p).partState = p.partState ∧
    (debouncedChange i active p).sp = p.sp ∧ (debouncedChange i active p).inp = p.inp ∧
    (debouncedChange i active p).ae = p.ae ∧ (debouncedChange i active p).sl = p.sl := by
  simp only [debouncedChange]
  (repeat' split) <;> simp

@[simp] theorem levelChanged_frame (i : Input) (level : Bool) (p : Part) :
    (levelChanged i level p).tb = p.tb ∧ (levelChanged i level p).resetLow = p.resetLow ∧
    (levelChanged i level p).resetWork = p.resetWork ∧ (levelChanged i level p).partState = p.partState ∧
    (levelChanged i level p).sp = p.sp ∧ (levelChanged i level p).ae = p.ae ∧ (levelChanged i level p).pc = p.pc ∧
    (levelChanged i level p).ot = p.ot ∧ (levelChanged i level p).bl = p.bl ∧ (levelChanged i level p).pw = p.pw ∧
    (levelChanged i level p).kt = p.kt ∧ (levelChanged i level p).sa = p.sa ∧ (levelChanged i level p).rq = p.rq ∧
    (levelChanged i level p).sl = p.sl := by
  simp [levelChanged]

@[simp] theorem debounceExpired_frame (i : Input) (p : Part) :
    (debounceExpired i p).tb = p.tb ∧ (debounceExpired i p).resetLow = p.resetLow ∧
    (debounceExpired i p).resetWork = p.resetWork ∧ (debounceExpired i p).partState = p.partState ∧
    (debounceExpired i p).sp = p.sp ∧ (debounceExpired i p).ae = p.ae ∧ (debounceExpired i p).sl = p.sl := by
  simp [debounceExpired]

@[simp] theorem inputSettings_frame (old : Settings) (i : Input) (p : Part) :
    (inputSettings old i p).tb = p.tb ∧ (inputSettings old i p).resetLow = p.resetLow ∧
    (inputSettings old i p).resetWork = p.resetWork ∧ (inputSettings old i p).partState = p.partState ∧
    (inputSettings old i p).sp = p.sp ∧ (inputSettings old i p).ae = p.ae ∧ (inputSettings old i p).sl = p.sl := by
  simp only [inputSettings]
  (repeat' split) <;> simp

@[simp] theorem inputsSettings_frame (old : Settings) (p : Part) :
    (inputsSettings old p).tb = p.tb ∧ (inputsSettings old p).resetLow = p.resetLow ∧
    (inputsSettings old p).resetWork = p.resetWork ∧ (inputsSettings old p).partState = p.partState ∧
    (inputsSettings old p).sp = p.sp ∧ (inputsSettings old p).ae = p.ae ∧ (inputsSettings old p).sl = p.sl := by
  simp [inputsSettings]

@[simp] theorem resumeInput_frame (i : Input) (p : Part) :
    (resumeInput i p).tb = p.tb ∧ (resumeInput i p).resetLow = p.resetLow ∧ (resumeInput i p).resetWork = p.resetWork ∧
    (resumeInput i p).partState = p.partState ∧ (resumeInput i p).sp = p.sp ∧ (resumeInput i p).ae = p.ae ∧
    (resumeInput i p).pc = p.pc ∧ (resumeInput i p).ot = p.ot ∧ (resumeInput i p).bl = p.bl ∧
    (resumeInput i p).pw = p.pw ∧ (resumeInput i p).kt = p.kt ∧ (resumeInput i p).pn = p.pn ∧
    (resumeInput i p).cc = p.cc ∧ (resumeInput i p).sa = p.sa ∧ (resumeInput i p).hp = p.hp ∧
    (resumeInput i p).rq = p.rq ∧ (resumeInput i p).sl = p.sl ∧ (resumeInput i p).nu = p.nu := by
  simp [resumeInput]

@[simp] theorem resumeInputs_frame (p : Part) :
    (resumeInputs p).tb = p.tb ∧ (resumeInputs p).resetLow = p.resetLow ∧ (resumeInputs p).resetWork = p.resetWork ∧
    (resumeInputs p).partState = p.partState ∧ (resumeInputs p).sp = p.sp ∧ (resumeInputs p).ae = p.ae ∧
    (resumeInputs p).pc = p.pc ∧ (resumeInputs p).ot = p.ot ∧ (resumeInputs p).bl = p.bl ∧ (resumeInputs p).pw = p.pw ∧
    (resumeInputs p).kt = p.kt ∧ (resumeInputs p).pn = p.pn ∧ (resumeInputs p).cc = p.cc ∧ (resumeInputs p).sa = p.sa ∧
    (resumeInputs p).hp = p.hp ∧ (resumeInputs p).rq = p.rq ∧ (resumeInputs p).sl = p.sl ∧ (resumeInputs p).nu = p.nu := by
  simp [resumeInputs]

@[simp] theorem clearRejected_frame (p : Part) :
    (clearRejected p).tb = p.tb ∧ (clearRejected p).resetLow = p.resetLow ∧ (clearRejected p).resetWork = p.resetWork ∧
    (clearRejected p).partState = p.partState ∧ (clearRejected p).sp = p.sp ∧ (clearRejected p).inp = p.inp ∧
    (clearRejected p).ae = p.ae ∧ (clearRejected p).pc = p.pc ∧ (clearRejected p).ot = p.ot ∧
    (clearRejected p).bl = p.bl ∧ (clearRejected p).pw = p.pw ∧ (clearRejected p).kt = p.kt ∧
    (clearRejected p).pn = p.pn ∧ (clearRejected p).cc = p.cc ∧ (clearRejected p).sa = p.sa ∧
    (clearRejected p).rq = p.rq ∧ (clearRejected p).sl = p.sl := by
  simp only [clearRejected]
  (repeat' split) <;> simp

@[simp] theorem bringIntoForce_frame (s : Settings) (p : Part) :
    (bringIntoForce s p).tb = p.tb ∧ (bringIntoForce s p).resetLow = p.resetLow ∧
    (bringIntoForce s p).resetWork = p.resetWork ∧ (bringIntoForce s p).partState = p.partState ∧
    (bringIntoForce s p).sp = p.sp := by
  simp [bringIntoForce]

@[simp] theorem applied_frame (s : Settings) (code : Word) (p : Part) :
    (applied s code p).tb = p.tb ∧ (applied s code p).resetLow = p.resetLow ∧
    (applied s code p).resetWork = p.resetWork ∧ (applied s code p).partState = p.partState ∧
    (applied s code p).sp = p.sp := by
  simp only [applied]
  (repeat' split) <;> simp

@[simp] theorem snapshotJudged_frame (ws : List Word) (p : Part) :
    (snapshotJudged ws p).tb = p.tb ∧ (snapshotJudged ws p).resetLow = p.resetLow ∧
    (snapshotJudged ws p).resetWork = p.resetWork ∧ (snapshotJudged ws p).partState = p.partState ∧
    (snapshotJudged ws p).sp = p.sp := by
  simp only [snapshotJudged]
  (repeat' split) <;> simp

@[simp] theorem takeApply_frame (r : Request) (p : Part) :
    (takeApply r p).tb = p.tb ∧ (takeApply r p).resetLow = p.resetLow ∧ (takeApply r p).resetWork = p.resetWork ∧
    (takeApply r p).partState = p.partState ∧ (takeApply r p).sp = p.sp ∧ (takeApply r p).inp = p.inp ∧
    (takeApply r p).ae = p.ae ∧ (takeApply r p).pc = p.pc ∧ (takeApply r p).ot = p.ot ∧ (takeApply r p).bl = p.bl ∧
    (takeApply r p).pw = p.pw ∧ (takeApply r p).kt = p.kt ∧ (takeApply r p).pn = p.pn ∧ (takeApply r p).cc = p.cc ∧
    (takeApply r p).sa = p.sa ∧ (takeApply r p).rq = p.rq ∧ (takeApply r p).nu = p.nu := by
  simp [takeApply]

@[simp] theorem endTrans_frame (p : Part) :
    (endTrans p).tb = p.tb ∧ (endTrans p).resetLow = p.resetLow ∧ (endTrans p).resetWork = p.resetWork ∧
    (endTrans p).partState = p.partState ∧ (endTrans p).sp = p.sp ∧ (endTrans p).inp = p.inp ∧ (endTrans p).ae = p.ae ∧
    (endTrans p).pc = p.pc ∧ (endTrans p).ot = p.ot ∧ (endTrans p).bl = p.bl ∧ (endTrans p).pw = p.pw ∧
    (endTrans p).kt = p.kt ∧ (endTrans p).pn = p.pn ∧ (endTrans p).cc = p.cc ∧ (endTrans p).sa = p.sa ∧
    (endTrans p).rq = p.rq ∧ (endTrans p).sl = p.sl ∧ (endTrans p).nu = p.nu := by
  simp only [endTrans]
  (repeat' split) <;> simp

@[simp] theorem beginTrans_frame (k : TransKind) (a : Nat) (p : Part) :
    (beginTrans k a p).tb = p.tb ∧ (beginTrans k a p).resetLow = p.resetLow ∧
    (beginTrans k a p).resetWork = p.resetWork ∧ (beginTrans k a p).partState = p.partState ∧
    (beginTrans k a p).sp = p.sp ∧ (beginTrans k a p).inp = p.inp ∧ (beginTrans k a p).ae = p.ae ∧
    (beginTrans k a p).pc = p.pc ∧ (beginTrans k a p).ot = p.ot ∧ (beginTrans k a p).bl = p.bl ∧
    (beginTrans k a p).pw = p.pw ∧ (beginTrans k a p).kt = p.kt ∧ (beginTrans k a p).pn = p.pn ∧
    (beginTrans k a p).cc = p.cc ∧ (beginTrans k a p).sa = p.sa ∧ (beginTrans k a p).rq = p.rq ∧
    (beginTrans k a p).sl = p.sl ∧ (beginTrans k a p).nu = p.nu := by
  simp [beginTrans]

@[simp] theorem openTrans_frame (k : TransKind) (a : Nat) (p : Part) :
    (openTrans k a p).tb = p.tb ∧ (openTrans k a p).resetLow = p.resetLow ∧ (openTrans k a p).resetWork = p.resetWork ∧
    (openTrans k a p).partState = p.partState ∧ (openTrans k a p).sp = p.sp ∧ (openTrans k a p).inp = p.inp ∧
    (openTrans k a p).ae = p.ae ∧ (openTrans k a p).pc = p.pc ∧ (openTrans k a p).ot = p.ot ∧
    (openTrans k a p).bl = p.bl ∧ (openTrans k a p).pw = p.pw ∧ (openTrans k a p).kt = p.kt ∧
    (openTrans k a p).pn = p.pn ∧ (openTrans k a p).cc = p.cc ∧ (openTrans k a p).sa = p.sa ∧
    (openTrans k a p).rq = p.rq ∧ (openTrans k a p).sl = p.sl ∧ (openTrans k a p).nu = p.nu := by
  simp only [openTrans]
  (repeat' split) <;> simp

@[simp] theorem openUpdate_frame (w : Word) (a : Nat) (p : Part) :
    (openUpdate w a p).tb = p.tb ∧ (openUpdate w a p).resetLow = p.resetLow ∧ (openUpdate w a p).resetWork = p.resetWork ∧
    (openUpdate w a p).partState = p.partState ∧ (openUpdate w a p).sp = p.sp ∧ (openUpdate w a p).inp = p.inp ∧
    (openUpdate w a p).ae = p.ae ∧ (openUpdate w a p).pc = p.pc ∧ (openUpdate w a p).ot = p.ot ∧
    (openUpdate w a p).bl = p.bl ∧ (openUpdate w a p).pw = p.pw ∧ (openUpdate w a p).kt = p.kt ∧
    (openUpdate w a p).pn = p.pn ∧ (openUpdate w a p).cc = p.cc ∧ (openUpdate w a p).sa = p.sa ∧
    (openUpdate w a p).rq = p.rq ∧ (openUpdate w a p).sl = p.sl ∧ (openUpdate w a p).nu = p.nu := by
  simp only [openUpdate]
  (repeat' split) <;> simp

@[simp] theorem hostTransEnd_frame (p : Part) :
    (hostTransEnd p).tb = p.tb ∧ (hostTransEnd p).resetLow = p.resetLow ∧ (hostTransEnd p).resetWork = p.resetWork ∧
    (hostTransEnd p).partState = p.partState ∧ (hostTransEnd p).sp = p.sp ∧ (hostTransEnd p).inp = p.inp ∧
    (hostTransEnd p).ae = p.ae ∧ (hostTransEnd p).pc = p.pc ∧ (hostTransEnd p).ot = p.ot ∧ (hostTransEnd p).bl = p.bl ∧
    (hostTransEnd p).pw = p.pw ∧ (hostTransEnd p).kt = p.kt ∧ (hostTransEnd p).pn = p.pn ∧ (hostTransEnd p).cc = p.cc ∧
    (hostTransEnd p).sa = p.sa ∧ (hostTransEnd p).rq = p.rq ∧ (hostTransEnd p).sl = p.sl ∧ (hostTransEnd p).nu = p.nu := by
  simp only [hostTransEnd]
  (repeat' split) <;> simp

@[simp] theorem startAfterReset_frame (p : Part) :
    (startAfterReset p).tb = p.tb ∧ (startAfterReset p).resetLow = p.resetLow ∧
    (startAfterReset p).resetWork = p.resetWork ∧ (startAfterReset p).partState = p.partState ∧
    (startAfterReset p).ae = p.ae ∧ (startAfterReset p).pc = p.pc ∧ (startAfterReset p).ot = p.ot ∧
    (startAfterReset p).bl = p.bl ∧ (startAfterReset p).pw = p.pw ∧ (startAfterReset p).kt = p.kt ∧
    (startAfterReset p).pn = p.pn ∧ (startAfterReset p).cc = p.cc ∧ (startAfterReset p).hp = p.hp ∧
    (startAfterReset p).rq = p.rq ∧ (startAfterReset p).sl = p.sl ∧ (startAfterReset p).nu = p.nu := by
  simp [startAfterReset]

@[simp] theorem releaseReset_frame (hcsLow : Bool) (p : Part) :
    (releaseReset hcsLow p).tb = p.tb ∧ (releaseReset hcsLow p).resetWork = p.resetWork ∧
    (releaseReset hcsLow p).partState = p.partState ∧ (releaseReset hcsLow p).ae = p.ae ∧
    (releaseReset hcsLow p).pc = p.pc ∧ (releaseReset hcsLow p).ot = p.ot ∧ (releaseReset hcsLow p).bl = p.bl ∧
    (releaseReset hcsLow p).pw = p.pw ∧ (releaseReset hcsLow p).kt = p.kt ∧ (releaseReset hcsLow p).pn = p.pn ∧
    (releaseReset hcsLow p).cc = p.cc ∧ (releaseReset hcsLow p).rq = p.rq ∧ (releaseReset hcsLow p).sl = p.sl ∧
    (releaseReset hcsLow p).nu = p.nu := by
  simp [releaseReset]

@[simp] theorem foldl_takeOffer_frame (os : List Offer) (p : Part) :
    (os.foldl (fun q o => takeOffer o q) p).tb = p.tb ∧
    (os.foldl (fun q o => takeOffer o q) p).resetLow = p.resetLow ∧
    (os.foldl (fun q o => takeOffer o q) p).resetWork = p.resetWork ∧
    (os.foldl (fun q o => takeOffer o q) p).partState = p.partState ∧
    (os.foldl (fun q o => takeOffer o q) p).sp = p.sp ∧
    (os.foldl (fun q o => takeOffer o q) p).inp = p.inp ∧
    (os.foldl (fun q o => takeOffer o q) p).ae = p.ae ∧
    (os.foldl (fun q o => takeOffer o q) p).pc = p.pc ∧
    (os.foldl (fun q o => takeOffer o q) p).ot = p.ot ∧
    (os.foldl (fun q o => takeOffer o q) p).bl = p.bl ∧
    (os.foldl (fun q o => takeOffer o q) p).pw = p.pw ∧
    (os.foldl (fun q o => takeOffer o q) p).pn = p.pn ∧
    (os.foldl (fun q o => takeOffer o q) p).cc = p.cc ∧
    (os.foldl (fun q o => takeOffer o q) p).sa = p.sa ∧
    (os.foldl (fun q o => takeOffer o q) p).rq = p.rq ∧
    (os.foldl (fun q o => takeOffer o q) p).sl = p.sl := by
  induction os generalizing p with
  | nil => simp
  | cons x os ih => simp [ih]

@[simp] theorem takeDeferred_frame (p : Part) :
    (takeDeferred p).tb = p.tb ∧ (takeDeferred p).resetLow = p.resetLow ∧ (takeDeferred p).resetWork = p.resetWork ∧
    (takeDeferred p).partState = p.partState ∧ (takeDeferred p).sp = p.sp ∧ (takeDeferred p).inp = p.inp ∧
    (takeDeferred p).ae = p.ae ∧ (takeDeferred p).pc = p.pc ∧ (takeDeferred p).ot = p.ot ∧ (takeDeferred p).bl = p.bl ∧
    (takeDeferred p).pw = p.pw ∧ (takeDeferred p).pn = p.pn ∧ (takeDeferred p).cc = p.cc ∧ (takeDeferred p).sa = p.sa ∧
    (takeDeferred p).rq = p.rq ∧ (takeDeferred p).sl = p.sl := by
  simp [takeDeferred]

@[simp] theorem beginDueHold_frame (p : Part) :
    (beginDueHold p).tb = p.tb ∧ (beginDueHold p).resetLow = p.resetLow ∧ (beginDueHold p).resetWork = p.resetWork ∧
    (beginDueHold p).partState = p.partState ∧ (beginDueHold p).sp = p.sp ∧ (beginDueHold p).inp = p.inp ∧
    (beginDueHold p).ae = p.ae ∧ (beginDueHold p).pc = p.pc ∧ (beginDueHold p).ot = p.ot ∧ (beginDueHold p).bl = p.bl ∧
    (beginDueHold p).pw = p.pw ∧ (beginDueHold p).kt = p.kt ∧ (beginDueHold p).pn = p.pn ∧ (beginDueHold p).cc = p.cc ∧
    (beginDueHold p).sa = p.sa ∧ (beginDueHold p).rq = p.rq ∧ (beginDueHold p).sl = p.sl ∧ (beginDueHold p).nu = p.nu := by
  simp only [beginDueHold]
  (repeat' split) <;> simp

@[simp] theorem workEnded_frame (w : ResetWork) (p : Part) :
    (workEnded w p).tb = p.tb ∧ (workEnded w p).resetLow = p.resetLow ∧ (workEnded w p).sp = p.sp ∧
    (workEnded w p).inp = p.inp ∧ (workEnded w p).ae = p.ae ∧ (workEnded w p).pc = p.pc ∧ (workEnded w p).ot = p.ot ∧
    (workEnded w p).bl = p.bl ∧ (workEnded w p).pw = p.pw ∧ (workEnded w p).pn = p.pn ∧ (workEnded w p).cc = p.cc ∧
    (workEnded w p).sa = p.sa ∧ (workEnded w p).rq = p.rq ∧ (workEnded w p).sl = p.sl := by
  simp only [workEnded]
  (repeat' split) <;> simp

@[simp] theorem tick_frame (p : Part) :
    (tick p).resetLow = p.resetLow ∧ (tick p).resetWork = p.resetWork ∧ (tick p).partState = p.partState ∧
    (tick p).sp = p.sp ∧ (tick p).inp = p.inp ∧ (tick p).ae = p.ae ∧ (tick p).pc = p.pc ∧ (tick p).ot = p.ot ∧
    (tick p).bl = p.bl ∧ (tick p).pw = p.pw ∧ (tick p).kt = p.kt ∧ (tick p).pn = p.pn ∧ (tick p).cc = p.cc ∧
    (tick p).sa = p.sa ∧ (tick p).hp = p.hp ∧ (tick p).rq = p.rq ∧ (tick p).sl = p.sl ∧ (tick p).nu = p.nu := by
  simp [tick]

@[simp] theorem dwellExpired_frame (p : Part) :
    (dwellExpired p).tb = p.tb ∧ (dwellExpired p).resetLow = p.resetLow ∧ (dwellExpired p).resetWork = p.resetWork ∧
    (dwellExpired p).partState = p.partState ∧ (dwellExpired p).sp = p.sp ∧ (dwellExpired p).inp = p.inp ∧
    (dwellExpired p).ae = p.ae ∧ (dwellExpired p).pn = p.pn ∧ (dwellExpired p).cc = p.cc ∧ (dwellExpired p).sl = p.sl := by
  simp only [dwellExpired]
  (repeat' split) <;> simp

@[simp] theorem discardFrame_frame (cs : List RxChar) (p : Part) :
    (discardFrame cs p).tb = p.tb ∧ (discardFrame cs p).resetLow = p.resetLow ∧
    (discardFrame cs p).resetWork = p.resetWork ∧ (discardFrame cs p).partState = p.partState ∧
    (discardFrame cs p).sp = p.sp ∧ (discardFrame cs p).inp = p.inp ∧ (discardFrame cs p).ae = p.ae ∧
    (discardFrame cs p).pc = p.pc ∧ (discardFrame cs p).ot = p.ot ∧ (discardFrame cs p).pw = p.pw ∧
    (discardFrame cs p).kt = p.kt ∧ (discardFrame cs p).pn = p.pn ∧ (discardFrame cs p).cc = p.cc ∧
    (discardFrame cs p).sa = p.sa ∧ (discardFrame cs p).hp = p.hp ∧ (discardFrame cs p).rq = p.rq ∧
    (discardFrame cs p).sl = p.sl ∧ (discardFrame cs p).nu = p.nu := by
  simp only [discardFrame]
  (repeat' split) <;> simp

@[simp] theorem keysReception_frame (seq : BitVec 4) (es : List KeyEvent) (heldCount : Nat) (p : Part) :
    (keysReception seq es heldCount p).tb = p.tb ∧ (keysReception seq es heldCount p).resetLow = p.resetLow ∧
    (keysReception seq es heldCount p).resetWork = p.resetWork ∧
    (keysReception seq es heldCount p).partState = p.partState ∧ (keysReception seq es heldCount p).sp = p.sp ∧
    (keysReception seq es heldCount p).inp = p.inp ∧ (keysReception seq es heldCount p).ae = p.ae ∧
    (keysReception seq es heldCount p).pn = p.pn ∧ (keysReception seq es heldCount p).cc = p.cc ∧
    (keysReception seq es heldCount p).sl = p.sl := by
  simp only [keysReception]
  (repeat' split) <;> simp

@[simp] theorem statusReception_frame (seq : BitVec 4) (st : BaseStatus) (held : List Byte) (p : Part) :
    (statusReception seq st held p).tb = p.tb ∧ (statusReception seq st held p).resetLow = p.resetLow ∧
    (statusReception seq st held p).resetWork = p.resetWork ∧ (statusReception seq st held p).partState = p.partState ∧
    (statusReception seq st held p).sp = p.sp ∧ (statusReception seq st held p).inp = p.inp ∧
    (statusReception seq st held p).ae = p.ae ∧ (statusReception seq st held p).pn = p.pn ∧
    (statusReception seq st held p).sl = p.sl := by
  simp only [statusReception]
  (repeat' split) <;> simp

@[simp] theorem minHibernateExpired_frame (p : Part) :
    (minHibernateExpired p).tb = p.tb ∧ (minHibernateExpired p).resetLow = p.resetLow ∧
    (minHibernateExpired p).resetWork = p.resetWork ∧ (minHibernateExpired p).partState = p.partState ∧
    (minHibernateExpired p).sp = p.sp ∧ (minHibernateExpired p).inp = p.inp ∧ (minHibernateExpired p).ae = p.ae ∧
    (minHibernateExpired p).pn = p.pn ∧ (minHibernateExpired p).cc = p.cc ∧ (minHibernateExpired p).sl = p.sl := by
  simp [minHibernateExpired]

@[simp] theorem takeProfileRequest_frame (p : Part) :
    (takeProfileRequest p).tb = p.tb ∧ (takeProfileRequest p).resetLow = p.resetLow ∧
    (takeProfileRequest p).resetWork = p.resetWork ∧ (takeProfileRequest p).partState = p.partState ∧
    (takeProfileRequest p).sp = p.sp ∧ (takeProfileRequest p).inp = p.inp ∧ (takeProfileRequest p).ae = p.ae ∧
    (takeProfileRequest p).pn = p.pn ∧ (takeProfileRequest p).cc = p.cc ∧ (takeProfileRequest p).sl = p.sl := by
  simp [takeProfileRequest]

@[simp] theorem setPhase_frame (ph : Phase) (p : Part) :
    (setPhase ph p).tb = p.tb ∧ (setPhase ph p).resetLow = p.resetLow ∧ (setPhase ph p).resetWork = p.resetWork ∧
    (setPhase ph p).partState = p.partState ∧ (setPhase ph p).sp = p.sp ∧ (setPhase ph p).inp = p.inp ∧
    (setPhase ph p).ae = p.ae ∧ (setPhase ph p).pc = p.pc ∧ (setPhase ph p).ot = p.ot ∧ (setPhase ph p).bl = p.bl ∧
    (setPhase ph p).pw = p.pw ∧ (setPhase ph p).kt = p.kt ∧ (setPhase ph p).cc = p.cc ∧ (setPhase ph p).sa = p.sa ∧
    (setPhase ph p).hp = p.hp ∧ (setPhase ph p).rq = p.rq ∧ (setPhase ph p).sl = p.sl ∧ (setPhase ph p).nu = p.nu := by
  simp [setPhase]

@[simp] theorem acceptSync_frame (bitTime : Nat) (p : Part) :
    (acceptSync bitTime p).tb = p.tb ∧ (acceptSync bitTime p).resetLow = p.resetLow ∧
    (acceptSync bitTime p).resetWork = p.resetWork ∧ (acceptSync bitTime p).partState = p.partState ∧
    (acceptSync bitTime p).sp = p.sp ∧ (acceptSync bitTime p).inp = p.inp ∧ (acceptSync bitTime p).ae = p.ae ∧
    (acceptSync bitTime p).pc = p.pc ∧ (acceptSync bitTime p).ot = p.ot ∧ (acceptSync bitTime p).bl = p.bl ∧
    (acceptSync bitTime p).pw = p.pw ∧ (acceptSync bitTime p).kt = p.kt ∧ (acceptSync bitTime p).cc = p.cc ∧
    (acceptSync bitTime p).sa = p.sa ∧ (acceptSync bitTime p).hp = p.hp ∧ (acceptSync bitTime p).rq = p.rq ∧
    (acceptSync bitTime p).sl = p.sl ∧ (acceptSync bitTime p).nu = p.nu := by
  simp [acceptSync]

@[simp] theorem offerFault_frame (before : Part) (m : Option Nat) (q : Part) :
    (offerFault before m q).tb = q.tb ∧
    (offerFault before m q).resetLow = q.resetLow ∧
    (offerFault before m q).resetWork = q.resetWork ∧
    (offerFault before m q).partState = q.partState ∧
    (offerFault before m q).sp = q.sp ∧
    (offerFault before m q).inp = q.inp ∧
    (offerFault before m q).ae = q.ae ∧
    (offerFault before m q).pc = q.pc ∧
    (offerFault before m q).ot = q.ot ∧
    (offerFault before m q).bl = q.bl ∧
    (offerFault before m q).pw = q.pw ∧
    (offerFault before m q).kt = q.kt ∧
    (offerFault before m q).pn = q.pn ∧
    (offerFault before m q).sa = q.sa ∧
    (offerFault before m q).rq = q.rq ∧
    (offerFault before m q).sl = q.sl := by
  simp only [offerFault]
  (repeat' split) <;> simp

@[simp] theorem endFaultWindow_frame (p : Part) :
    (endFaultWindow p).tb = p.tb ∧ (endFaultWindow p).resetLow = p.resetLow ∧
    (endFaultWindow p).resetWork = p.resetWork ∧ (endFaultWindow p).partState = p.partState ∧
    (endFaultWindow p).sp = p.sp ∧ (endFaultWindow p).inp = p.inp ∧ (endFaultWindow p).ae = p.ae ∧
    (endFaultWindow p).pc = p.pc ∧ (endFaultWindow p).ot = p.ot ∧ (endFaultWindow p).bl = p.bl ∧
    (endFaultWindow p).pw = p.pw ∧ (endFaultWindow p).kt = p.kt ∧ (endFaultWindow p).sa = p.sa ∧
    (endFaultWindow p).rq = p.rq ∧ (endFaultWindow p).sl = p.sl := by
  simp [endFaultWindow]

@[simp] theorem takeOvercurrent_frame (measured : Nat) (p : Part) :
    (takeOvercurrent measured p).tb = p.tb ∧ (takeOvercurrent measured p).resetLow = p.resetLow ∧
    (takeOvercurrent measured p).resetWork = p.resetWork ∧ (takeOvercurrent measured p).partState = p.partState ∧
    (takeOvercurrent measured p).sp = p.sp ∧ (takeOvercurrent measured p).inp = p.inp ∧
    (takeOvercurrent measured p).ae = p.ae ∧ (takeOvercurrent measured p).pc = p.pc ∧
    (takeOvercurrent measured p).ot = p.ot ∧ (takeOvercurrent measured p).bl = p.bl ∧
    (takeOvercurrent measured p).pw = p.pw ∧ (takeOvercurrent measured p).kt = p.kt ∧
    (takeOvercurrent measured p).sa = p.sa ∧ (takeOvercurrent measured p).rq = p.rq ∧
    (takeOvercurrent measured p).sl = p.sl := by
  simp [takeOvercurrent]

@[simp] theorem cooldownEnded_frame (p : Part) :
    (cooldownEnded p).tb = p.tb ∧ (cooldownEnded p).resetLow = p.resetLow ∧ (cooldownEnded p).resetWork = p.resetWork ∧
    (cooldownEnded p).partState = p.partState ∧ (cooldownEnded p).sp = p.sp ∧ (cooldownEnded p).inp = p.inp ∧
    (cooldownEnded p).ae = p.ae ∧ (cooldownEnded p).pc = p.pc ∧ (cooldownEnded p).ot = p.ot ∧
    (cooldownEnded p).bl = p.bl ∧ (cooldownEnded p).pw = p.pw ∧ (cooldownEnded p).kt = p.kt ∧
    (cooldownEnded p).sa = p.sa ∧ (cooldownEnded p).rq = p.rq ∧ (cooldownEnded p).sl = p.sl := by
  simp [cooldownEnded]

@[simp] theorem setHostCause_frame (on : Bool) (p : Part) :
    (setHostCause on p).tb = p.tb ∧ (setHostCause on p).resetLow = p.resetLow ∧
    (setHostCause on p).resetWork = p.resetWork ∧ (setHostCause on p).partState = p.partState ∧
    (setHostCause on p).sp = p.sp ∧ (setHostCause on p).inp = p.inp ∧ (setHostCause on p).ae = p.ae ∧
    (setHostCause on p).pc = p.pc ∧ (setHostCause on p).ot = p.ot ∧ (setHostCause on p).bl = p.bl ∧
    (setHostCause on p).pw = p.pw ∧ (setHostCause on p).kt = p.kt ∧ (setHostCause on p).pn = p.pn ∧
    (setHostCause on p).sa = p.sa ∧ (setHostCause on p).hp = p.hp ∧ (setHostCause on p).rq = p.rq ∧
    (setHostCause on p).sl = p.sl ∧ (setHostCause on p).nu = p.nu := by
  simp [setHostCause]

@[simp] theorem penStop_frame (r : Request) (p : Part) :
    (penStop r p).tb = p.tb ∧ (penStop r p).resetLow = p.resetLow ∧ (penStop r p).resetWork = p.resetWork ∧
    (penStop r p).partState = p.partState ∧ (penStop r p).sp = p.sp ∧ (penStop r p).inp = p.inp ∧
    (penStop r p).ae = p.ae ∧ (penStop r p).pc = p.pc ∧ (penStop r p).ot = p.ot ∧ (penStop r p).bl = p.bl ∧
    (penStop r p).pw = p.pw ∧ (penStop r p).kt = p.kt ∧ (penStop r p).pn = p.pn ∧ (penStop r p).sa = p.sa ∧
    (penStop r p).sl = p.sl := by
  simp only [penStop]
  (repeat' split) <;> simp

@[simp] theorem resumeSilent_frame (p : Part) :
    (resumeSilent p).tb = p.tb ∧ (resumeSilent p).resetLow = p.resetLow ∧ (resumeSilent p).resetWork = p.resetWork ∧
    (resumeSilent p).partState = p.partState ∧ (resumeSilent p).sp = p.sp ∧ (resumeSilent p).inp = p.inp ∧
    (resumeSilent p).ae = p.ae ∧ (resumeSilent p).pc = p.pc ∧ (resumeSilent p).ot = p.ot ∧ (resumeSilent p).bl = p.bl ∧
    (resumeSilent p).pw = p.pw ∧ (resumeSilent p).kt = p.kt ∧ (resumeSilent p).sa = p.sa ∧ (resumeSilent p).rq = p.rq ∧
    (resumeSilent p).sl = p.sl := by
  simp [resumeSilent]

@[simp] theorem resumeHost_frame (p : Part) :
    (resumeHost p).tb = p.tb ∧ (resumeHost p).resetLow = p.resetLow ∧ (resumeHost p).resetWork = p.resetWork ∧
    (resumeHost p).partState = p.partState ∧ (resumeHost p).sp = p.sp ∧ (resumeHost p).inp = p.inp ∧
    (resumeHost p).ae = p.ae ∧ (resumeHost p).pc = p.pc ∧ (resumeHost p).ot = p.ot ∧ (resumeHost p).bl = p.bl ∧
    (resumeHost p).pw = p.pw ∧ (resumeHost p).kt = p.kt ∧ (resumeHost p).sa = p.sa ∧ (resumeHost p).hp = p.hp ∧
    (resumeHost p).rq = p.rq ∧ (resumeHost p).sl = p.sl ∧ (resumeHost p).nu = p.nu := by
  simp only [resumeHost]
  (repeat' split) <;> simp

@[simp] theorem penResume_frame (r : Request) (p : Part) :
    (penResume r p).tb = p.tb ∧ (penResume r p).resetLow = p.resetLow ∧ (penResume r p).resetWork = p.resetWork ∧
    (penResume r p).partState = p.partState ∧ (penResume r p).sp = p.sp ∧ (penResume r p).inp = p.inp ∧
    (penResume r p).ae = p.ae ∧ (penResume r p).pc = p.pc ∧ (penResume r p).ot = p.ot ∧ (penResume r p).bl = p.bl ∧
    (penResume r p).pw = p.pw ∧ (penResume r p).kt = p.kt ∧ (penResume r p).sa = p.sa ∧ (penResume r p).sl = p.sl := by
  simp only [penResume]
  (repeat' split) <;> simp

@[simp] theorem lockoutCleared_frame (p : Part) :
    (lockoutCleared p).tb = p.tb ∧ (lockoutCleared p).resetLow = p.resetLow ∧
    (lockoutCleared p).resetWork = p.resetWork ∧ (lockoutCleared p).partState = p.partState ∧
    (lockoutCleared p).sp = p.sp ∧ (lockoutCleared p).inp = p.inp ∧ (lockoutCleared p).ae = p.ae ∧
    (lockoutCleared p).pc = p.pc ∧ (lockoutCleared p).ot = p.ot ∧ (lockoutCleared p).bl = p.bl ∧
    (lockoutCleared p).pw = p.pw ∧ (lockoutCleared p).kt = p.kt ∧ (lockoutCleared p).sa = p.sa ∧
    (lockoutCleared p).rq = p.rq ∧ (lockoutCleared p).sl = p.sl := by
  simp [lockoutCleared]

@[simp] theorem penClearLockout_frame (r : Request) (p : Part) :
    (penClearLockout r p).tb = p.tb ∧ (penClearLockout r p).resetLow = p.resetLow ∧
    (penClearLockout r p).resetWork = p.resetWork ∧ (penClearLockout r p).partState = p.partState ∧
    (penClearLockout r p).sp = p.sp ∧ (penClearLockout r p).inp = p.inp ∧ (penClearLockout r p).ae = p.ae ∧
    (penClearLockout r p).pc = p.pc ∧ (penClearLockout r p).ot = p.ot ∧ (penClearLockout r p).bl = p.bl ∧
    (penClearLockout r p).pw = p.pw ∧ (penClearLockout r p).kt = p.kt ∧ (penClearLockout r p).sa = p.sa ∧
    (penClearLockout r p).sl = p.sl := by
  simp only [penClearLockout]
  (repeat' split) <;> simp

@[simp] theorem penBadArg_frame (r : Request) (p : Part) :
    (penBadArg r p).tb = p.tb ∧ (penBadArg r p).resetLow = p.resetLow ∧ (penBadArg r p).resetWork = p.resetWork ∧
    (penBadArg r p).partState = p.partState ∧ (penBadArg r p).sp = p.sp ∧ (penBadArg r p).inp = p.inp ∧
    (penBadArg r p).ae = p.ae ∧ (penBadArg r p).pc = p.pc ∧ (penBadArg r p).ot = p.ot ∧ (penBadArg r p).bl = p.bl ∧
    (penBadArg r p).pw = p.pw ∧ (penBadArg r p).kt = p.kt ∧ (penBadArg r p).pn = p.pn ∧ (penBadArg r p).cc = p.cc ∧
    (penBadArg r p).sa = p.sa ∧ (penBadArg r p).sl = p.sl ∧ (penBadArg r p).nu = p.nu := by
  simp only [penBadArg]
  (repeat' split) <;> simp

@[simp] theorem changeHostState_frame (h : HostState) (p : Part) :
    (changeHostState h p).tb = p.tb ∧ (changeHostState h p).resetLow = p.resetLow ∧
    (changeHostState h p).resetWork = p.resetWork ∧ (changeHostState h p).partState = p.partState ∧
    (changeHostState h p).inp = p.inp ∧ (changeHostState h p).ae = p.ae ∧ (changeHostState h p).pn = p.pn ∧
    (changeHostState h p).sl = p.sl := by
  simp [changeHostState]

@[simp] theorem setHost_frame (r : Request) (p : Part) :
    (setHost r p).tb = p.tb ∧ (setHost r p).resetLow = p.resetLow ∧ (setHost r p).resetWork = p.resetWork ∧
    (setHost r p).partState = p.partState ∧ (setHost r p).inp = p.inp ∧ (setHost r p).ae = p.ae ∧
    (setHost r p).pn = p.pn ∧ (setHost r p).sl = p.sl := by
  simp only [setHost]
  (repeat' split) <;> simp

@[simp] theorem wakeRepeated_frame (p : Part) :
    (wakeRepeated p).tb = p.tb ∧ (wakeRepeated p).resetLow = p.resetLow ∧ (wakeRepeated p).resetWork = p.resetWork ∧
    (wakeRepeated p).partState = p.partState ∧ (wakeRepeated p).sp = p.sp ∧ (wakeRepeated p).inp = p.inp ∧
    (wakeRepeated p).ae = p.ae ∧ (wakeRepeated p).pc = p.pc ∧ (wakeRepeated p).ot = p.ot ∧ (wakeRepeated p).bl = p.bl ∧
    (wakeRepeated p).pw = p.pw ∧ (wakeRepeated p).kt = p.kt ∧ (wakeRepeated p).pn = p.pn ∧ (wakeRepeated p).cc = p.cc ∧
    (wakeRepeated p).sa = p.sa ∧ (wakeRepeated p).hp = p.hp ∧ (wakeRepeated p).rq = p.rq ∧ (wakeRepeated p).sl = p.sl := by
  simp only [wakeRepeated]
  (repeat' split) <;> simp

@[simp] theorem offerBaseNow_frame (p : Part) :
    (offerBaseNow p).tb = p.tb ∧ (offerBaseNow p).resetLow = p.resetLow ∧ (offerBaseNow p).resetWork = p.resetWork ∧
    (offerBaseNow p).partState = p.partState ∧ (offerBaseNow p).sp = p.sp ∧ (offerBaseNow p).inp = p.inp ∧
    (offerBaseNow p).ae = p.ae ∧ (offerBaseNow p).pc = p.pc ∧ (offerBaseNow p).ot = p.ot ∧ (offerBaseNow p).bl = p.bl ∧
    (offerBaseNow p).pw = p.pw ∧ (offerBaseNow p).kt = p.kt ∧ (offerBaseNow p).pn = p.pn ∧ (offerBaseNow p).cc = p.cc ∧
    (offerBaseNow p).sa = p.sa ∧ (offerBaseNow p).rq = p.rq ∧ (offerBaseNow p).sl = p.sl := by
  simp [offerBaseNow]

@[simp] theorem offerFaultNow_frame (p : Part) :
    (offerFaultNow p).tb = p.tb ∧ (offerFaultNow p).resetLow = p.resetLow ∧ (offerFaultNow p).resetWork = p.resetWork ∧
    (offerFaultNow p).partState = p.partState ∧ (offerFaultNow p).sp = p.sp ∧ (offerFaultNow p).inp = p.inp ∧
    (offerFaultNow p).ae = p.ae ∧ (offerFaultNow p).pc = p.pc ∧ (offerFaultNow p).ot = p.ot ∧
    (offerFaultNow p).bl = p.bl ∧ (offerFaultNow p).pw = p.pw ∧ (offerFaultNow p).kt = p.kt ∧
    (offerFaultNow p).pn = p.pn ∧ (offerFaultNow p).cc = p.cc ∧ (offerFaultNow p).sa = p.sa ∧
    (offerFaultNow p).rq = p.rq ∧ (offerFaultNow p).sl = p.sl := by
  simp [offerFaultNow]

@[simp] theorem refreshOffers_frame (p : Part) :
    (refreshOffers p).tb = p.tb ∧ (refreshOffers p).resetLow = p.resetLow ∧ (refreshOffers p).resetWork = p.resetWork ∧
    (refreshOffers p).partState = p.partState ∧ (refreshOffers p).sp = p.sp ∧ (refreshOffers p).inp = p.inp ∧
    (refreshOffers p).ae = p.ae ∧ (refreshOffers p).ot = p.ot ∧ (refreshOffers p).bl = p.bl ∧
    (refreshOffers p).pw = p.pw ∧ (refreshOffers p).kt = p.kt ∧ (refreshOffers p).pn = p.pn ∧
    (refreshOffers p).sa = p.sa ∧ (refreshOffers p).rq = p.rq ∧ (refreshOffers p).sl = p.sl := by
  simp [refreshOffers]

@[simp] theorem completionEnded_frame (c : Completion) (rest : List Completion) (p : Part) :
    (completionEnded c rest p).tb = p.tb ∧ (completionEnded c rest p).resetLow = p.resetLow ∧
    (completionEnded c rest p).resetWork = p.resetWork ∧ (completionEnded c rest p).partState = p.partState ∧
    (completionEnded c rest p).sp = p.sp ∧ (completionEnded c rest p).inp = p.inp ∧
    (completionEnded c rest p).ae = p.ae ∧ (completionEnded c rest p).pc = p.pc ∧ (completionEnded c rest p).ot = p.ot ∧
    (completionEnded c rest p).bl = p.bl ∧ (completionEnded c rest p).pw = p.pw ∧ (completionEnded c rest p).kt = p.kt ∧
    (completionEnded c rest p).pn = p.pn ∧ (completionEnded c rest p).cc = p.cc ∧ (completionEnded c rest p).sa = p.sa ∧
    (completionEnded c rest p).sl = p.sl := by
  simp only [completionEnded]
  (repeat' split) <;> simp

@[simp] theorem lockTaken_frame (r : Request) (p : Part) :
    (lockTaken r p).tb = p.tb ∧ (lockTaken r p).resetLow = p.resetLow ∧ (lockTaken r p).resetWork = p.resetWork ∧
    (lockTaken r p).partState = p.partState ∧ (lockTaken r p).sp = p.sp ∧ (lockTaken r p).inp = p.inp ∧
    (lockTaken r p).ae = p.ae ∧ (lockTaken r p).pc = p.pc ∧ (lockTaken r p).ot = p.ot ∧ (lockTaken r p).bl = p.bl ∧
    (lockTaken r p).pw = p.pw ∧ (lockTaken r p).kt = p.kt ∧ (lockTaken r p).pn = p.pn ∧ (lockTaken r p).cc = p.cc ∧
    (lockTaken r p).sa = p.sa ∧ (lockTaken r p).nu = p.nu := by
  simp [lockTaken]

end Sys2Proof.Machine
end

