-- ==== Sys2Proof/Laws/Charge.lean ====
section
/-! SUPPORT. What the charge controller's shared operations do to the setpoint (R107, R112, R114, R127). -/

namespace Sys2Proof.Machine

theorem trimCurrent_le (n : Nat) : trimCurrent n ≤ n := by
  unfold trimCurrent floor10; split <;> omega

theorem minLimit_le (n : Nat) (l : Option Nat) : minLimit n l ≤ n := by
  cases l <;> simp [minLimit]

/-- A reduction leaves the setpoint as it was where it keeps its bounds, and trims the least bound otherwise (R127). -/
theorem reduce_setpoint (p : Part) :
    (reduce p).cc.setpoint =
      (if p.cc.setpoint ≤ min (ceilingBound p) p.cc.budgetLimit then p.cc.setpoint
       else trimCurrent (min (ceilingBound p) p.cc.budgetLimit)) := by
  have h (b : Nat) : min (min p.cc.setpoint (ceilingBound p)) b = min p.cc.setpoint (min (ceilingBound p) b) :=
    Nat.min_assoc ..
  simp only [reduce, reducedBound, h]
  by_cases hs : p.cc.setpoint ≤ min (ceilingBound p) p.cc.budgetLimit
  · rw [Nat.min_eq_left hs]; simp [hs]
  · have hm := Nat.min_eq_right (Nat.le_of_lt (Nat.lt_of_not_le hs))
    rw [hm, if_neg hs, if_neg hs]

/-- A reduction never raises the setpoint. -/
theorem reduce_setpoint_le (p : Part) : (reduce p).cc.setpoint ≤ p.cc.setpoint := by
  rw [reduce_setpoint]; split
  · exact Nat.le_refl _
  · exact Nat.le_trans (trimCurrent_le _) (by omega)

/-- After a reduction the setpoint keeps under every bound (R127). -/
theorem reduce_setpoint_bound (p : Part) : (reduce p).cc.setpoint ≤ min (ceilingBound p) p.cc.budgetLimit := by
  rw [reduce_setpoint]; split
  · assumption
  · exact trimCurrent_le _

/-- A reduction changes the setpoint and the BUDGET cause alone. -/
theorem reduce_cc (p : Part) :
    (reduce p).cc = { p.cc with setpoint := (reduce p).cc.setpoint, causes := (reduce p).cc.causes } := by
  simp only [reduce]; split <;> rfl

/-- A reduction touches the causes only to set BUDGET. -/
theorem reduce_causes (p : Part) :
    (reduce p).cc.causes.thermal = p.cc.causes.thermal ∧ (reduce p).cc.causes.host = p.cc.causes.host ∧
      (p.cc.causes.budget = true → (reduce p).cc.causes.budget = true) := by
  simp only [reduce]; split <;> simp_all

/-- The reaction to pause causes is to go to PAUSED, or nothing (R114). -/
theorem reactToCauses_cases (p : Part) :
    reactToCauses p = p ∨
      (reactToCauses p = enterPaused p ∧ p.cc.causes.any = true ∧ p.pn.phase = .idle ∧
        (p.cc.session = .precharge ∨ p.cc.session = .charging)) := by
  unfold reactToCauses
  split
  · exact .inr ⟨rfl, ‹_›⟩
  · exact .inl rfl

@[simp] theorem startWindow_setpoint (p : Part) : (startWindow p).cc.setpoint = 0 := rfl

@[simp] theorem enterPaused_setpoint (p : Part) : (enterPaused p).cc.setpoint = 0 := rfl

/-- The reaction to pause causes never raises the setpoint. -/
theorem reactToCauses_setpoint_le (p : Part) : (reactToCauses p).cc.setpoint ≤ p.cc.setpoint := by
  rcases reactToCauses_cases p with h | ⟨h, -⟩ <;> simp [h]

/-- The limits brought up to date (R123, R127, R129): a reduction under the new budget limit, and the session's reaction only to a
cause set at this moment. -/
theorem relimit_cases (thermalSet : Bool) (p : Part) :
    let q := { p with cc := { p.cc with budgetLimit := budgetLimitOf p.cc.budget p.cc.reservation } }
    (relimit thermalSet p = reduce q ∧ thermalSet = false ∧ budgetCuts q = false) ∨
      (relimit thermalSet p = reactToCauses (reduce q) ∧ (thermalSet = true ∨ budgetCuts q = true)) := by
  simp only [relimit]
  split <;> simp_all

/-- BUDGET is set by a reduction that cuts the setpoint to 0, and by no other (R127 step 3). -/
theorem reduce_budget (p : Part) :
    (reduce p).cc.causes.budget = (p.cc.causes.budget || budgetCuts p) := by
  simp only [reduce]
  split
  · next h => simp [budgetCuts, Nat.not_lt.mpr h]
  · rfl

/-- A window that falls due starts, or under the contact guard only sets its flag (R116). -/
theorem startOrDue_cases (p : Part) :
    (p.cc.guard = none ∧ startOrDue p = startWindow p) ∨
      (p.cc.guard ≠ none ∧ startOrDue p = { p with cc := { p.cc with windowDue := true, windowTimer := none } }) := by
  unfold startOrDue
  cases h : p.cc.guard with
  | none => exact .inl ⟨rfl, rfl⟩
  | some g => exact .inr ⟨by simp, rfl⟩

end Sys2Proof.Machine
end

