-- ==== Sys2Proof/Laws/Link.lean ====
section
/-! SUPPORT. The base link under what the other blocks do to it: orders, the quiet flag, and attributes asked for leave its state,
its exchange, its timers and its counters as they were; entering a link state sets the state. -/

namespace Sys2Proof.Machine

@[simp] theorem quietChanged_bl_frame (on : Bool) (p : Part) :
    (quietChanged on p).bl.link = p.bl.link ∧ (quietChanged on p).bl.tx = p.bl.tx ∧
    (quietChanged on p).bl.lineOrder = p.bl.lineOrder ∧ (quietChanged on p).bl.txSeq = p.bl.txSeq ∧
    (quietChanged on p).bl.expSeq = p.bl.expSeq ∧ (quietChanged on p).bl.exch = p.bl.exch ∧
    (quietChanged on p).bl.attempts = p.bl.attempts ∧ (quietChanged on p).bl.replyTimer = p.bl.replyTimer ∧
    (quietChanged on p).bl.powerTimer = p.bl.powerTimer ∧ (quietChanged on p).bl.activateTimer = p.bl.activateTimer ∧
    (quietChanged on p).bl.helloTimer = p.bl.helloTimer ∧ (quietChanged on p).bl.stallTimer = p.bl.stallTimer ∧
    (quietChanged on p).bl.minHibTimer = p.bl.minHibTimer ∧ (quietChanged on p).bl.heldHello = p.bl.heldHello ∧
    (quietChanged on p).bl.helloAttempts = p.bl.helloAttempts ∧ (quietChanged on p).bl.ovReply = p.bl.ovReply ∧
    (quietChanged on p).bl.ovStall = p.bl.ovStall ∧ (quietChanged on p).bl.ident = p.bl.ident ∧
    (quietChanged on p).bl.status = p.bl.status ∧ (quietChanged on p).bl.reservation = p.bl.reservation ∧
    (quietChanged on p).bl.sample = p.bl.sample ∧ (quietChanged on p).bl.absent = p.bl.absent ∧
    (quietChanged on p).bl.framing = p.bl.framing ∧ (quietChanged on p).bl.check = p.bl.check ∧
    (quietChanged on p).bl.noise = p.bl.noise ∧ (quietChanged on p).bl.lost = p.bl.lost ∧
    (quietChanged on p).bl.noReply = p.bl.noReply := by
  simp [quietChanged]

@[simp] theorem joinAttr_bl_frame (op : AttrOp) (p : Part) :
    (joinAttr op p).bl.link = p.bl.link ∧ (joinAttr op p).bl.tx = p.bl.tx ∧
    (joinAttr op p).bl.lineOrder = p.bl.lineOrder ∧ (joinAttr op p).bl.txSeq = p.bl.txSeq ∧
    (joinAttr op p).bl.expSeq = p.bl.expSeq ∧ (joinAttr op p).bl.exch = p.bl.exch ∧
    (joinAttr op p).bl.attempts = p.bl.attempts ∧ (joinAttr op p).bl.replyTimer = p.bl.replyTimer ∧
    (joinAttr op p).bl.powerTimer = p.bl.powerTimer ∧ (joinAttr op p).bl.activateTimer = p.bl.activateTimer ∧
    (joinAttr op p).bl.helloTimer = p.bl.helloTimer ∧ (joinAttr op p).bl.stallTimer = p.bl.stallTimer ∧
    (joinAttr op p).bl.minHibTimer = p.bl.minHibTimer ∧ (joinAttr op p).bl.heldHello = p.bl.heldHello ∧
    (joinAttr op p).bl.helloAttempts = p.bl.helloAttempts ∧ (joinAttr op p).bl.ovReply = p.bl.ovReply ∧
    (joinAttr op p).bl.ovStall = p.bl.ovStall ∧ (joinAttr op p).bl.ident = p.bl.ident ∧
    (joinAttr op p).bl.status = p.bl.status ∧ (joinAttr op p).bl.reservation = p.bl.reservation ∧
    (joinAttr op p).bl.sample = p.bl.sample ∧ (joinAttr op p).bl.absent = p.bl.absent ∧
    (joinAttr op p).bl.framing = p.bl.framing ∧ (joinAttr op p).bl.check = p.bl.check ∧
    (joinAttr op p).bl.noise = p.bl.noise ∧ (joinAttr op p).bl.lost = p.bl.lost ∧
    (joinAttr op p).bl.noReply = p.bl.noReply := by
  simp [joinAttr]

@[simp] theorem orderTarget_bl_frame (m : LinkMode) (p : Part) :
    (orderTarget m p).bl.link = p.bl.link ∧ (orderTarget m p).bl.tx = p.bl.tx ∧
    (orderTarget m p).bl.lineOrder = p.bl.lineOrder ∧ (orderTarget m p).bl.txSeq = p.bl.txSeq ∧
    (orderTarget m p).bl.expSeq = p.bl.expSeq ∧ (orderTarget m p).bl.exch = p.bl.exch ∧
    (orderTarget m p).bl.attempts = p.bl.attempts ∧ (orderTarget m p).bl.replyTimer = p.bl.replyTimer ∧
    (orderTarget m p).bl.powerTimer = p.bl.powerTimer ∧ (orderTarget m p).bl.activateTimer = p.bl.activateTimer ∧
    (orderTarget m p).bl.helloTimer = p.bl.helloTimer ∧ (orderTarget m p).bl.stallTimer = p.bl.stallTimer ∧
    (orderTarget m p).bl.minHibTimer = p.bl.minHibTimer ∧ (orderTarget m p).bl.heldHello = p.bl.heldHello ∧
    (orderTarget m p).bl.helloAttempts = p.bl.helloAttempts ∧ (orderTarget m p).bl.ovReply = p.bl.ovReply ∧
    (orderTarget m p).bl.ovStall = p.bl.ovStall ∧ (orderTarget m p).bl.ident = p.bl.ident ∧
    (orderTarget m p).bl.status = p.bl.status ∧ (orderTarget m p).bl.reservation = p.bl.reservation ∧
    (orderTarget m p).bl.sample = p.bl.sample ∧ (orderTarget m p).bl.absent = p.bl.absent ∧
    (orderTarget m p).bl.framing = p.bl.framing ∧ (orderTarget m p).bl.check = p.bl.check ∧
    (orderTarget m p).bl.noise = p.bl.noise ∧ (orderTarget m p).bl.lost = p.bl.lost ∧
    (orderTarget m p).bl.noReply = p.bl.noReply := by
  simp [orderTarget]

@[simp] theorem orderWake_bl_frame (p : Part) :
    (orderWake p).bl.link = p.bl.link ∧ (orderWake p).bl.tx = p.bl.tx ∧ (orderWake p).bl.lineOrder = p.bl.lineOrder ∧
    (orderWake p).bl.txSeq = p.bl.txSeq ∧ (orderWake p).bl.expSeq = p.bl.expSeq ∧ (orderWake p).bl.exch = p.bl.exch ∧
    (orderWake p).bl.attempts = p.bl.attempts ∧ (orderWake p).bl.replyTimer = p.bl.replyTimer ∧
    (orderWake p).bl.powerTimer = p.bl.powerTimer ∧ (orderWake p).bl.activateTimer = p.bl.activateTimer ∧
    (orderWake p).bl.helloTimer = p.bl.helloTimer ∧ (orderWake p).bl.stallTimer = p.bl.stallTimer ∧
    (orderWake p).bl.minHibTimer = p.bl.minHibTimer ∧ (orderWake p).bl.heldHello = p.bl.heldHello ∧
    (orderWake p).bl.helloAttempts = p.bl.helloAttempts ∧ (orderWake p).bl.ovReply = p.bl.ovReply ∧
    (orderWake p).bl.ovStall = p.bl.ovStall ∧ (orderWake p).bl.ident = p.bl.ident ∧
    (orderWake p).bl.status = p.bl.status ∧ (orderWake p).bl.reservation = p.bl.reservation ∧
    (orderWake p).bl.sample = p.bl.sample ∧ (orderWake p).bl.absent = p.bl.absent ∧
    (orderWake p).bl.framing = p.bl.framing ∧ (orderWake p).bl.check = p.bl.check ∧
    (orderWake p).bl.noise = p.bl.noise ∧ (orderWake p).bl.lost = p.bl.lost ∧ (orderWake p).bl.noReply = p.bl.noReply := by
  simp only [orderWake]
  (repeat' split) <;> simp

@[simp] theorem adviseWake_bl_frame (c : AdviceCause) (p : Part) :
    (adviseWake c p).bl.link = p.bl.link ∧ (adviseWake c p).bl.tx = p.bl.tx ∧
    (adviseWake c p).bl.lineOrder = p.bl.lineOrder ∧ (adviseWake c p).bl.txSeq = p.bl.txSeq ∧
    (adviseWake c p).bl.expSeq = p.bl.expSeq ∧ (adviseWake c p).bl.exch = p.bl.exch ∧
    (adviseWake c p).bl.attempts = p.bl.attempts ∧ (adviseWake c p).bl.replyTimer = p.bl.replyTimer ∧
    (adviseWake c p).bl.powerTimer = p.bl.powerTimer ∧ (adviseWake c p).bl.activateTimer = p.bl.activateTimer ∧
    (adviseWake c p).bl.helloTimer = p.bl.helloTimer ∧ (adviseWake c p).bl.stallTimer = p.bl.stallTimer ∧
    (adviseWake c p).bl.minHibTimer = p.bl.minHibTimer ∧ (adviseWake c p).bl.heldHello = p.bl.heldHello ∧
    (adviseWake c p).bl.helloAttempts = p.bl.helloAttempts ∧ (adviseWake c p).bl.ovReply = p.bl.ovReply ∧
    (adviseWake c p).bl.ovStall = p.bl.ovStall ∧ (adviseWake c p).bl.ident = p.bl.ident ∧
    (adviseWake c p).bl.status = p.bl.status ∧ (adviseWake c p).bl.reservation = p.bl.reservation ∧
    (adviseWake c p).bl.sample = p.bl.sample ∧ (adviseWake c p).bl.absent = p.bl.absent ∧
    (adviseWake c p).bl.framing = p.bl.framing ∧ (adviseWake c p).bl.check = p.bl.check ∧
    (adviseWake c p).bl.noise = p.bl.noise ∧ (adviseWake c p).bl.lost = p.bl.lost ∧
    (adviseWake c p).bl.noReply = p.bl.noReply := by
  simp only [adviseWake]
  (repeat' split) <;> simp

@[simp] theorem wakeCause_bl_frame (c : AdviceCause) (p : Part) :
    (wakeCause c p).bl.link = p.bl.link ∧ (wakeCause c p).bl.tx = p.bl.tx ∧
    (wakeCause c p).bl.lineOrder = p.bl.lineOrder ∧ (wakeCause c p).bl.txSeq = p.bl.txSeq ∧
    (wakeCause c p).bl.expSeq = p.bl.expSeq ∧ (wakeCause c p).bl.exch = p.bl.exch ∧
    (wakeCause c p).bl.attempts = p.bl.attempts ∧ (wakeCause c p).bl.replyTimer = p.bl.replyTimer ∧
    (wakeCause c p).bl.powerTimer = p.bl.powerTimer ∧ (wakeCause c p).bl.activateTimer = p.bl.activateTimer ∧
    (wakeCause c p).bl.helloTimer = p.bl.helloTimer ∧ (wakeCause c p).bl.stallTimer = p.bl.stallTimer ∧
    (wakeCause c p).bl.minHibTimer = p.bl.minHibTimer ∧ (wakeCause c p).bl.heldHello = p.bl.heldHello ∧
    (wakeCause c p).bl.helloAttempts = p.bl.helloAttempts ∧ (wakeCause c p).bl.ovReply = p.bl.ovReply ∧
    (wakeCause c p).bl.ovStall = p.bl.ovStall ∧ (wakeCause c p).bl.ident = p.bl.ident ∧
    (wakeCause c p).bl.status = p.bl.status ∧ (wakeCause c p).bl.reservation = p.bl.reservation ∧
    (wakeCause c p).bl.sample = p.bl.sample ∧ (wakeCause c p).bl.absent = p.bl.absent ∧
    (wakeCause c p).bl.framing = p.bl.framing ∧ (wakeCause c p).bl.check = p.bl.check ∧
    (wakeCause c p).bl.noise = p.bl.noise ∧ (wakeCause c p).bl.lost = p.bl.lost ∧
    (wakeCause c p).bl.noReply = p.bl.noReply := by
  simp only [wakeCause]
  (repeat' split) <;> simp

@[simp] theorem keyTold_bl_frame (p : Part) :
    (keyTold p).bl.link = p.bl.link ∧ (keyTold p).bl.tx = p.bl.tx ∧ (keyTold p).bl.lineOrder = p.bl.lineOrder ∧
    (keyTold p).bl.txSeq = p.bl.txSeq ∧ (keyTold p).bl.expSeq = p.bl.expSeq ∧ (keyTold p).bl.exch = p.bl.exch ∧
    (keyTold p).bl.attempts = p.bl.attempts ∧ (keyTold p).bl.replyTimer = p.bl.replyTimer ∧
    (keyTold p).bl.powerTimer = p.bl.powerTimer ∧ (keyTold p).bl.activateTimer = p.bl.activateTimer ∧
    (keyTold p).bl.helloTimer = p.bl.helloTimer ∧ (keyTold p).bl.stallTimer = p.bl.stallTimer ∧
    (keyTold p).bl.minHibTimer = p.bl.minHibTimer ∧ (keyTold p).bl.heldHello = p.bl.heldHello ∧
    (keyTold p).bl.helloAttempts = p.bl.helloAttempts ∧ (keyTold p).bl.ovReply = p.bl.ovReply ∧
    (keyTold p).bl.ovStall = p.bl.ovStall ∧ (keyTold p).bl.ident = p.bl.ident ∧ (keyTold p).bl.status = p.bl.status ∧
    (keyTold p).bl.reservation = p.bl.reservation ∧ (keyTold p).bl.sample = p.bl.sample ∧
    (keyTold p).bl.absent = p.bl.absent ∧ (keyTold p).bl.framing = p.bl.framing ∧ (keyTold p).bl.check = p.bl.check ∧
    (keyTold p).bl.noise = p.bl.noise ∧ (keyTold p).bl.lost = p.bl.lost ∧ (keyTold p).bl.noReply = p.bl.noReply := by
  simp [keyTold]

@[simp] theorem postureTold_bl_frame (q : Posture) (p : Part) :
    (postureTold q p).bl.link = p.bl.link ∧ (postureTold q p).bl.tx = p.bl.tx ∧
    (postureTold q p).bl.lineOrder = p.bl.lineOrder ∧ (postureTold q p).bl.txSeq = p.bl.txSeq ∧
    (postureTold q p).bl.expSeq = p.bl.expSeq ∧ (postureTold q p).bl.exch = p.bl.exch ∧
    (postureTold q p).bl.attempts = p.bl.attempts ∧ (postureTold q p).bl.replyTimer = p.bl.replyTimer ∧
    (postureTold q p).bl.powerTimer = p.bl.powerTimer ∧ (postureTold q p).bl.activateTimer = p.bl.activateTimer ∧
    (postureTold q p).bl.helloTimer = p.bl.helloTimer ∧ (postureTold q p).bl.stallTimer = p.bl.stallTimer ∧
    (postureTold q p).bl.minHibTimer = p.bl.minHibTimer ∧ (postureTold q p).bl.heldHello = p.bl.heldHello ∧
    (postureTold q p).bl.helloAttempts = p.bl.helloAttempts ∧ (postureTold q p).bl.ovReply = p.bl.ovReply ∧
    (postureTold q p).bl.ovStall = p.bl.ovStall ∧ (postureTold q p).bl.ident = p.bl.ident ∧
    (postureTold q p).bl.status = p.bl.status ∧ (postureTold q p).bl.reservation = p.bl.reservation ∧
    (postureTold q p).bl.sample = p.bl.sample ∧ (postureTold q p).bl.absent = p.bl.absent ∧
    (postureTold q p).bl.framing = p.bl.framing ∧ (postureTold q p).bl.check = p.bl.check ∧
    (postureTold q p).bl.noise = p.bl.noise ∧ (postureTold q p).bl.lost = p.bl.lost ∧
    (postureTold q p).bl.noReply = p.bl.noReply := by
  simp only [postureTold]
  (repeat' split) <;> simp

@[simp] theorem linkTold_bl_frame (old new : Link) (p : Part) :
    (linkTold old new p).bl.link = p.bl.link ∧ (linkTold old new p).bl.tx = p.bl.tx ∧
    (linkTold old new p).bl.lineOrder = p.bl.lineOrder ∧ (linkTold old new p).bl.txSeq = p.bl.txSeq ∧
    (linkTold old new p).bl.expSeq = p.bl.expSeq ∧ (linkTold old new p).bl.exch = p.bl.exch ∧
    (linkTold old new p).bl.attempts = p.bl.attempts ∧ (linkTold old new p).bl.replyTimer = p.bl.replyTimer ∧
    (linkTold old new p).bl.powerTimer = p.bl.powerTimer ∧ (linkTold old new p).bl.activateTimer = p.bl.activateTimer ∧
    (linkTold old new p).bl.helloTimer = p.bl.helloTimer ∧ (linkTold old new p).bl.stallTimer = p.bl.stallTimer ∧
    (linkTold old new p).bl.minHibTimer = p.bl.minHibTimer ∧ (linkTold old new p).bl.heldHello = p.bl.heldHello ∧
    (linkTold old new p).bl.helloAttempts = p.bl.helloAttempts ∧ (linkTold old new p).bl.ovReply = p.bl.ovReply ∧
    (linkTold old new p).bl.ovStall = p.bl.ovStall ∧ (linkTold old new p).bl.ident = p.bl.ident ∧
    (linkTold old new p).bl.status = p.bl.status ∧ (linkTold old new p).bl.reservation = p.bl.reservation ∧
    (linkTold old new p).bl.sample = p.bl.sample ∧ (linkTold old new p).bl.absent = p.bl.absent ∧
    (linkTold old new p).bl.framing = p.bl.framing ∧ (linkTold old new p).bl.check = p.bl.check ∧
    (linkTold old new p).bl.noise = p.bl.noise ∧ (linkTold old new p).bl.lost = p.bl.lost ∧
    (linkTold old new p).bl.noReply = p.bl.noReply := by
  simp only [linkTold]
  (repeat' split) <;> simp

@[simp] theorem penTold_bl_frame (present : Bool) (p : Part) :
    (penTold present p).bl.link = p.bl.link ∧ (penTold present p).bl.tx = p.bl.tx ∧
    (penTold present p).bl.lineOrder = p.bl.lineOrder ∧ (penTold present p).bl.txSeq = p.bl.txSeq ∧
    (penTold present p).bl.expSeq = p.bl.expSeq ∧ (penTold present p).bl.exch = p.bl.exch ∧
    (penTold present p).bl.attempts = p.bl.attempts ∧ (penTold present p).bl.replyTimer = p.bl.replyTimer ∧
    (penTold present p).bl.powerTimer = p.bl.powerTimer ∧ (penTold present p).bl.activateTimer = p.bl.activateTimer ∧
    (penTold present p).bl.helloTimer = p.bl.helloTimer ∧ (penTold present p).bl.stallTimer = p.bl.stallTimer ∧
    (penTold present p).bl.minHibTimer = p.bl.minHibTimer ∧ (penTold present p).bl.heldHello = p.bl.heldHello ∧
    (penTold present p).bl.helloAttempts = p.bl.helloAttempts ∧ (penTold present p).bl.ovReply = p.bl.ovReply ∧
    (penTold present p).bl.ovStall = p.bl.ovStall ∧ (penTold present p).bl.ident = p.bl.ident ∧
    (penTold present p).bl.status = p.bl.status ∧ (penTold present p).bl.reservation = p.bl.reservation ∧
    (penTold present p).bl.sample = p.bl.sample ∧ (penTold present p).bl.absent = p.bl.absent ∧
    (penTold present p).bl.framing = p.bl.framing ∧ (penTold present p).bl.check = p.bl.check ∧
    (penTold present p).bl.noise = p.bl.noise ∧ (penTold present p).bl.lost = p.bl.lost ∧
    (penTold present p).bl.noReply = p.bl.noReply := by
  simp only [penTold]
  (repeat' split) <;> simp

@[simp] theorem lidTold_bl_frame (active : Bool) (p : Part) :
    (lidTold active p).bl.link = p.bl.link ∧ (lidTold active p).bl.tx = p.bl.tx ∧
    (lidTold active p).bl.lineOrder = p.bl.lineOrder ∧ (lidTold active p).bl.txSeq = p.bl.txSeq ∧
    (lidTold active p).bl.expSeq = p.bl.expSeq ∧ (lidTold active p).bl.exch = p.bl.exch ∧
    (lidTold active p).bl.attempts = p.bl.attempts ∧ (lidTold active p).bl.replyTimer = p.bl.replyTimer ∧
    (lidTold active p).bl.powerTimer = p.bl.powerTimer ∧ (lidTold active p).bl.activateTimer = p.bl.activateTimer ∧
    (lidTold active p).bl.helloTimer = p.bl.helloTimer ∧ (lidTold active p).bl.stallTimer = p.bl.stallTimer ∧
    (lidTold active p).bl.minHibTimer = p.bl.minHibTimer ∧ (lidTold active p).bl.heldHello = p.bl.heldHello ∧
    (lidTold active p).bl.helloAttempts = p.bl.helloAttempts ∧ (lidTold active p).bl.ovReply = p.bl.ovReply ∧
    (lidTold active p).bl.ovStall = p.bl.ovStall ∧ (lidTold active p).bl.ident = p.bl.ident ∧
    (lidTold active p).bl.status = p.bl.status ∧ (lidTold active p).bl.reservation = p.bl.reservation ∧
    (lidTold active p).bl.sample = p.bl.sample ∧ (lidTold active p).bl.absent = p.bl.absent ∧
    (lidTold active p).bl.framing = p.bl.framing ∧ (lidTold active p).bl.check = p.bl.check ∧
    (lidTold active p).bl.noise = p.bl.noise ∧ (lidTold active p).bl.lost = p.bl.lost ∧
    (lidTold active p).bl.noReply = p.bl.noReply := by
  simp only [lidTold]
  (repeat' split) <;> simp

@[simp] theorem lidSampleTold_bl_frame (x y z : Int) (fresh : Bool) (p : Part) :
    (lidSampleTold x y z fresh p).bl.link = p.bl.link ∧ (lidSampleTold x y z fresh p).bl.tx = p.bl.tx ∧
    (lidSampleTold x y z fresh p).bl.lineOrder = p.bl.lineOrder ∧ (lidSampleTold x y z fresh p).bl.txSeq = p.bl.txSeq ∧
    (lidSampleTold x y z fresh p).bl.expSeq = p.bl.expSeq ∧ (lidSampleTold x y z fresh p).bl.exch = p.bl.exch ∧
    (lidSampleTold x y z fresh p).bl.attempts = p.bl.attempts ∧
    (lidSampleTold x y z fresh p).bl.replyTimer = p.bl.replyTimer ∧
    (lidSampleTold x y z fresh p).bl.powerTimer = p.bl.powerTimer ∧
    (lidSampleTold x y z fresh p).bl.activateTimer = p.bl.activateTimer ∧
    (lidSampleTold x y z fresh p).bl.helloTimer = p.bl.helloTimer ∧
    (lidSampleTold x y z fresh p).bl.stallTimer = p.bl.stallTimer ∧
    (lidSampleTold x y z fresh p).bl.minHibTimer = p.bl.minHibTimer ∧
    (lidSampleTold x y z fresh p).bl.heldHello = p.bl.heldHello ∧
    (lidSampleTold x y z fresh p).bl.helloAttempts = p.bl.helloAttempts ∧
    (lidSampleTold x y z fresh p).bl.ovReply = p.bl.ovReply ∧ (lidSampleTold x y z fresh p).bl.ovStall = p.bl.ovStall ∧
    (lidSampleTold x y z fresh p).bl.ident = p.bl.ident ∧ (lidSampleTold x y z fresh p).bl.status = p.bl.status ∧
    (lidSampleTold x y z fresh p).bl.reservation = p.bl.reservation ∧
    (lidSampleTold x y z fresh p).bl.sample = p.bl.sample ∧ (lidSampleTold x y z fresh p).bl.absent = p.bl.absent ∧
    (lidSampleTold x y z fresh p).bl.framing = p.bl.framing ∧ (lidSampleTold x y z fresh p).bl.check = p.bl.check ∧
    (lidSampleTold x y z fresh p).bl.noise = p.bl.noise ∧ (lidSampleTold x y z fresh p).bl.lost = p.bl.lost ∧
    (lidSampleTold x y z fresh p).bl.noReply = p.bl.noReply := by
  simp only [lidSampleTold]
  (repeat' split) <;> simp

@[simp] theorem queuePress_bl_frame (code : Nat) (synthesized : Bool) (time : Word) (p : Part) :
    (queuePress code synthesized time p).bl.link = p.bl.link ∧ (queuePress code synthesized time p).bl.tx = p.bl.tx ∧
    (queuePress code synthesized time p).bl.lineOrder = p.bl.lineOrder ∧
    (queuePress code synthesized time p).bl.txSeq = p.bl.txSeq ∧
    (queuePress code synthesized time p).bl.expSeq = p.bl.expSeq ∧
    (queuePress code synthesized time p).bl.exch = p.bl.exch ∧
    (queuePress code synthesized time p).bl.attempts = p.bl.attempts ∧
    (queuePress code synthesized time p).bl.replyTimer = p.bl.replyTimer ∧
    (queuePress code synthesized time p).bl.powerTimer = p.bl.powerTimer ∧
    (queuePress code synthesized time p).bl.activateTimer = p.bl.activateTimer ∧
    (queuePress code synthesized time p).bl.helloTimer = p.bl.helloTimer ∧
    (queuePress code synthesized time p).bl.stallTimer = p.bl.stallTimer ∧
    (queuePress code synthesized time p).bl.minHibTimer = p.bl.minHibTimer ∧
    (queuePress code synthesized time p).bl.heldHello = p.bl.heldHello ∧
    (queuePress code synthesized time p).bl.helloAttempts = p.bl.helloAttempts ∧
    (queuePress code synthesized time p).bl.ovReply = p.bl.ovReply ∧
    (queuePress code synthesized time p).bl.ovStall = p.bl.ovStall ∧
    (queuePress code synthesized time p).bl.ident = p.bl.ident ∧
    (queuePress code synthesized time p).bl.status = p.bl.status ∧
    (queuePress code synthesized time p).bl.reservation = p.bl.reservation ∧
    (queuePress code synthesized time p).bl.sample = p.bl.sample ∧
    (queuePress code synthesized time p).bl.absent = p.bl.absent ∧
    (queuePress code synthesized time p).bl.framing = p.bl.framing ∧
    (queuePress code synthesized time p).bl.check = p.bl.check ∧
    (queuePress code synthesized time p).bl.noise = p.bl.noise ∧
    (queuePress code synthesized time p).bl.lost = p.bl.lost ∧
    (queuePress code synthesized time p).bl.noReply = p.bl.noReply := by
  simp only [queuePress]
  (repeat' split) <;> simp

@[simp] theorem press_bl_frame (code : Nat) (time : Word) (p : Part) :
    (press code time p).bl.link = p.bl.link ∧ (press code time p).bl.tx = p.bl.tx ∧
    (press code time p).bl.lineOrder = p.bl.lineOrder ∧ (press code time p).bl.txSeq = p.bl.txSeq ∧
    (press code time p).bl.expSeq = p.bl.expSeq ∧ (press code time p).bl.exch = p.bl.exch ∧
    (press code time p).bl.attempts = p.bl.attempts ∧ (press code time p).bl.replyTimer = p.bl.replyTimer ∧
    (press code time p).bl.powerTimer = p.bl.powerTimer ∧ (press code time p).bl.activateTimer = p.bl.activateTimer ∧
    (press code time p).bl.helloTimer = p.bl.helloTimer ∧ (press code time p).bl.stallTimer = p.bl.stallTimer ∧
    (press code time p).bl.minHibTimer = p.bl.minHibTimer ∧ (press code time p).bl.heldHello = p.bl.heldHello ∧
    (press code time p).bl.helloAttempts = p.bl.helloAttempts ∧ (press code time p).bl.ovReply = p.bl.ovReply ∧
    (press code time p).bl.ovStall = p.bl.ovStall ∧ (press code time p).bl.ident = p.bl.ident ∧
    (press code time p).bl.status = p.bl.status ∧ (press code time p).bl.reservation = p.bl.reservation ∧
    (press code time p).bl.sample = p.bl.sample ∧ (press code time p).bl.absent = p.bl.absent ∧
    (press code time p).bl.framing = p.bl.framing ∧ (press code time p).bl.check = p.bl.check ∧
    (press code time p).bl.noise = p.bl.noise ∧ (press code time p).bl.lost = p.bl.lost ∧
    (press code time p).bl.noReply = p.bl.noReply := by
  simp only [press]
  (repeat' split) <;> simp

@[simp] theorem keyTransition_bl_frame (time : Word) (p : Part) (e : KeyEvent) :
    (keyTransition time p e).bl.link = p.bl.link ∧ (keyTransition time p e).bl.tx = p.bl.tx ∧
    (keyTransition time p e).bl.lineOrder = p.bl.lineOrder ∧ (keyTransition time p e).bl.txSeq = p.bl.txSeq ∧
    (keyTransition time p e).bl.expSeq = p.bl.expSeq ∧ (keyTransition time p e).bl.exch = p.bl.exch ∧
    (keyTransition time p e).bl.attempts = p.bl.attempts ∧ (keyTransition time p e).bl.replyTimer = p.bl.replyTimer ∧
    (keyTransition time p e).bl.powerTimer = p.bl.powerTimer ∧
    (keyTransition time p e).bl.activateTimer = p.bl.activateTimer ∧
    (keyTransition time p e).bl.helloTimer = p.bl.helloTimer ∧
    (keyTransition time p e).bl.stallTimer = p.bl.stallTimer ∧
    (keyTransition time p e).bl.minHibTimer = p.bl.minHibTimer ∧
    (keyTransition time p e).bl.heldHello = p.bl.heldHello ∧
    (keyTransition time p e).bl.helloAttempts = p.bl.helloAttempts ∧
    (keyTransition time p e).bl.ovReply = p.bl.ovReply ∧ (keyTransition time p e).bl.ovStall = p.bl.ovStall ∧
    (keyTransition time p e).bl.ident = p.bl.ident ∧ (keyTransition time p e).bl.status = p.bl.status ∧
    (keyTransition time p e).bl.reservation = p.bl.reservation ∧ (keyTransition time p e).bl.sample = p.bl.sample ∧
    (keyTransition time p e).bl.absent = p.bl.absent ∧ (keyTransition time p e).bl.framing = p.bl.framing ∧
    (keyTransition time p e).bl.check = p.bl.check ∧ (keyTransition time p e).bl.noise = p.bl.noise ∧
    (keyTransition time p e).bl.lost = p.bl.lost ∧ (keyTransition time p e).bl.noReply = p.bl.noReply := by
  simp only [keyTransition]
  (repeat' split) <;> simp

@[simp] theorem resyncPress_bl_frame (time : Word) (p : Part) (code : Nat) :
    (resyncPress time p code).bl.link = p.bl.link ∧ (resyncPress time p code).bl.tx = p.bl.tx ∧
    (resyncPress time p code).bl.lineOrder = p.bl.lineOrder ∧ (resyncPress time p code).bl.txSeq = p.bl.txSeq ∧
    (resyncPress time p code).bl.expSeq = p.bl.expSeq ∧ (resyncPress time p code).bl.exch = p.bl.exch ∧
    (resyncPress time p code).bl.attempts = p.bl.attempts ∧ (resyncPress time p code).bl.replyTimer = p.bl.replyTimer ∧
    (resyncPress time p code).bl.powerTimer = p.bl.powerTimer ∧
    (resyncPress time p code).bl.activateTimer = p.bl.activateTimer ∧
    (resyncPress time p code).bl.helloTimer = p.bl.helloTimer ∧
    (resyncPress time p code).bl.stallTimer = p.bl.stallTimer ∧
    (resyncPress time p code).bl.minHibTimer = p.bl.minHibTimer ∧
    (resyncPress time p code).bl.heldHello = p.bl.heldHello ∧
    (resyncPress time p code).bl.helloAttempts = p.bl.helloAttempts ∧
    (resyncPress time p code).bl.ovReply = p.bl.ovReply ∧ (resyncPress time p code).bl.ovStall = p.bl.ovStall ∧
    (resyncPress time p code).bl.ident = p.bl.ident ∧ (resyncPress time p code).bl.status = p.bl.status ∧
    (resyncPress time p code).bl.reservation = p.bl.reservation ∧ (resyncPress time p code).bl.sample = p.bl.sample ∧
    (resyncPress time p code).bl.absent = p.bl.absent ∧ (resyncPress time p code).bl.framing = p.bl.framing ∧
    (resyncPress time p code).bl.check = p.bl.check ∧ (resyncPress time p code).bl.noise = p.bl.noise ∧
    (resyncPress time p code).bl.lost = p.bl.lost ∧ (resyncPress time p code).bl.noReply = p.bl.noReply := by
  simp only [resyncPress]
  (repeat' split) <;> simp

@[simp] theorem decideSuppression_bl_frame (p : Part) :
    (decideSuppression p).bl.link = p.bl.link ∧ (decideSuppression p).bl.tx = p.bl.tx ∧
    (decideSuppression p).bl.lineOrder = p.bl.lineOrder ∧ (decideSuppression p).bl.txSeq = p.bl.txSeq ∧
    (decideSuppression p).bl.expSeq = p.bl.expSeq ∧ (decideSuppression p).bl.exch = p.bl.exch ∧
    (decideSuppression p).bl.attempts = p.bl.attempts ∧ (decideSuppression p).bl.replyTimer = p.bl.replyTimer ∧
    (decideSuppression p).bl.powerTimer = p.bl.powerTimer ∧
    (decideSuppression p).bl.activateTimer = p.bl.activateTimer ∧
    (decideSuppression p).bl.helloTimer = p.bl.helloTimer ∧ (decideSuppression p).bl.stallTimer = p.bl.stallTimer ∧
    (decideSuppression p).bl.minHibTimer = p.bl.minHibTimer ∧ (decideSuppression p).bl.heldHello = p.bl.heldHello ∧
    (decideSuppression p).bl.helloAttempts = p.bl.helloAttempts ∧ (decideSuppression p).bl.ovReply = p.bl.ovReply ∧
    (decideSuppression p).bl.ovStall = p.bl.ovStall ∧ (decideSuppression p).bl.ident = p.bl.ident ∧
    (decideSuppression p).bl.status = p.bl.status ∧ (decideSuppression p).bl.reservation = p.bl.reservation ∧
    (decideSuppression p).bl.sample = p.bl.sample ∧ (decideSuppression p).bl.absent = p.bl.absent ∧
    (decideSuppression p).bl.framing = p.bl.framing ∧ (decideSuppression p).bl.check = p.bl.check ∧
    (decideSuppression p).bl.noise = p.bl.noise ∧ (decideSuppression p).bl.lost = p.bl.lost ∧
    (decideSuppression p).bl.noReply = p.bl.noReply := by
  simp only [decideSuppression]
  (repeat' split) <;> simp

@[simp] theorem tellPosture_bl_frame (p : Part) :
    (tellPosture p).bl.link = p.bl.link ∧ (tellPosture p).bl.tx = p.bl.tx ∧
    (tellPosture p).bl.lineOrder = p.bl.lineOrder ∧ (tellPosture p).bl.txSeq = p.bl.txSeq ∧
    (tellPosture p).bl.expSeq = p.bl.expSeq ∧ (tellPosture p).bl.exch = p.bl.exch ∧
    (tellPosture p).bl.attempts = p.bl.attempts ∧ (tellPosture p).bl.replyTimer = p.bl.replyTimer ∧
    (tellPosture p).bl.powerTimer = p.bl.powerTimer ∧ (tellPosture p).bl.activateTimer = p.bl.activateTimer ∧
    (tellPosture p).bl.helloTimer = p.bl.helloTimer ∧ (tellPosture p).bl.stallTimer = p.bl.stallTimer ∧
    (tellPosture p).bl.minHibTimer = p.bl.minHibTimer ∧ (tellPosture p).bl.heldHello = p.bl.heldHello ∧
    (tellPosture p).bl.helloAttempts = p.bl.helloAttempts ∧ (tellPosture p).bl.ovReply = p.bl.ovReply ∧
    (tellPosture p).bl.ovStall = p.bl.ovStall ∧ (tellPosture p).bl.ident = p.bl.ident ∧
    (tellPosture p).bl.status = p.bl.status ∧ (tellPosture p).bl.reservation = p.bl.reservation ∧
    (tellPosture p).bl.sample = p.bl.sample ∧ (tellPosture p).bl.absent = p.bl.absent ∧
    (tellPosture p).bl.framing = p.bl.framing ∧ (tellPosture p).bl.check = p.bl.check ∧
    (tellPosture p).bl.noise = p.bl.noise ∧ (tellPosture p).bl.lost = p.bl.lost ∧
    (tellPosture p).bl.noReply = p.bl.noReply := by
  simp only [tellPosture]
  (repeat' split) <;> simp

@[simp] theorem handOn_bl_frame (before : Posture) (p : Part) :
    (handOn before p).bl.link = p.bl.link ∧ (handOn before p).bl.tx = p.bl.tx ∧
    (handOn before p).bl.lineOrder = p.bl.lineOrder ∧ (handOn before p).bl.txSeq = p.bl.txSeq ∧
    (handOn before p).bl.expSeq = p.bl.expSeq ∧ (handOn before p).bl.exch = p.bl.exch ∧
    (handOn before p).bl.attempts = p.bl.attempts ∧ (handOn before p).bl.replyTimer = p.bl.replyTimer ∧
    (handOn before p).bl.powerTimer = p.bl.powerTimer ∧ (handOn before p).bl.activateTimer = p.bl.activateTimer ∧
    (handOn before p).bl.helloTimer = p.bl.helloTimer ∧ (handOn before p).bl.stallTimer = p.bl.stallTimer ∧
    (handOn before p).bl.minHibTimer = p.bl.minHibTimer ∧ (handOn before p).bl.heldHello = p.bl.heldHello ∧
    (handOn before p).bl.helloAttempts = p.bl.helloAttempts ∧ (handOn before p).bl.ovReply = p.bl.ovReply ∧
    (handOn before p).bl.ovStall = p.bl.ovStall ∧ (handOn before p).bl.ident = p.bl.ident ∧
    (handOn before p).bl.status = p.bl.status ∧ (handOn before p).bl.reservation = p.bl.reservation ∧
    (handOn before p).bl.sample = p.bl.sample ∧ (handOn before p).bl.absent = p.bl.absent ∧
    (handOn before p).bl.framing = p.bl.framing ∧ (handOn before p).bl.check = p.bl.check ∧
    (handOn before p).bl.noise = p.bl.noise ∧ (handOn before p).bl.lost = p.bl.lost ∧
    (handOn before p).bl.noReply = p.bl.noReply := by
  simp only [handOn]
  (repeat' split) <;> simp

@[simp] theorem evaluatePosture_bl_frame (p : Part) :
    (evaluatePosture p).bl.link = p.bl.link ∧ (evaluatePosture p).bl.tx = p.bl.tx ∧
    (evaluatePosture p).bl.lineOrder = p.bl.lineOrder ∧ (evaluatePosture p).bl.txSeq = p.bl.txSeq ∧
    (evaluatePosture p).bl.expSeq = p.bl.expSeq ∧ (evaluatePosture p).bl.exch = p.bl.exch ∧
    (evaluatePosture p).bl.attempts = p.bl.attempts ∧ (evaluatePosture p).bl.replyTimer = p.bl.replyTimer ∧
    (evaluatePosture p).bl.powerTimer = p.bl.powerTimer ∧ (evaluatePosture p).bl.activateTimer = p.bl.activateTimer ∧
    (evaluatePosture p).bl.helloTimer = p.bl.helloTimer ∧ (evaluatePosture p).bl.stallTimer = p.bl.stallTimer ∧
    (evaluatePosture p).bl.minHibTimer = p.bl.minHibTimer ∧ (evaluatePosture p).bl.heldHello = p.bl.heldHello ∧
    (evaluatePosture p).bl.helloAttempts = p.bl.helloAttempts ∧ (evaluatePosture p).bl.ovReply = p.bl.ovReply ∧
    (evaluatePosture p).bl.ovStall = p.bl.ovStall ∧ (evaluatePosture p).bl.ident = p.bl.ident ∧
    (evaluatePosture p).bl.status = p.bl.status ∧ (evaluatePosture p).bl.reservation = p.bl.reservation ∧
    (evaluatePosture p).bl.sample = p.bl.sample ∧ (evaluatePosture p).bl.absent = p.bl.absent ∧
    (evaluatePosture p).bl.framing = p.bl.framing ∧ (evaluatePosture p).bl.check = p.bl.check ∧
    (evaluatePosture p).bl.noise = p.bl.noise ∧ (evaluatePosture p).bl.lost = p.bl.lost ∧
    (evaluatePosture p).bl.noReply = p.bl.noReply := by
  simp [evaluatePosture]

@[simp] theorem postureExpired_bl_frame (p : Part) :
    (postureExpired p).bl.link = p.bl.link ∧ (postureExpired p).bl.tx = p.bl.tx ∧
    (postureExpired p).bl.lineOrder = p.bl.lineOrder ∧ (postureExpired p).bl.txSeq = p.bl.txSeq ∧
    (postureExpired p).bl.expSeq = p.bl.expSeq ∧ (postureExpired p).bl.exch = p.bl.exch ∧
    (postureExpired p).bl.attempts = p.bl.attempts ∧ (postureExpired p).bl.replyTimer = p.bl.replyTimer ∧
    (postureExpired p).bl.powerTimer = p.bl.powerTimer ∧ (postureExpired p).bl.activateTimer = p.bl.activateTimer ∧
    (postureExpired p).bl.helloTimer = p.bl.helloTimer ∧ (postureExpired p).bl.stallTimer = p.bl.stallTimer ∧
    (postureExpired p).bl.minHibTimer = p.bl.minHibTimer ∧ (postureExpired p).bl.heldHello = p.bl.heldHello ∧
    (postureExpired p).bl.helloAttempts = p.bl.helloAttempts ∧ (postureExpired p).bl.ovReply = p.bl.ovReply ∧
    (postureExpired p).bl.ovStall = p.bl.ovStall ∧ (postureExpired p).bl.ident = p.bl.ident ∧
    (postureExpired p).bl.status = p.bl.status ∧ (postureExpired p).bl.reservation = p.bl.reservation ∧
    (postureExpired p).bl.sample = p.bl.sample ∧ (postureExpired p).bl.absent = p.bl.absent ∧
    (postureExpired p).bl.framing = p.bl.framing ∧ (postureExpired p).bl.check = p.bl.check ∧
    (postureExpired p).bl.noise = p.bl.noise ∧ (postureExpired p).bl.lost = p.bl.lost ∧
    (postureExpired p).bl.noReply = p.bl.noReply := by
  simp [postureExpired]

@[simp] theorem postureDelivery_bl_frame (d : StoredDelivery) (p : Part) :
    (postureDelivery d p).bl.link = p.bl.link ∧ (postureDelivery d p).bl.tx = p.bl.tx ∧
    (postureDelivery d p).bl.lineOrder = p.bl.lineOrder ∧ (postureDelivery d p).bl.txSeq = p.bl.txSeq ∧
    (postureDelivery d p).bl.expSeq = p.bl.expSeq ∧ (postureDelivery d p).bl.exch = p.bl.exch ∧
    (postureDelivery d p).bl.attempts = p.bl.attempts ∧ (postureDelivery d p).bl.replyTimer = p.bl.replyTimer ∧
    (postureDelivery d p).bl.powerTimer = p.bl.powerTimer ∧
    (postureDelivery d p).bl.activateTimer = p.bl.activateTimer ∧
    (postureDelivery d p).bl.helloTimer = p.bl.helloTimer ∧ (postureDelivery d p).bl.stallTimer = p.bl.stallTimer ∧
    (postureDelivery d p).bl.minHibTimer = p.bl.minHibTimer ∧ (postureDelivery d p).bl.heldHello = p.bl.heldHello ∧
    (postureDelivery d p).bl.helloAttempts = p.bl.helloAttempts ∧ (postureDelivery d p).bl.ovReply = p.bl.ovReply ∧
    (postureDelivery d p).bl.ovStall = p.bl.ovStall ∧ (postureDelivery d p).bl.ident = p.bl.ident ∧
    (postureDelivery d p).bl.status = p.bl.status ∧ (postureDelivery d p).bl.reservation = p.bl.reservation ∧
    (postureDelivery d p).bl.sample = p.bl.sample ∧ (postureDelivery d p).bl.absent = p.bl.absent ∧
    (postureDelivery d p).bl.framing = p.bl.framing ∧ (postureDelivery d p).bl.check = p.bl.check ∧
    (postureDelivery d p).bl.noise = p.bl.noise ∧ (postureDelivery d p).bl.lost = p.bl.lost ∧
    (postureDelivery d p).bl.noReply = p.bl.noReply := by
  simp [postureDelivery]

@[simp] theorem postureSettings_bl_frame (old : Settings) (p : Part) :
    (postureSettings old p).bl.link = p.bl.link ∧ (postureSettings old p).bl.tx = p.bl.tx ∧
    (postureSettings old p).bl.lineOrder = p.bl.lineOrder ∧ (postureSettings old p).bl.txSeq = p.bl.txSeq ∧
    (postureSettings old p).bl.expSeq = p.bl.expSeq ∧ (postureSettings old p).bl.exch = p.bl.exch ∧
    (postureSettings old p).bl.attempts = p.bl.attempts ∧ (postureSettings old p).bl.replyTimer = p.bl.replyTimer ∧
    (postureSettings old p).bl.powerTimer = p.bl.powerTimer ∧
    (postureSettings old p).bl.activateTimer = p.bl.activateTimer ∧
    (postureSettings old p).bl.helloTimer = p.bl.helloTimer ∧ (postureSettings old p).bl.stallTimer = p.bl.stallTimer ∧
    (postureSettings old p).bl.minHibTimer = p.bl.minHibTimer ∧ (postureSettings old p).bl.heldHello = p.bl.heldHello ∧
    (postureSettings old p).bl.helloAttempts = p.bl.helloAttempts ∧ (postureSettings old p).bl.ovReply = p.bl.ovReply ∧
    (postureSettings old p).bl.ovStall = p.bl.ovStall ∧ (postureSettings old p).bl.ident = p.bl.ident ∧
    (postureSettings old p).bl.status = p.bl.status ∧ (postureSettings old p).bl.reservation = p.bl.reservation ∧
    (postureSettings old p).bl.sample = p.bl.sample ∧ (postureSettings old p).bl.absent = p.bl.absent ∧
    (postureSettings old p).bl.framing = p.bl.framing ∧ (postureSettings old p).bl.check = p.bl.check ∧
    (postureSettings old p).bl.noise = p.bl.noise ∧ (postureSettings old p).bl.lost = p.bl.lost ∧
    (postureSettings old p).bl.noReply = p.bl.noReply := by
  simp only [postureSettings]
  (repeat' split) <;> simp

@[simp] theorem askWake_bl_frame (p : Part) :
    (askWake p).bl.link = p.bl.link ∧ (askWake p).bl.tx = p.bl.tx ∧ (askWake p).bl.lineOrder = p.bl.lineOrder ∧
    (askWake p).bl.txSeq = p.bl.txSeq ∧ (askWake p).bl.expSeq = p.bl.expSeq ∧ (askWake p).bl.exch = p.bl.exch ∧
    (askWake p).bl.attempts = p.bl.attempts ∧ (askWake p).bl.replyTimer = p.bl.replyTimer ∧
    (askWake p).bl.powerTimer = p.bl.powerTimer ∧ (askWake p).bl.activateTimer = p.bl.activateTimer ∧
    (askWake p).bl.helloTimer = p.bl.helloTimer ∧ (askWake p).bl.stallTimer = p.bl.stallTimer ∧
    (askWake p).bl.minHibTimer = p.bl.minHibTimer ∧ (askWake p).bl.heldHello = p.bl.heldHello ∧
    (askWake p).bl.helloAttempts = p.bl.helloAttempts ∧ (askWake p).bl.ovReply = p.bl.ovReply ∧
    (askWake p).bl.ovStall = p.bl.ovStall ∧ (askWake p).bl.ident = p.bl.ident ∧ (askWake p).bl.status = p.bl.status ∧
    (askWake p).bl.reservation = p.bl.reservation ∧ (askWake p).bl.sample = p.bl.sample ∧
    (askWake p).bl.absent = p.bl.absent ∧ (askWake p).bl.framing = p.bl.framing ∧ (askWake p).bl.check = p.bl.check ∧
    (askWake p).bl.noise = p.bl.noise ∧ (askWake p).bl.lost = p.bl.lost ∧ (askWake p).bl.noReply = p.bl.noReply := by
  simp only [askWake]
  (repeat' split) <;> simp

@[simp] theorem submit_bl_frame (origin : Origin) (op : AttrOp) (p : Part) :
    (submit origin op p).bl.link = p.bl.link ∧ (submit origin op p).bl.tx = p.bl.tx ∧
    (submit origin op p).bl.lineOrder = p.bl.lineOrder ∧ (submit origin op p).bl.txSeq = p.bl.txSeq ∧
    (submit origin op p).bl.expSeq = p.bl.expSeq ∧ (submit origin op p).bl.exch = p.bl.exch ∧
    (submit origin op p).bl.attempts = p.bl.attempts ∧ (submit origin op p).bl.replyTimer = p.bl.replyTimer ∧
    (submit origin op p).bl.powerTimer = p.bl.powerTimer ∧ (submit origin op p).bl.activateTimer = p.bl.activateTimer ∧
    (submit origin op p).bl.helloTimer = p.bl.helloTimer ∧ (submit origin op p).bl.stallTimer = p.bl.stallTimer ∧
    (submit origin op p).bl.minHibTimer = p.bl.minHibTimer ∧ (submit origin op p).bl.heldHello = p.bl.heldHello ∧
    (submit origin op p).bl.helloAttempts = p.bl.helloAttempts ∧ (submit origin op p).bl.ovReply = p.bl.ovReply ∧
    (submit origin op p).bl.ovStall = p.bl.ovStall ∧ (submit origin op p).bl.ident = p.bl.ident ∧
    (submit origin op p).bl.status = p.bl.status ∧ (submit origin op p).bl.reservation = p.bl.reservation ∧
    (submit origin op p).bl.sample = p.bl.sample ∧ (submit origin op p).bl.absent = p.bl.absent ∧
    (submit origin op p).bl.framing = p.bl.framing ∧ (submit origin op p).bl.check = p.bl.check ∧
    (submit origin op p).bl.noise = p.bl.noise ∧ (submit origin op p).bl.lost = p.bl.lost ∧
    (submit origin op p).bl.noReply = p.bl.noReply := by
  simp [submit]

@[simp] theorem runRequest_bl_frame (r : Request) (p : Part) :
    (runRequest r p).bl.link = p.bl.link ∧ (runRequest r p).bl.tx = p.bl.tx ∧
    (runRequest r p).bl.lineOrder = p.bl.lineOrder ∧ (runRequest r p).bl.txSeq = p.bl.txSeq ∧
    (runRequest r p).bl.expSeq = p.bl.expSeq ∧ (runRequest r p).bl.exch = p.bl.exch ∧
    (runRequest r p).bl.attempts = p.bl.attempts ∧ (runRequest r p).bl.replyTimer = p.bl.replyTimer ∧
    (runRequest r p).bl.powerTimer = p.bl.powerTimer ∧ (runRequest r p).bl.activateTimer = p.bl.activateTimer ∧
    (runRequest r p).bl.helloTimer = p.bl.helloTimer ∧ (runRequest r p).bl.stallTimer = p.bl.stallTimer ∧
    (runRequest r p).bl.minHibTimer = p.bl.minHibTimer ∧ (runRequest r p).bl.heldHello = p.bl.heldHello ∧
    (runRequest r p).bl.helloAttempts = p.bl.helloAttempts ∧ (runRequest r p).bl.ovReply = p.bl.ovReply ∧
    (runRequest r p).bl.ovStall = p.bl.ovStall ∧ (runRequest r p).bl.ident = p.bl.ident ∧
    (runRequest r p).bl.status = p.bl.status ∧ (runRequest r p).bl.reservation = p.bl.reservation ∧
    (runRequest r p).bl.sample = p.bl.sample ∧ (runRequest r p).bl.absent = p.bl.absent ∧
    (runRequest r p).bl.framing = p.bl.framing ∧ (runRequest r p).bl.check = p.bl.check ∧
    (runRequest r p).bl.noise = p.bl.noise ∧ (runRequest r p).bl.lost = p.bl.lost ∧
    (runRequest r p).bl.noReply = p.bl.noReply := by
  simp only [runRequest]
  (repeat' split) <;> simp

@[simp] theorem waitRequest_bl_frame (r : Request) (p : Part) :
    (waitRequest r p).bl.link = p.bl.link ∧ (waitRequest r p).bl.tx = p.bl.tx ∧
    (waitRequest r p).bl.lineOrder = p.bl.lineOrder ∧ (waitRequest r p).bl.txSeq = p.bl.txSeq ∧
    (waitRequest r p).bl.expSeq = p.bl.expSeq ∧ (waitRequest r p).bl.exch = p.bl.exch ∧
    (waitRequest r p).bl.attempts = p.bl.attempts ∧ (waitRequest r p).bl.replyTimer = p.bl.replyTimer ∧
    (waitRequest r p).bl.powerTimer = p.bl.powerTimer ∧ (waitRequest r p).bl.activateTimer = p.bl.activateTimer ∧
    (waitRequest r p).bl.helloTimer = p.bl.helloTimer ∧ (waitRequest r p).bl.stallTimer = p.bl.stallTimer ∧
    (waitRequest r p).bl.minHibTimer = p.bl.minHibTimer ∧ (waitRequest r p).bl.heldHello = p.bl.heldHello ∧
    (waitRequest r p).bl.helloAttempts = p.bl.helloAttempts ∧ (waitRequest r p).bl.ovReply = p.bl.ovReply ∧
    (waitRequest r p).bl.ovStall = p.bl.ovStall ∧ (waitRequest r p).bl.ident = p.bl.ident ∧
    (waitRequest r p).bl.status = p.bl.status ∧ (waitRequest r p).bl.reservation = p.bl.reservation ∧
    (waitRequest r p).bl.sample = p.bl.sample ∧ (waitRequest r p).bl.absent = p.bl.absent ∧
    (waitRequest r p).bl.framing = p.bl.framing ∧ (waitRequest r p).bl.check = p.bl.check ∧
    (waitRequest r p).bl.noise = p.bl.noise ∧ (waitRequest r p).bl.lost = p.bl.lost ∧
    (waitRequest r p).bl.noReply = p.bl.noReply := by
  simp [waitRequest]

@[simp] theorem takeRequests_bl_frame (rs : List Request) (p : Part) :
    (takeRequests rs p).bl.link = p.bl.link ∧ (takeRequests rs p).bl.tx = p.bl.tx ∧
    (takeRequests rs p).bl.lineOrder = p.bl.lineOrder ∧ (takeRequests rs p).bl.txSeq = p.bl.txSeq ∧
    (takeRequests rs p).bl.expSeq = p.bl.expSeq ∧ (takeRequests rs p).bl.exch = p.bl.exch ∧
    (takeRequests rs p).bl.attempts = p.bl.attempts ∧ (takeRequests rs p).bl.replyTimer = p.bl.replyTimer ∧
    (takeRequests rs p).bl.powerTimer = p.bl.powerTimer ∧ (takeRequests rs p).bl.activateTimer = p.bl.activateTimer ∧
    (takeRequests rs p).bl.helloTimer = p.bl.helloTimer ∧ (takeRequests rs p).bl.stallTimer = p.bl.stallTimer ∧
    (takeRequests rs p).bl.minHibTimer = p.bl.minHibTimer ∧ (takeRequests rs p).bl.heldHello = p.bl.heldHello ∧
    (takeRequests rs p).bl.helloAttempts = p.bl.helloAttempts ∧ (takeRequests rs p).bl.ovReply = p.bl.ovReply ∧
    (takeRequests rs p).bl.ovStall = p.bl.ovStall ∧ (takeRequests rs p).bl.ident = p.bl.ident ∧
    (takeRequests rs p).bl.status = p.bl.status ∧ (takeRequests rs p).bl.reservation = p.bl.reservation ∧
    (takeRequests rs p).bl.sample = p.bl.sample ∧ (takeRequests rs p).bl.absent = p.bl.absent ∧
    (takeRequests rs p).bl.framing = p.bl.framing ∧ (takeRequests rs p).bl.check = p.bl.check ∧
    (takeRequests rs p).bl.noise = p.bl.noise ∧ (takeRequests rs p).bl.lost = p.bl.lost ∧
    (takeRequests rs p).bl.noReply = p.bl.noReply := by
  induction rs generalizing p with
  | nil => simp [takeRequests]
  | cons r rs ih =>
    simp only [takeRequests]
    (repeat' split) <;> simp [ih]

@[simp] theorem takeNext_bl_frame (p : Part) :
    (takeNext p).bl.link = p.bl.link ∧ (takeNext p).bl.tx = p.bl.tx ∧ (takeNext p).bl.lineOrder = p.bl.lineOrder ∧
    (takeNext p).bl.txSeq = p.bl.txSeq ∧ (takeNext p).bl.expSeq = p.bl.expSeq ∧ (takeNext p).bl.exch = p.bl.exch ∧
    (takeNext p).bl.attempts = p.bl.attempts ∧ (takeNext p).bl.replyTimer = p.bl.replyTimer ∧
    (takeNext p).bl.powerTimer = p.bl.powerTimer ∧ (takeNext p).bl.activateTimer = p.bl.activateTimer ∧
    (takeNext p).bl.helloTimer = p.bl.helloTimer ∧ (takeNext p).bl.stallTimer = p.bl.stallTimer ∧
    (takeNext p).bl.minHibTimer = p.bl.minHibTimer ∧ (takeNext p).bl.heldHello = p.bl.heldHello ∧
    (takeNext p).bl.helloAttempts = p.bl.helloAttempts ∧ (takeNext p).bl.ovReply = p.bl.ovReply ∧
    (takeNext p).bl.ovStall = p.bl.ovStall ∧ (takeNext p).bl.ident = p.bl.ident ∧ (takeNext p).bl.status = p.bl.status ∧
    (takeNext p).bl.reservation = p.bl.reservation ∧ (takeNext p).bl.sample = p.bl.sample ∧
    (takeNext p).bl.absent = p.bl.absent ∧ (takeNext p).bl.framing = p.bl.framing ∧ (takeNext p).bl.check = p.bl.check ∧
    (takeNext p).bl.noise = p.bl.noise ∧ (takeNext p).bl.lost = p.bl.lost ∧ (takeNext p).bl.noReply = p.bl.noReply := by
  simp only [takeNext]
  (repeat' split) <;> simp

@[simp] theorem failRequest_bl_frame (p : Part) :
    (failRequest p).bl.link = p.bl.link ∧ (failRequest p).bl.tx = p.bl.tx ∧
    (failRequest p).bl.lineOrder = p.bl.lineOrder ∧ (failRequest p).bl.txSeq = p.bl.txSeq ∧
    (failRequest p).bl.expSeq = p.bl.expSeq ∧ (failRequest p).bl.exch = p.bl.exch ∧
    (failRequest p).bl.attempts = p.bl.attempts ∧ (failRequest p).bl.replyTimer = p.bl.replyTimer ∧
    (failRequest p).bl.powerTimer = p.bl.powerTimer ∧ (failRequest p).bl.activateTimer = p.bl.activateTimer ∧
    (failRequest p).bl.helloTimer = p.bl.helloTimer ∧ (failRequest p).bl.stallTimer = p.bl.stallTimer ∧
    (failRequest p).bl.minHibTimer = p.bl.minHibTimer ∧ (failRequest p).bl.heldHello = p.bl.heldHello ∧
    (failRequest p).bl.helloAttempts = p.bl.helloAttempts ∧ (failRequest p).bl.ovReply = p.bl.ovReply ∧
    (failRequest p).bl.ovStall = p.bl.ovStall ∧ (failRequest p).bl.ident = p.bl.ident ∧
    (failRequest p).bl.status = p.bl.status ∧ (failRequest p).bl.reservation = p.bl.reservation ∧
    (failRequest p).bl.sample = p.bl.sample ∧ (failRequest p).bl.absent = p.bl.absent ∧
    (failRequest p).bl.framing = p.bl.framing ∧ (failRequest p).bl.check = p.bl.check ∧
    (failRequest p).bl.noise = p.bl.noise ∧ (failRequest p).bl.lost = p.bl.lost ∧
    (failRequest p).bl.noReply = p.bl.noReply := by
  simp only [failRequest, finishRequest]
  (repeat' split) <;> simp

@[simp] theorem runWaiting_bl_frame (p : Part) :
    (runWaiting p).bl.link = p.bl.link ∧ (runWaiting p).bl.tx = p.bl.tx ∧ (runWaiting p).bl.lineOrder = p.bl.lineOrder ∧
    (runWaiting p).bl.txSeq = p.bl.txSeq ∧ (runWaiting p).bl.expSeq = p.bl.expSeq ∧ (runWaiting p).bl.exch = p.bl.exch ∧
    (runWaiting p).bl.attempts = p.bl.attempts ∧ (runWaiting p).bl.replyTimer = p.bl.replyTimer ∧
    (runWaiting p).bl.powerTimer = p.bl.powerTimer ∧ (runWaiting p).bl.activateTimer = p.bl.activateTimer ∧
    (runWaiting p).bl.helloTimer = p.bl.helloTimer ∧ (runWaiting p).bl.stallTimer = p.bl.stallTimer ∧
    (runWaiting p).bl.minHibTimer = p.bl.minHibTimer ∧ (runWaiting p).bl.heldHello = p.bl.heldHello ∧
    (runWaiting p).bl.helloAttempts = p.bl.helloAttempts ∧ (runWaiting p).bl.ovReply = p.bl.ovReply ∧
    (runWaiting p).bl.ovStall = p.bl.ovStall ∧ (runWaiting p).bl.ident = p.bl.ident ∧
    (runWaiting p).bl.status = p.bl.status ∧ (runWaiting p).bl.reservation = p.bl.reservation ∧
    (runWaiting p).bl.sample = p.bl.sample ∧ (runWaiting p).bl.absent = p.bl.absent ∧
    (runWaiting p).bl.framing = p.bl.framing ∧ (runWaiting p).bl.check = p.bl.check ∧
    (runWaiting p).bl.noise = p.bl.noise ∧ (runWaiting p).bl.lost = p.bl.lost ∧ (runWaiting p).bl.noReply = p.bl.noReply := by
  simp only [runWaiting]
  (repeat' split) <;> simp

@[simp] theorem linkToldProfile_bl_frame (old new : Link) (p : Part) :
    (linkToldProfile old new p).bl.link = p.bl.link ∧ (linkToldProfile old new p).bl.tx = p.bl.tx ∧
    (linkToldProfile old new p).bl.lineOrder = p.bl.lineOrder ∧ (linkToldProfile old new p).bl.txSeq = p.bl.txSeq ∧
    (linkToldProfile old new p).bl.expSeq = p.bl.expSeq ∧ (linkToldProfile old new p).bl.exch = p.bl.exch ∧
    (linkToldProfile old new p).bl.attempts = p.bl.attempts ∧
    (linkToldProfile old new p).bl.replyTimer = p.bl.replyTimer ∧
    (linkToldProfile old new p).bl.powerTimer = p.bl.powerTimer ∧
    (linkToldProfile old new p).bl.activateTimer = p.bl.activateTimer ∧
    (linkToldProfile old new p).bl.helloTimer = p.bl.helloTimer ∧
    (linkToldProfile old new p).bl.stallTimer = p.bl.stallTimer ∧
    (linkToldProfile old new p).bl.minHibTimer = p.bl.minHibTimer ∧
    (linkToldProfile old new p).bl.heldHello = p.bl.heldHello ∧
    (linkToldProfile old new p).bl.helloAttempts = p.bl.helloAttempts ∧
    (linkToldProfile old new p).bl.ovReply = p.bl.ovReply ∧ (linkToldProfile old new p).bl.ovStall = p.bl.ovStall ∧
    (linkToldProfile old new p).bl.ident = p.bl.ident ∧ (linkToldProfile old new p).bl.status = p.bl.status ∧
    (linkToldProfile old new p).bl.reservation = p.bl.reservation ∧
    (linkToldProfile old new p).bl.sample = p.bl.sample ∧ (linkToldProfile old new p).bl.absent = p.bl.absent ∧
    (linkToldProfile old new p).bl.framing = p.bl.framing ∧ (linkToldProfile old new p).bl.check = p.bl.check ∧
    (linkToldProfile old new p).bl.noise = p.bl.noise ∧ (linkToldProfile old new p).bl.lost = p.bl.lost ∧
    (linkToldProfile old new p).bl.noReply = p.bl.noReply := by
  simp only [linkToldProfile]
  (repeat' split) <;> simp

/-- Entering a link state sets it and leaves the exchange, the line, the timers, the identity and the counters (R62). -/
@[simp] theorem enterLink_bl_frame (new : Link) (p : Part) :
    (enterLink new p).bl.link = new ∧
    (enterLink new p).bl.tx = p.bl.tx.map Tx.orphan ∧ (enterLink new p).bl.lineOrder = p.bl.lineOrder ∧
    (enterLink new p).bl.txSeq = p.bl.txSeq ∧ (enterLink new p).bl.expSeq = p.bl.expSeq ∧
    (enterLink new p).bl.exch = (if p.bl.sendsFirst then none else p.bl.exch) ∧ (enterLink new p).bl.attempts = p.bl.attempts ∧
    (enterLink new p).bl.replyTimer = p.bl.replyTimer ∧ (enterLink new p).bl.powerTimer = p.bl.powerTimer ∧
    (enterLink new p).bl.activateTimer = p.bl.activateTimer ∧ (enterLink new p).bl.helloTimer = p.bl.helloTimer ∧
    (enterLink new p).bl.stallTimer = p.bl.stallTimer ∧ (enterLink new p).bl.minHibTimer = p.bl.minHibTimer ∧
    (enterLink new p).bl.heldHello = p.bl.heldHello ∧ (enterLink new p).bl.helloAttempts = p.bl.helloAttempts ∧
    (enterLink new p).bl.ovReply = p.bl.ovReply ∧ (enterLink new p).bl.ovStall = p.bl.ovStall ∧
    (enterLink new p).bl.ident = p.bl.ident ∧ (enterLink new p).bl.status = p.bl.status ∧
    (enterLink new p).bl.reservation = p.bl.reservation ∧ (enterLink new p).bl.sample = p.bl.sample ∧
    (enterLink new p).bl.absent = p.bl.absent ∧ (enterLink new p).bl.framing = p.bl.framing ∧
    (enterLink new p).bl.check = p.bl.check ∧ (enterLink new p).bl.noise = p.bl.noise ∧
    (enterLink new p).bl.lost = p.bl.lost ∧ (enterLink new p).bl.noReply = p.bl.noReply := by
  simp [enterLink, Bl.changeLink]

/-- The link's own transmitter and stall idle timer leave the link state. -/
@[simp] theorem transmit_link (x : Exchange) (b : Bl) : (b.transmit x).link = b.link := rfl

theorem nextExchange_link {b b' : Bl} {x : Exchange} (h : b.nextExchange = some (x, b')) : b'.link = b.link := by
  unfold Bl.nextExchange at h
  (repeat' split at h) <;> simp_all <;> obtain ⟨-, rfl⟩ := h <;> rfl

@[simp] theorem Bl.pump_link (d : Nat) (now : Time) (b : Bl) : (b.pump d now).link = b.link := by
  unfold Bl.pump
  (repeat' split) <;> simp_all
  exact nextExchange_link ‹_›

@[simp] theorem pump_link (r : Bool) (p : Part) : (pump r p).bl.link = p.bl.link := by
  simp [pump, stallSync]

/-- Counting a frame's noise changes the noise counter alone (R53). -/
theorem countNoise_bl (n : NoiseCount) (p : Part) :
    (countNoise n p).bl = { p.bl with
      noise := if noiseCounts n p then bump p.bl.noise (countedNoise n p.bl.link) else p.bl.noise } := by
  simp only [countNoise]
  split <;> rfl

end Sys2Proof.Machine
end

