-- ==== Sys2Proof/Laws/Memory.lean ====
section
/-! SUPPORT. The laws of the exchange memory: what a read gives after each memory operation, and that every memory operation keeps
the canonical form. -/

namespace Sys2Proof.Machine

/-! ### Reads after insert and erase -/

@[simp] theorem Memory.read_nil (a : Nat) : Memory.read [] a = resetWord a := rfl

@[simp] theorem Memory.read_insert_same (m : Memory) (a : Nat) (v : Word) : (m.insert a v).read a = v := by
  induction m with
  | nil => simp [Memory.insert, Memory.read]
  | cons c m ih =>
    obtain ⟨b, w⟩ := c
    simp only [Memory.insert]
    split
    · simp [Memory.read]
    · split
      · simp [Memory.read]
      · simp_all [Memory.read]

theorem Memory.read_insert_other (m : Memory) {a b : Nat} (v : Word) (h : b ≠ a) : (m.insert a v).read b = m.read b := by
  induction m with
  | nil => simp [Memory.insert, Memory.read, h]
  | cons c m ih =>
    obtain ⟨k, w⟩ := c
    simp only [Memory.insert]
    split
    · subst_vars; simp [Memory.read, h]
    · split
      · simp [Memory.read, h]
      · simp only [Memory.read, ih]

theorem Memory.read_erase_other (m : Memory) {a b : Nat} (h : b ≠ a) : (m.erase a).read b = m.read b := by
  induction m with
  | nil => rfl
  | cons c m ih =>
    obtain ⟨k, w⟩ := c
    simp only [Memory.erase]
    split
    · subst_vars; simp [Memory.read, h]
    · simp only [Memory.read, ih]

/-! ### The canonical form -/

theorem Memory.wfFrom_cons {lo a : Nat} {w : Word} {m : Memory} :
    Memory.wfFrom lo ((a, w) :: m) = true ↔
      lo ≤ a ∧ cellAddress a = true ∧ w ≠ resetWord a ∧ Memory.wfFrom (a + 1) m = true := by
  simp [Memory.wfFrom, and_assoc]

theorem Memory.wfFrom_mono {m : Memory} {lo hi : Nat} (h : lo ≤ hi) (hm : Memory.wfFrom hi m = true) :
    Memory.wfFrom lo m = true := by
  cases m with
  | nil => rfl
  | cons c m => obtain ⟨a, w⟩ := c; rw [wfFrom_cons] at *; exact ⟨h.trans hm.1, hm.2⟩

/-- Below its first address a memory in canonical form reads as after a full reset. -/
theorem Memory.read_below {m : Memory} {lo a : Nat} (hm : Memory.wfFrom lo m = true) (h : a < lo) :
    m.read a = resetWord a := by
  induction m generalizing lo with
  | nil => rfl
  | cons c m ih =>
    obtain ⟨b, w⟩ := c
    rw [wfFrom_cons] at hm
    simp only [Memory.read]
    rw [if_neg (by omega)]
    exact ih hm.2.2.2 (by omega)

theorem Memory.read_erase_same {m : Memory} {lo : Nat} (hm : Memory.wfFrom lo m = true) (a : Nat) :
    (m.erase a).read a = resetWord a := by
  induction m generalizing lo with
  | nil => rfl
  | cons c m ih =>
    obtain ⟨b, w⟩ := c
    rw [wfFrom_cons] at hm
    simp only [Memory.erase]
    split
    · subst_vars; exact read_below hm.2.2.2 (by omega)
    · simp only [Memory.read]; split
      · contradiction
      · exact ih hm.2.2.2

theorem Memory.wfFrom_erase {m : Memory} {lo : Nat} (hm : Memory.wfFrom lo m = true) (a : Nat) :
    Memory.wfFrom lo (m.erase a) = true := by
  induction m generalizing lo with
  | nil => rfl
  | cons c m ih =>
    obtain ⟨b, w⟩ := c
    rw [wfFrom_cons] at hm
    simp only [Memory.erase]
    split
    · exact wfFrom_mono (by omega) hm.2.2.2
    · rw [wfFrom_cons]; exact ⟨hm.1, hm.2.1, hm.2.2.1, ih hm.2.2.2⟩

theorem Memory.wfFrom_insert {m : Memory} {lo a : Nat} {v : Word} (hm : Memory.wfFrom lo m = true) (hlo : lo ≤ a)
    (ha : cellAddress a = true) (hv : v ≠ resetWord a) : Memory.wfFrom lo (m.insert a v) = true := by
  induction m generalizing lo with
  | nil => rw [Memory.insert, wfFrom_cons]; exact ⟨hlo, ha, hv, rfl⟩
  | cons c m ih =>
    obtain ⟨b, w⟩ := c
    rw [wfFrom_cons] at hm
    simp only [Memory.insert]
    split
    · subst_vars; rw [wfFrom_cons]; exact ⟨hlo, ha, hv, hm.2.2.2⟩
    · split
      · rw [wfFrom_cons, wfFrom_cons]; exact ⟨hlo, ha, hv, by omega, hm.2⟩
      · rw [wfFrom_cons]; exact ⟨hm.1, hm.2.1, hm.2.2.1, ih hm.2.2.2 (by omega)⟩

/-! ### One write -/

/-- A write keeps the canonical form. -/
theorem Memory.wf_write {m : Memory} (hm : m.wf = true) (a : Nat) (v : Word) : (m.write a v).wf = true := by
  unfold Memory.write Memory.wf at *
  split
  · split
    · exact wfFrom_erase hm a
    · exact wfFrom_insert hm (Nat.zero_le a) ‹_› ‹_›
  · exact hm

/-- A write leaves every other word as it was. -/
theorem Memory.read_write_other (m : Memory) {a b : Nat} (v : Word) (h : b ≠ a) : (m.write a v).read b = m.read b := by
  unfold Memory.write
  split
  · split
    · exact read_erase_other m h
    · exact read_insert_other m v h
  · rfl

/-- A word written in a memory in canonical form reads as written. -/
theorem Memory.read_write_same {m : Memory} (hm : m.wf = true) {a : Nat} (ha : cellAddress a = true) (v : Word) :
    (m.write a v).read a = v := by
  unfold Memory.write
  rw [if_pos ha]
  split
  · subst_vars; exact read_erase_same hm a
  · exact read_insert_same m a v

/-- A word that differs from what an unlisted address reads as reads as written, in any memory. -/
theorem Memory.read_write_new (m : Memory) {a : Nat} (ha : cellAddress a = true) {v : Word} (hv : v ≠ resetWord a) :
    (m.write a v).read a = v := by
  simp [Memory.write, ha, hv]

/-! ### Several writes -/

theorem Memory.wf_writeAll {m : Memory} (hm : m.wf = true) (a : Nat) (ws : List Word) : (m.writeAll a ws).wf = true := by
  induction ws generalizing m a with
  | nil => exact hm
  | cons w ws ih => exact ih (wf_write hm a w) (a + 1)

theorem Memory.wf_writeAt {m : Memory} (hm : m.wf = true) (base : Nat) (ws : List (Nat × Word)) :
    (m.writeAt base ws).wf = true := by
  induction ws generalizing m with
  | nil => exact hm
  | cons w ws ih => obtain ⟨o, v⟩ := w; exact ih (wf_write hm _ v)

/-- Words written from an address on leave every other word as it was. -/
theorem Memory.read_writeAll_other (m : Memory) {a b : Nat} (ws : List Word) (h : b < a ∨ a + ws.length ≤ b) :
    (m.writeAll a ws).read b = m.read b := by
  induction ws generalizing m a with
  | nil => rfl
  | cons w ws ih =>
    simp only [List.length_cons] at h
    rw [Memory.writeAll, ih _ (by omega), read_write_other _ _ (by omega)]

/-- Words written from an address on, within the cells' addresses of a memory in canonical form, read as written. -/
theorem Memory.read_writeAll {m : Memory} (hm : m.wf = true) (a : Nat) (ws : List Word) {i : Nat} (hi : i < ws.length)
    (ha : cellAddress (a + i) = true) : (m.writeAll a ws).read (a + i) = ws[i] := by
  induction ws generalizing m a i with
  | nil => simp at hi
  | cons w ws ih =>
    rw [Memory.writeAll]
    cases i with
    | zero => rw [read_writeAll_other _ _ (by omega)]; exact read_write_same hm ha w
    | succ i =>
      have h := ih (wf_write hm a w) (a + 1) (i := i) (by simpa using hi) (by rw [← ha]; congr 1; omega)
      simpa [Nat.add_assoc, Nat.add_comm 1 i] using h

/-- Words written at their offsets leave every other word as it was. -/
theorem Memory.read_writeAt_other (m : Memory) (base : Nat) (ws : List (Nat × Word)) {b : Nat}
    (h : ∀ r ∈ ws, b ≠ base + r.1) : (m.writeAt base ws).read b = m.read b := by
  induction ws generalizing m with
  | nil => rfl
  | cons w ws ih =>
    obtain ⟨o, v⟩ := w
    rw [Memory.writeAt, ih _ (fun r hr => h r (List.mem_cons_of_mem _ hr)),
      read_write_other _ _ (h (o, v) (List.mem_cons_self ..))]

/-- Words written once each at their offsets, within the cells' addresses of a memory in canonical form, read as written. -/
theorem Memory.read_writeAt {m : Memory} (hm : m.wf = true) (base : Nat) {ws : List (Nat × Word)} (hn : (ws.map (·.1)).Nodup)
    (hc : ∀ r ∈ ws, cellAddress (base + r.1) = true) {r : Nat × Word} (hr : r ∈ ws) :
    (m.writeAt base ws).read (base + r.1) = r.2 := by
  induction ws generalizing m with
  | nil => simp at hr
  | cons w ws ih =>
    obtain ⟨o, v⟩ := w
    rw [List.map_cons, List.nodup_cons] at hn
    rw [Memory.writeAt]
    rcases List.mem_cons.mp hr with rfl | h
    · rw [read_writeAt_other]
      · exact read_write_same hm (hc (o, v) (List.mem_cons_self ..)) v
      · intro q hq he
        exact hn.1 (List.mem_map.mpr ⟨q, hq, by simpa using he.symm⟩)
    · exact ih (wf_write hm _ v) hn.2 (fun q hq => hc q (List.mem_cons_of_mem _ hq)) h

/-! ### The soft reset's filter -/

theorem Memory.wfFrom_filter {m : Memory} {lo : Nat} (hm : Memory.wfFrom lo m = true) (f : Nat × Word → Bool) :
    Memory.wfFrom lo (m.filter f) = true := by
  induction m generalizing lo with
  | nil => rfl
  | cons c m ih =>
    obtain ⟨a, w⟩ := c
    rw [wfFrom_cons] at hm
    rw [List.filter_cons]
    split
    · rw [wfFrom_cons]; exact ⟨hm.1, hm.2.1, hm.2.2.1, ih hm.2.2.2⟩
    · exact ih (wfFrom_mono (by omega) hm.2.2.2)

/-- Cells dropped by their addresses keep the canonical form. -/
theorem Memory.wf_filter {m : Memory} (hm : m.wf = true) (f : Nat × Word → Bool) : Memory.wf (m.filter f) = true :=
  wfFrom_filter hm f

/-- A word whose address is kept reads as before; any other reads as after a full reset. -/
theorem Memory.read_filter (m : Memory) (keep : Nat → Bool) (a : Nat) :
    Memory.read (m.filter fun c => keep c.1) a = if keep a then m.read a else resetWord a := by
  induction m with
  | nil => simp
  | cons c m ih =>
    obtain ⟨b, w⟩ := c
    rw [List.filter_cons]
    by_cases hb : keep b = true
    · simp only [hb, if_true, Memory.read, ih]
      by_cases hab : a = b
      · subst hab; simp [hb]
      · simp [hab]
    · by_cases hab : a = b
      · subst hab; simp_all
      · simp only [hb, if_false, Bool.false_eq_true, ih, Memory.read, if_neg hab]

/-! ### The machine's memories -/

/-- The memory right after reset is in canonical form. -/
theorem State.reset_memory_wf : State.reset.xm.wf = true := rfl

/-- A soft reset keeps the canonical form. -/
theorem softReset_memory_wf {s : State} (h : s.xm.wf = true) : (softReset s).xm.wf = true := Memory.wf_filter h _

@[simp] theorem Memory.length_readAll (m : Memory) (a n : Nat) : (m.readAll a n).length = n := by
  induction n generalizing a with
  | zero => rfl
  | succ n ih => simp [Memory.readAll, ih]

theorem Memory.getElem_readAll (m : Memory) (a n : Nat) {i : Nat} (h : i < n) :
    (m.readAll a n)[i]? = some (m.read (a + i)) := by
  induction n generalizing a i with
  | zero => omega
  | succ n ih =>
    cases i with
    | zero => simp [Memory.readAll]
    | succ i => simp [Memory.readAll, ih (a + 1) (i := i) (by omega), Nat.add_assoc, Nat.add_comm 1 i]

end Sys2Proof.Machine
end

