-- ==== Sys2Proof/Laws/Notice.lean ====
section
/-! SUPPORT. What an offer does to the notice unit: what it leaves alone, when it publishes and when it merges, and how a fault
enters and leaves the active fault set (R174, R175, R177, R178). -/

namespace Sys2Proof.Machine

/-! ### Holds and publications -/

/-- A publication writes the class's cell, and stands last in the line of records (R158, R176). -/
@[simp] theorem publish_nu (c : Content) (n : Nat) (p : Part) :
    (publish c n p).nu =
      { p.nu with
        classes := p.nu.classes.set c.cls
          { p.nu.classes.get c.cls with
            publishing := some (recordWords ((p.nu.classes.get c.cls).seq + 1#16) p.tb c.cls n (c.words p))
            shadow := none, coalesce := 0, seq := (p.nu.classes.get c.cls).seq + 1#16 }
        writing := p.nu.writing ++ [c.cls] } := by
  simp only [publish]
  cases c <;> simp [setCell]

/-- An offer that an IDLE class can publish is published at once (R175). -/
theorem absorb_idle (c : Content) (p : Part) (h : (p.nu.classes.get c.cls).state = .idle)
    (hp : (p.nu.classes.get c.cls).publishing = none) : absorb c p = publish c 0 p := by
  simp [absorb, h, hp]

/-- An offer that cannot be published is merged into the shadow and counted (R175, R177). -/
theorem absorb_busy (c : Content) (p : Part)
    (h : ¬ ((p.nu.classes.get c.cls).state = .idle ∧ (p.nu.classes.get c.cls).publishing = none)) :
    absorb c p =
      setCell c.cls { p.nu.classes.get c.cls with
        shadow := mergeShadow c (p.nu.classes.get c.cls).shadow
        coalesce := min ((p.nu.classes.get c.cls).coalesce + 1) 255 } p := by
  simp only [absorb]
  rw [if_neg h]

/-- What an offer of content leaves of NU. -/
@[simp] theorem absorb_nu (c : Content) (p : Part) :
    (absorb c p).nu.serviceLevel = p.nu.serviceLevel ∧ (absorb c p).nu.attn = p.nu.attn ∧
    (absorb c p).nu.faults = p.nu.faults ∧ (absorb c p).nu.lastFault = p.nu.lastFault ∧
    (absorb c p).nu.wake = p.nu.wake ∧ (absorb c p).nu.wakeTimer = p.nu.wakeTimer ∧
    (absorb c p).nu.hostState = p.nu.hostState ∧ (absorb c p).nu.badService = p.nu.badService ∧
    (absorb c p).nu.deferred = p.nu.deferred := by
  simp only [absorb]
  split <;> simp

/-- An offer changes no class's state (R175). -/
@[simp] theorem absorb_state (c : Content) (p : Part) (d : NoticeClass) :
    ((absorb c p).nu.classes.get d).state = (p.nu.classes.get d).state := by
  by_cases hd : d = c.cls
  · subst hd
    simp only [absorb]
    split <;> simp
  · simp only [absorb]
    split <;> simp [hd]

/-- An offer leaves every other class as it was. -/
theorem absorb_other (c : Content) (p : Part) {d : NoticeClass} (h : d ≠ c.cls) :
    (absorb c p).nu.classes.get d = p.nu.classes.get d := by
  simp only [absorb]
  split <;> simp [h]

/-- After an offer of content other than KEYS its class publishes or holds a shadow (R175). -/
theorem absorb_underWay (c : Content) (p : Part) (h : c ≠ .keys) :
    ((absorb c p).nu.classes.get c.cls).publishing ≠ none ∨ ((absorb c p).nu.classes.get c.cls).shadow ≠ none := by
  simp only [absorb]
  split
  · simp
  · right
    cases c <;> simp_all [mergeShadow] <;> split <;> simp

/-- A class that publishes or holds a shadow still does after an offer (R175, R176). -/
theorem absorb_keeps_underWay (c : Content) (p : Part) (d : NoticeClass)
    (h : (p.nu.classes.get d).publishing ≠ none ∨ (p.nu.classes.get d).shadow ≠ none) (hd : d ≠ .keys) :
    ((absorb c p).nu.classes.get d).publishing ≠ none ∨ ((absorb c p).nu.classes.get d).shadow ≠ none := by
  by_cases hc : d = c.cls
  · subst hc
    exact absorb_underWay c p (fun e => hd (by rw [e]; rfl))
  · rw [absorb_other c p hc]; exact h

/-! ### Offers -/

/-- While the reset's work runs an offer waits (R174). -/
theorem offer_deferred (o : Offer) (p : Part) (w : ResetWork) (h : p.resetWork = some w) :
    offer o p = { p with nu := { p.nu with deferred := p.nu.deferred ++ [o] } } := by
  simp [offer, h]

/-- Once the reset's work has ended an offer is taken at once (R174). -/
theorem offer_taken (o : Offer) (p : Part) (h : p.resetWork = none) : offer o p = takeOffer o p := by
  simp [offer, h]

/-- What an offer leaves of NU: the service level, ATTN, WAKE, the host state and BAD_SERVICE. -/
@[simp] theorem takeOffer_nu (o : Offer) (p : Part) :
    (takeOffer o p).nu.serviceLevel = p.nu.serviceLevel ∧ (takeOffer o p).nu.attn = p.nu.attn ∧
    (takeOffer o p).nu.wake = p.nu.wake ∧ (takeOffer o p).nu.wakeTimer = p.nu.wakeTimer ∧
    (takeOffer o p).nu.hostState = p.nu.hostState ∧ (takeOffer o p).nu.badService = p.nu.badService ∧
    (takeOffer o p).nu.deferred = p.nu.deferred := by
  cases o <;> simp [takeOffer, changeFaults]

@[simp] theorem takeOffer_state (o : Offer) (p : Part) (d : NoticeClass) :
    ((takeOffer o p).nu.classes.get d).state = (p.nu.classes.get d).state := by
  cases o <;> simp [takeOffer, changeFaults]

@[simp] theorem offer_nu (o : Offer) (p : Part) :
    (offer o p).nu.serviceLevel = p.nu.serviceLevel ∧ (offer o p).nu.attn = p.nu.attn ∧
    (offer o p).nu.wake = p.nu.wake ∧ (offer o p).nu.wakeTimer = p.nu.wakeTimer ∧
    (offer o p).nu.hostState = p.nu.hostState ∧ (offer o p).nu.badService = p.nu.badService := by
  simp only [offer]
  split <;> simp

/-- An offer changes no class's state. -/
@[simp] theorem offer_state (o : Offer) (p : Part) (d : NoticeClass) :
    ((offer o p).nu.classes.get d).state = (p.nu.classes.get d).state := by
  simp only [offer]
  split <;> simp

/-- An offer of content leaves the active fault set and the last code. -/
@[simp] theorem offer_content_faults (c : Content) (p : Part) :
    (offer (.content c) p).nu.faults = p.nu.faults ∧ (offer (.content c) p).nu.lastFault = p.nu.lastFault := by
  simp only [offer, takeOffer]
  split <;> simp

/-- A change of the active fault set, once the reset's work has ended (R178). -/
theorem offer_faults (j : Option FaultName) (l : FaultSet) (p : Part) (h : p.resetWork = none) :
    (offer (.faults j l) p).nu.faults = (changeFaults j l p.nu).1.faults ∧
    (offer (.faults j l) p).nu.lastFault = (changeFaults j l p.nu).1.lastFault := by
  simp [offer, h, takeOffer]

/-- A fault raised is active, with its code (R178). -/
theorem raiseFault_active (f : FaultName) (p : Part) (h : p.resetWork = none) :
    (raiseFault f p).nu.faults &&& f.set ≠ 0#7 ∧ (raiseFault f p).nu.lastFault = some f := by
  simp only [raiseFault, offer_faults _ _ _ h, changeFaults]
  refine ⟨?_, trivial⟩
  generalize p.nu.faults = x
  cases f <;> revert x <;> decide

/-- A fault cleared is not active, and the last code stands (R178). -/
theorem clearFault_inactive (f : FaultName) (p : Part) (h : p.resetWork = none) :
    (clearFault f p).nu.faults &&& f.set = 0#7 ∧ (clearFault f p).nu.lastFault = p.nu.lastFault := by
  simp only [clearFault, offer_faults _ _ _ h, changeFaults]
  refine ⟨?_, trivial⟩
  generalize p.nu.faults = x
  cases f <;> revert x <;> decide

/-- A change of one fault leaves every other as it was. -/
theorem raiseFault_other (f g : FaultName) (p : Part) (h : p.resetWork = none) (hg : g ≠ f) :
    (raiseFault f p).nu.faults &&& g.set = p.nu.faults &&& g.set := by
  simp only [raiseFault, offer_faults _ _ _ h, changeFaults]
  generalize p.nu.faults = x
  cases f <;> cases g <;> first | exact absurd rfl hg | (revert x; decide)

theorem clearFault_other (f g : FaultName) (p : Part) (h : p.resetWork = none) (hg : g ≠ f) :
    (clearFault f p).nu.faults &&& g.set = p.nu.faults &&& g.set := by
  simp only [clearFault, offer_faults _ _ _ h, changeFaults]
  generalize p.nu.faults = x
  cases f <;> cases g <;> first | exact absurd rfl hg | (revert x; decide)

/-! ### Completions (R165) -/

/-- A completion joins those in line. -/
@[simp] theorem complete_rq (c : Completion) (p : Part) :
    (complete c p).rq = { p.rq with completions := p.rq.completions ++ [c] } := by
  simp only [complete]
  split <;> simp

@[simp] theorem completeDone_rq (r : Request) (code : Word) (data : List Word) (p : Part) :
    (completeDone r code data p).rq =
      { p.rq with completions := p.rq.completions ++ [⟨r.slot, true, code, resultData data⟩] } := by
  simp [completeDone]

@[simp] theorem completeFailed_rq (r : Request) (code : Word) (p : Part) :
    (completeFailed r code p).rq =
      { p.rq with completions := p.rq.completions ++ [⟨r.slot, false, code, resultData []⟩] } := by
  simp [completeFailed]

@[simp] theorem resultData_length (ws : List Word) : (resultData ws).length = 15 := by
  simp [resultData]

end Sys2Proof.Machine
end

