-- ==== Sys2Proof/Tests/Slice0.lean ====
section
/-! SUPPORT. Tests: ill-formed commands, values that the spec works out in its tables and examples, and for every statement of
Certificates/Slice0/Obligations.lean with hypotheses a state and operands that meet the hypotheses of each clause. -/

namespace Sys2Proof.Tests

open Sys2Proof.Machine

/-- The machine 5 s after a reset, its work on XM ended and the sensor HEALTHY. -/
def live : State := State.reset.on fun p =>
  { p with tb := 5000#32, resetWork := none, partState := .ready, sp := { p.sp with health := .healthy, flight := .none } }

/-- That machine with its part changed. -/
def liveOn (f : Part → Part) : State := live.on f

/-- A request from slot 1, accepted at TB 7. -/
def req (kind : Word) (args : List Word) : Request := ⟨1, kind, args, 7#32⟩

/-- A machine with these words in XM. -/
def withXm (m : Memory) (s : State) : State := { s with xm := m }

/-- What the next state that a command answers shows. -/
def after {α : Type} (i : Instr) (s : State) (f : State → α) : Option α :=
  match exec i s with
  | .next t => some (f t)
  | .fault _ | .refused _ => none

/-! ### Ill-formed commands are refused by Instr.wellFormed -/

theorem test_ill_lineBreak_noise : Instr.wellFormed (.lineBreakReceived ⟨14, 14⟩) = false := by decide
theorem test_ill_frameGap_noise : Instr.wellFormed (.frameGapTimeout ⟨28, 0⟩) = false := by decide
theorem test_ill_discard_empty : Instr.wellFormed (.frameDiscard []) = false := by decide
theorem test_ill_discard_long : Instr.wellFormed (.frameDiscard (List.replicate 28 ⟨0#8, false, false, false⟩)) = false := by decide
theorem test_ill_discard_order :
    Instr.wellFormed (.frameDiscard [⟨1#8, false, false, false⟩, ⟨2#8, false, true, true⟩]) = false := by decide
theorem test_ill_hello_noise : Instr.wellFormed (.hello ⟨5, 5⟩ 0#4 1#8 1#8 0#32) = false := by decide
theorem test_ill_keys_none : Instr.wellFormed (.keys ⟨0, 0⟩ 0#4 [] 0#8) = false := by decide
theorem test_ill_keys_seven : Instr.wellFormed (.keys ⟨0, 0⟩ 0#4 (List.replicate 7 ⟨4#8, 0#8⟩) 0#8) = false := by decide
theorem test_ill_keys_noise : Instr.wellFormed (.keys ⟨0, 8⟩ 0#4 [⟨4#8, 0#8⟩] 0#8) = false := by decide
theorem test_ill_motion_noise : Instr.wellFormed (.motion ⟨11, 0⟩ 0#4 0#16 0#16 0#16 0#8) = false := by decide
theorem test_ill_status_codes : Instr.wellFormed (.status ⟨0, 0⟩ 0#4 1#8 0#8 0#16 (List.replicate 17 4#8)) = false := by decide
theorem test_ill_status_noise : Instr.wellFormed (.status ⟨1, 8⟩ 0#4 1#8 0#8 0#16 []) = false := by decide
theorem test_ill_reply_noise : Instr.wellFormed (.reply ⟨0, 8⟩ 0#4 0#16 0#8 0#8) = false := by decide
theorem test_ill_xmWordWrite_attention : Instr.wellFormed (.xmWordWrite 2#16 0#16) = false := by decide
theorem test_ill_xmWordWrite_take : Instr.wellFormed (.xmWordWrite 4#16 0#16) = false := by decide
theorem test_ill_xmWordWrite_endService : Instr.wellFormed (.xmWordWrite 5#16 0#16) = false := by decide
theorem test_ill_unknownCommand_read : Instr.wellFormed (.unknownCommand 0x0B#8) = false := by decide
theorem test_wellFormed_keys : Instr.wellFormed (.keys ⟨8, 9⟩ 0#4 (List.replicate 6 ⟨4#8, 0#8⟩) 6#8) = true := by decide

/-! ### Values that the spec works out; the section or rule stands above each -/

-- Section 2.10, a lid opening toward 110°.
theorem test_raw_angle_110 : rawAngle 15765504 (-5738496) = 880 := by decide
theorem test_filter_110 : filterAngle .default 14080 13440 2 = (13600, 0) ∧ publishedAngle .default .near 13600 = 850 := by decide
theorem test_published_rounds_up : publishedAngle .default .near 13720 = 858 ∧ publishedAngle .default .near 13810 = 863 := by decide
theorem test_sampleArrival_110 :
    after (.sampleArrival ⟨0x5C#8, true, 0#16, 3849#16, 1401#16⟩ ⟨0#8, false, 0#16, 0#16, 0#16⟩)
      (liveOn fun p => { p with
        sp.flight := .sample 5000#32, bl.link := .active, bl.sample := some ⟨0#16, 0#16, 4096#16, 1#8, 4988#32⟩
        ae := ⟨.valid, .none, 13440, 0, some 840, some ⟨4990#32, 2000⟩, some (0, 4096)⟩ })
      (fun t => (t.part.ae.f, t.part.ae.published, t.part.ae.hold)) = some (13600, some 850, some ⟨5000#32, 2000⟩) := by decide

-- Section 2.10, across the circle, and jitter about a closed lid.
theorem test_filter_across_circle :
    filterAngle .default 64 46016 0 = (46048, 0) ∧ publishedAngle .default .far 46048 = 2878 ∧
    publishedAngle .default .far 46072 = 2880 ∧ publishedAngle .default .near 46072 = 0 ∧
    publishedAngle .default .near 46066 = 0 ∧ publishedAngle .default .far 46066 = 2879 := by decide

-- Section 1.4: the third failed sample, and the fifth good attempt under the rate of SLEEPING.
theorem test_sampleArrival_third_failure :
    after (.sampleArrival ⟨0#8, false, 0#16, 0#16, 0#16⟩ ⟨0#8, false, 0#16, 0#16, 0#16⟩)
      (liveOn fun p => { p with tb := 50#32, sp.flight := .sample 50#32, sp.failureRun := 2 })
      (fun t => (t.part.sp.health, t.part.sp.nextDue, t.part.partState, t.part.ae.reason)) =
      some (.faulted, some 1050#32, .degraded, .sensorFault) := by decide
theorem test_faultAttemptEnd_fifth :
    after (.faultAttemptEnd ⟨0x5C#8, true⟩ ⟨0#8, false⟩ ⟨0x5C#8, true, 0#16, 0#16, 4096#16⟩ ⟨0#8, false, 0#16, 0#16, 0#16⟩)
      (liveOn fun p => { p with
        tb := 6051#32, partState := .degraded, sp.health := .faulted, sp.flight := .attempt 6050#32, sp.goodRun := 4
        sp.rate := .slow })
      (fun t => (t.part.sp.health, t.part.sp.nextDue, t.part.sp.fresh, t.part.partState)) =
      some (.healthy, some 6130#32, true, .ready) := by decide

-- R36: the retained bands of the default settings, in eighths of a degree.
theorem test_zone_bands :
    zoneOf .default 159 = .seam ∧ zoneOf .default 160 = .opened ∧ zoneOf .default 1360 = .flat ∧
    zoneOf .default 1520 = .folded ∧ zoneOf .default 2640 = .seam ∧
    retained .default .opened 128 = true ∧ retained .default .opened 127 = false ∧
    retained .default .flat 1552 = true ∧ retained .default .flat 1553 = false := by decide

-- Section 3.8 at 2290: LIDH comes active in SEAM, near.
theorem test_debounce_lid_closes :
    after (.debounceExpiry .lidh)
      (liveOn fun p => { p with
        tb := 2290#32, bl.link := .active, inp.lidh := ⟨false, false, some ⟨2270#32, 20⟩⟩
        ae := ⟨.valid, .none, 1920, 0, some 120, some ⟨2280#32, 2000⟩, some (0, 4096)⟩
        pc := { p.pc with
          zone := .seam, seam := .near, stored := ⟨some 120, .valid, .none, some (0, 4096)⟩, candidate := .laptop
          published := .laptop } })
      (fun t => (t.part.pc.candidate, t.part.pc.dwell, t.part.pc.published, t.part.pc.suppression, t.part.bl.quiet)) =
      some (.closed, some ⟨2290#32, 300⟩, .laptop, true, true) := by decide

-- Section 3.10: turning the tablet.
theorem test_rotation_margin :
    (evaluateRotation .default 7200#32 3300 2400 { Ot.reset .default with hold := .none }).candidate = some .rot90 ∧
    (evaluateRotation .default 7300#32 3000 2600 { Ot.reset .default with hold := .none }).candidate = none ∧
    (evaluateRotation .default 9000#32 200 300 { Ot.reset .default with hold := .none }).tilted = true := by decide

-- Section 4.8 at 12 and 13: HELLO of class 2, then STATUS ACTIVE with 450 mW.
theorem test_hello_identifies :
    after (.hello ⟨0, 0⟩ 0#4 2#8 2#8 9#32) (liveOn fun p => { p with bl.link := .identifying, bl.reservation := 1200 })
      (fun t => (t.part.bl.link, t.part.bl.reservation, t.part.bl.expSeq)) = some (.profiling, 600, some 1#4) := by decide
theorem test_status_activates :
    after (.status ⟨0, 0⟩ 1#4 1#8 0#8 450#16 [])
      (liveOn fun p => { p with
        bl.link := .profiling, bl.reservation := 600, bl.ident := some ⟨2#8, 2#8, 9#32⟩, bl.expSeq := some 1#4
        bl.exch := some (.mode .active false), bl.attempts := 1 })
      (fun t => (t.part.bl.link, t.part.bl.reservation, t.part.bl.expSeq, t.part.bl.exch)) =
      some (.active, 600, some 2#4, none) := by decide

-- Table 4.2 and section 13.8: a QUERY with sequence number 5; section 13.9: a GRANT of 300 mA.
theorem test_query_bytes : Exchange.bytes .query 5#4 = [0xA5#8, 0x00#8, 0x5B#8] := by decide
theorem test_grant_bytes : grantBytes 300 = [0x01#8, 0x2C#8, 0x01#8, 0xD2#8] := by decide

-- Section 5.5 at 14: REPLY UNKNOWN_ATTRIBUTE for entry 3 leads past entry 4 to entry 5.
theorem test_reply_walk_error :
    after (.reply ⟨0, 0⟩ 1#4 900#16 1#8 1#8)
      (liveOn fun p => { p with
        bl.link := .profiling, bl.exch := some (.attr ⟨true, 900#12, 1#8⟩), bl.attempts := 1, pw.walk := .attach
        pw.position := 3, pw.inFlight := some .walkEntry
        pw.snapshot := some ([(0#16, 0#16), (0#16, 0#16), (0#16, 0#16), (0x9384#16, 1#16), (0x8005#16, 9#16),
          (0x9012#16, 200#16)] ++ List.replicate 26 (0#16, 0#16)) })
      (fun t => (t.part.pw.results[3]?, t.part.pw.walk)) = some (some .error, .attach) := by decide

-- Section 5.6, steps 1 and 8.
theorem test_keys_two_presses :
    after (.keys ⟨0, 0⟩ 5#4 [⟨30#8, 0#8⟩, ⟨31#8, 0#8⟩] 2#8)
      (liveOn fun p => { p with bl.link := .active, nu.classes.keys.state := .inService })
      (fun t => (t.part.kt.held, t.part.kt.down, t.part.kt.queue.map (·.code))) = some ([30, 31], [30, 31], [30, 31]) := by
  decide
theorem test_keys_after_suppression :
    after (.keys ⟨0, 0⟩ 5#4 [⟨44#8, 0#8⟩] 2#8)
      (liveOn fun p => { p with
        bl.link := .active, nu.classes.keys.state := .inService, kt.held := [50], kt.ignored := [50]
        kt.queue := List.replicate 6 ⟨30, false, false, 0#16⟩ })
      (fun t => (t.part.kt.held, t.part.kt.down, t.part.kt.ignored, t.part.kt.queue.length)) =
      some ([44, 50], [44], [50], 7) := by decide

-- R123's table, R124's thermal limits, and section 7.10's figures with a ceiling of 350 mA.
theorem test_budget_limits :
    budgetLimitOf 4500 2600 = 380 ∧ budgetLimitOf 2500 1200 = 260 ∧ budgetLimitOf 2500 2600 = 0 := by decide
theorem test_thermal_limits :
    thermalLimitOf { Settings.default with ceiling := 350 } false 44 = 210 ∧
    thermalLimitOf { Settings.default with ceiling := 350 } false 41 = 310 ∧
    thermalLimitOf { Settings.default with ceiling := 350 } false 42 = 280 := by decide
theorem test_setHostState_sleeping :
    after .setHostState
      (liveOn fun p => { p with
        rq.sa := [req 3#16 [2#16]], sl.inForce.ceiling := 350, bl.reservation := 1200, cc.reservation := 1200
        cc.session := .charging, cc.setpoint := 310, cc.thermalLimit := some 310, cc.grant := 310 })
      (fun t => (t.part.cc.budget, t.part.cc.budgetLimit, t.part.cc.setpoint, t.part.cc.session)) =
      some (2500, 260, 260, .charging) := by decide

-- Section 6.7 at 250, 263.5 and 390.5: docking a flat pen.
theorem test_settlingExpiry_window :
    after .settlingExpiry
      (liveOn fun p => { p with cc.session := .settling, cc.stateTimer := some ⟨4800#32, 200⟩ })
      (fun t => (t.part.cc.session, t.part.pn.phase, t.part.cc.wakingWindows)) = some (.waking, .quiet, 1) := by decide
theorem test_syncWaitExpiry_first :
    after .syncWaitExpiry
      (liveOn fun p => { p with cc.session := .waking, cc.wakingWindows := 1, pn.phase := .waitSync })
      (fun t => (t.part.cc.session, t.part.cc.windowTimer)) = some (.waking, some ⟨5000#32, 50⟩) := by decide
theorem test_syncWaitExpiry_third :
    after .syncWaitExpiry
      (liveOn fun p => { p with cc.session := .waking, cc.wakingWindows := 3, pn.phase := .waitSync })
      (fun t => (t.part.cc.session, t.part.cc.setpoint, t.part.cc.prechargeRounds, t.part.cc.stateTimer)) =
      some (.precharge, 20, 1, some ⟨5000#32, 60000⟩) := by decide

-- Section 6.8: a contact that lifts during charging.
theorem test_penh_lift :
    after (.filteredLevelChange .penh true)
      (liveOn fun p => { p with inp.penh := ⟨false, true, none⟩, cc.session := .charging, cc.setpoint := 300 })
      (fun t => (t.part.cc.guard, t.part.cc.setpoint, t.part.cc.session)) = some (some 5000#32, 0, .charging) := by decide
theorem test_penh_return :
    after (.filteredLevelChange .penh false)
      (liveOn fun p => { p with inp.penh := ⟨true, true, some ⟨4996#32, 50⟩⟩, cc.session := .charging, cc.guard := some 4996#32 })
      (fun t => (t.part.cc.guard, t.part.pn.phase, t.part.inp.penh.timer)) = some (none, .breaking, none) := by decide

-- Section 12.7 at 95,201: the second overcurrent.
theorem test_overcurrent_second :
    after (.overcurrent 351#10)
      (liveOn fun p => { p with
        cc.session := .charging, cc.setpoint := 300, cc.history := some ⟨1000#32, 60000⟩, nu.classes.fault.state := .pending })
      (fun t => (t.part.cc.session, t.part.cc.history, t.part.nu.faults, t.part.nu.lastFault)) =
      some (.lockout, none, FaultName.penLockout.set, some .penLockout) := by decide

-- Section 8.7 at 160,000 and 300,020.
theorem test_inactivity_dims :
    after .inactivityExpiry (liveOn fun p => { p with tb := 160000#32, sa.inactivity := some ⟨100000#32, 60000⟩ })
      (fun t => (t.part.sa.advisor, t.part.sa.dimmed)) = some (.idle, true) := by decide
theorem test_pen_pulled_wakes :
    after (.debounceExpiry .penh)
      (liveOn fun p => { p with
        inp.penh := ⟨true, true, some ⟨4950#32, 50⟩⟩, cc.session := .charging, bl.link := .hibernate, bl.target := .hibernate
        bl.minHibTimer := some ⟨4990#32, 100⟩, sa := { p.sa with hostState := .sleeping, advisor := .watching, posture := .closed } })
      (fun t => (t.part.bl.target, t.part.bl.pendingWake, t.part.cc.session)) = some (.stall, true, .absent) := by decide

-- Chapter 9's example: words of a record are held while its publication runs.
theorem test_read_held_record :
    after (.read 0x230#16 1)
      (liveOn fun p => { p with nu.classes.posture.publishing := some (List.replicate 48 0#16), nu.writing := [.posture] })
      (fun t => (t.part.hp.out, t.part.hp.trans.map (·.worst))) = some ([0xFFFF#16], some .retry) := by decide

-- R158: NU writes its records one after another: the second waits without a hold, and is written and held when the first ends.
theorem test_second_record_waits :
    after (.read 0x230#16 1)
      (liveOn fun p => { p with nu.classes.posture.publishing := some (List.replicate 48 0#16), nu.writing := [.fault, .posture] })
      (fun t => (t.part.hp.out, t.part.hp.trans.map (·.worst))) = some ([0#16], some .ok) := by decide
theorem test_next_record_begins :
    after (.recordPublicationEnd .fault)
      (liveOn fun p => { p with
        nu.classes.fault.publishing := some (List.replicate 48 0#16), nu.writing := [.fault, .posture]
        hp.trans := some ⟨.read, 7, .ok, []⟩ })
      (fun t => (t.part.nu.writing, t.part.hp.trans.map (·.held))) = some ([.posture], some [(0x230, 48)]) := by decide

-- R153, R158: a held operation begins between the words of an UPDATE, and the access is RETRY.
theorem test_update_held :
    after (.update 0x20#16 5#16 (some 6#16)) (liveOn fun p => { p with hp.trans := some ⟨.update 5#16, 0x20, .ok, [(0x20, 224)]⟩ })
      (fun t => (t.xm, t.part.hp.trans.map (·.worst))) = some ([], some .retry) := by decide
theorem test_update_goes_on :
    after (.update 0x20#16 5#16 none) (liveOn fun p => { p with hp.trans := some ⟨.read, 7, .range, []⟩ })
      (fun t => t.part.hp.trans) = some (some ⟨.update 5#16, 0x20, .ok, []⟩) := by decide

-- R103: the POLL character is on the pen line in its step, and only there.
theorem test_poll_character :
    ({ Pn.reset with phase := .poll }).sends = [0xC3#8] ∧ ({ Pn.reset with phase := .waitSync }).sends = [] := by decide

-- R55: a frame of the link state before ends without its exchange.
theorem test_frame_outlives_its_link_state :
    after .exchangeSent
      (liveOn fun p => { p with bl := Bl.changeLink .stall { p.bl with
        link := .active, tx := some (.frame [0xA5#8] true), exch := some .query } })
      (fun t => (t.part.bl.tx, t.part.bl.exch.isSome, t.part.bl.replyTimer)) = some (none, false, none) := by decide

-- R146, step 4: an inactivity time that was 0 starts the timer although keep-awake is on.
theorem test_inactivity_set_under_keepAwake :
    (inactivitySettings { Settings.default with inactivityTime := 0 }
      (liveOn fun p => { p with sa.inactivity := none, sl.inForce.keepAwake := true }).part).sa.inactivity =
      some ⟨5000#32, 60000⟩ := by decide

-- Section 10.7: what the apply under the lock writes back.
theorem test_apply_under_lock :
    let area := List.range 224 |>.map settingsDefault
    let ask := ((((area.set 0x35 250#16).set 0x20 20#16).set 0x0D 400#16).set 0x36 38#16)
    let r := judgeProposal true { Settings.default with ceiling := 350 } ask
    r.code = rcLockedKept ∧ (∀ x ∈ [(0x20, 50#16), (0x35, 350#16), (0x36, 40#16)], x ∈ r.written) ∧ (r.written.map (·.1)).contains 0x0D = false := by
  decide

-- Section 11.7, steps 2, 8 and 10.
theorem test_acknowledge_posture :
    after .acknowledge (liveOn fun p => { p with nu.classes.posture.state := .pending, nu.attn := true })
      (fun t => (t.part.nu.classes.posture.state, t.part.nu.serviceLevel, t.part.nu.attn, t.part.hp.out)) =
      some (.inService, 4, false, [0x0401#16]) := by decide
theorem test_take_again :
    after (.take 6#16) (liveOn fun p => { p with nu.classes.charge.state := .inService, nu.serviceLevel := 7 })
      (fun t => (t.part.nu.badService, t.part.nu.classes.charge.state)) = some (1, .inService) := by decide
theorem test_endService_shadow :
    after (.endService 1#16)
      (liveOn fun p => { p with
        nu.classes.posture := ⟨.inService, none, some (.posture (postureContent p)), 1, 1#16⟩
        nu.classes.charge.state := .inService, nu.serviceLevel := 4 })
      (fun t => (t.part.nu.classes.posture.seq, t.part.nu.classes.posture.publishing.isSome, t.part.nu.serviceLevel)) =
      some (2#16, true, 7) := by decide

-- Sections 13.2 and 13.7: what the host reads after a full reset, and IDENT.
theorem test_read_layout : after (.read 0#16 2) live (fun t => t.part.hp.out) = some [1#16, 2#16] := by decide
-- R150, R160: HMISO carries the returned word, is high in a WRITE, and high-impedance with HCS high and with RESETN low.
theorem test_hmiso_carries_the_word : after (.portRead 0#8) live (fun t => hmiso t.part) = some (.data 0xCF42#16) := by decide
theorem test_hmiso_high_in_a_write : after (.write 0x20#16 [1#16]) live (fun t => hmiso t.part) = some .high := by decide
theorem test_hmiso_with_hcs_high : hmiso live.part = .highImpedance := by decide
theorem test_hmiso_under_a_reset :
    after .fullReset (liveOn fun p => { p with hp.trans := some ⟨.read, 7, .ok, []⟩, hp.out := [7#16] }) (fun t => hmiso t.part) =
      some .highImpedance := by decide
theorem test_portRead_ident : after (.portRead 0#8) live (fun t => t.part.hp.out) = some [0xCF42#16] := by decide
theorem test_portRead_status :
    after (.portRead 1#8) (liveOn fun p => { p with hp.trans := some ⟨.write, 0, .prot, []⟩ }) (fun t => t.part.hp.out) =
      some [0x8002#16] := by decide

-- The queue: a waiting command runs, the rest waits.
theorem test_step_runs_front :
    (match step { live with pending := [.tbTick, .quietEnd] } with
      | .next t => some (t.part.tb, t.pending)
      | .fault _ | .refused _ => none) = some (5001#32, [.quietEnd]) := by decide

-- R83: between two BASE entries of a reload walk the link carries out a target of HIBERNATE, and the next ATTR asks for a wake.
theorem test_reply_hibernates_between_entries :
    after (.reply ⟨0, 0⟩ 1#4 3#16 0#8 9#8)
      (liveOn fun p => { p with
        bl.link := .active, bl.target := .hibernate, bl.exch := some (.attr ⟨true, 3#12, 9#8⟩), bl.attempts := 1
        pw.walk := .reload, pw.inFlight := some .walkEntry, pw.position := 0
        pw.snapshot := some [(0x9003#16, 9#16), (0x9004#16, 1#16)] })
      (fun t => (t.part.bl.link, t.part.bl.exch, t.part.bl.qAttr.map (·.id), t.part.bl.pendingWake, t.part.pw.wakeAsked)) =
      some (.hibernate, some (.mode .hibernate false), some 4#12, true, true) := by decide

-- R85: an attach walk that waits for a result write is ended by a detach, and still takes its snapshot at that write's end.
theorem test_detach_ends_the_waiting_walk :
    after (.debounceExpiry .bpres)
      (liveOn fun p => { p with
        bl.link := .profiling, inp.bpres := ⟨true, true, some ⟨4900#32, 100⟩⟩
        pw.walk := .attach, pw.op := .resultWrite, pw.ending := some .superseded, pw.waiting := [none] })
      (fun t => (t.part.bl.link, t.part.pw.op, t.part.pw.ending, t.part.pw.waiting)) =
      some (.detached, .resultWrite, some .superseded, [some .notAttached]) := by decide
theorem test_ended_walk_takes_its_snapshot :
    after .profileResultWriteEnd
      (liveOn fun p => { p with
        pw.walk := .attach, pw.op := .resultWrite, pw.ending := some .superseded, pw.waiting := [some .notAttached] })
      (fun t => (t.part.pw.op, t.part.pw.walk, t.part.pw.ending, t.part.pw.waiting)) =
      some (.snapshot, .attach, some .notAttached, []) := by decide

-- R53: a noisy character complete while the receiver listened counts, though a detach came before the end of its frame.
theorem test_noise_before_a_detach :
    after (.frameGapTimeout ⟨2, 3⟩) (liveOn fun p => { p with bl.link := .detached, bl.noise := 7 })
      (fun t => (t.part.bl.noise, t.part.bl.framing)) = some (9, 0) := by decide
theorem test_noise_of_a_discard :
    after (.frameDiscard [⟨0xA1#8, false, true, true⟩, ⟨25#8, false, true, false⟩]) (liveOn fun p => { p with bl.link := .fault })
      (fun t => (t.part.bl.noise, t.part.bl.check)) = some (1, 0) := by decide

-- R160: a full reset in force keeps the reset values, so a break that comes under it counts no noise.
theorem test_no_noise_under_a_reset :
    after (.lineBreakReceived ⟨2, 3⟩) (liveOn fun p => { p with resetLow := true, bl.link := .detached, bl.noise := 0 })
      (fun t => t.part.bl.noise) = some 0 := by decide
-- R54, log entry 54: a LEN above 24 that is flagged framing error counts in the framing counter alone.
theorem test_framing_before_length :
    after (.frameDiscard [⟨0xA1#8, false, false, false⟩, ⟨25#8, true, false, false⟩]) (liveOn fun p => { p with bl.link := .active })
      (fun t => (t.part.bl.framing, t.part.bl.check)) = some (1, 0) := by decide

-- R127: under the contact guard a limit that rises leaves CHARGING, although a cause stands; a BUDGET set then leads to PAUSED.
theorem test_rise_under_the_guard :
    after (.status ⟨0, 0⟩ 1#4 1#8 0#8 0#16 [])
      (liveOn fun p => { p with
        bl.link := .active, bl.reservation := 2600, bl.ident := some ⟨1#8, 1#8, 7#32⟩, inp.penh := ⟨false, true, none⟩
        cc.session := .charging, cc.causes := ⟨false, false, true⟩, cc.guard := some 4999#32, cc.budget := 4500
        cc.reservation := 2600, cc.budgetLimit := 380 })
      (fun t => (t.part.cc.session, t.part.cc.budgetLimit)) = some (.charging, 500) := by decide
theorem test_budget_cut_pauses :
    after (.status ⟨0, 0⟩ 1#4 1#8 0#8 4500#16 [])
      (liveOn fun p => { p with
        bl.link := .active, inp.penh := ⟨true, true, none⟩, cc.session := .charging, cc.setpoint := 300, cc.budget := 4500
        cc.budgetLimit := 500 })
      (fun t => (t.part.cc.session, t.part.cc.setpoint, t.part.cc.causes.budget)) = some (.paused, 0, true) := by decide

/-! ### States and operands that meet the hypotheses of the statements, clause by clause -/

theorem test_met_StepRunsTheFrontCommand_2 : ∃ (s : State),
    s.pending = [] :=
  ⟨live, by decide⟩

theorem test_met_EventsThatCannotOccurChangeNothing_1a : ∃ (i : Instr) (s : State),
    Instr.occurs i s = false :=
  ⟨.grantSent, live, by decide⟩

theorem test_met_EventsThatCannotOccurChangeNothing_1b : ∃ (i : Instr) (s : State),
    Instr.occurs i s = false :=
  ⟨.debounceExpiry .penh, (liveOn fun p => { p with inp.penh.timer := some ⟨4901#32, 100⟩ }), by decide⟩

theorem test_met_FullResetAndTimeBase_2 : ∃ (s : State),
    s.part.resetLow = true :=
  ⟨(liveOn fun p => { p with resetLow := true }), by decide⟩

theorem test_met_FullResetAndTimeBase_3 : ∃ (s : State),
    s.part.resetLow = false :=
  ⟨(liveOn fun p => { p with tb := 0xFFFFFFFF#32 }), by decide⟩

theorem test_met_SoftReset_1 : ∃ (s : State),
    portFree s.part = true :=
  ⟨(liveOn fun p => { p with hp.trans := some ⟨.read, 0x21, .ok, []⟩ }), by decide⟩

theorem test_met_ResetWorkEnds_1a : ∃ (w : ResetWork) (s : State),
    s.part.resetWork = some w ∧ s.part.resetLow = false ∧ (∀ r ∈ w.writes, r.1 < 224) ∧ (w.writes.map (·.1)).Nodup ∧ MemoryInv s :=
  ⟨⟨[(0, 1#16), (223, 0#16)], true⟩, (liveOn fun p => { p with resetWork := some ⟨[(0, 1#16), (223, 0#16)], true⟩, partState := .starting }), by decide⟩

theorem test_met_ResetWorkEnds_1b : ∃ (w : ResetWork) (s : State),
    s.part.resetWork = some w ∧ s.part.resetLow = false ∧ (∀ r ∈ w.writes, r.1 < 224) ∧ (w.writes.map (·.1)).Nodup ∧ MemoryInv s :=
  ⟨⟨[], false⟩, (liveOn fun p => { p with resetWork := some ⟨[], false⟩, nu.deferred := [.faults (some .sensorFault) 0#7, .faults none 1#7, .content .keys] }), by decide⟩

theorem test_met_ConfigurationStepEnds_1 : ∃ (start : Time) (f : ConfigTry) (g : ConfigTry) (s : State),
    s.part.sp.flight = .config start ∧ ((f.identity = 0x5C#8 ∧ f.rangeHeld = true) ∨ (g.identity = 0x5C#8 ∧ g.rangeHeld = true)) :=
  ⟨9#32, ⟨0x5C#8, false⟩, ⟨0x5C#8, true⟩, (liveOn fun p => { p with sp.flight := .config 9#32, sp.health := .configuring, partState := .starting }), by decide⟩

theorem test_met_ConfigurationStepEnds_2 : ∃ (start : Time) (f : ConfigTry) (g : ConfigTry) (s : State),
    s.part.sp.flight = .config start ∧ ¬ (f.identity = 0x5C#8 ∧ f.rangeHeld = true) ∧ ¬ (g.identity = 0x5C#8 ∧ g.rangeHeld = true) :=
  ⟨9#32, ⟨0x5C#8, false⟩, ⟨0x5D#8, true⟩, (liveOn fun p => { p with sp.flight := .config 9#32, sp.health := .configuring, partState := .starting }), by decide⟩

theorem test_met_DueTimesAndFaultedAttempts_1 : ∃ (d : Time) (s : State),
    s.part.sp.health = .healthy ∧ s.part.sp.nextDue = some d ∧ reached s.part.tb d = true :=
  ⟨5000#32, (liveOn fun p => { p with sp.nextDue := some 5000#32 }), by decide⟩

theorem test_met_DueTimesAndFaultedAttempts_2 : ∃ (d : Time) (s : State),
    s.part.sp.health = .faulted ∧ s.part.sp.nextDue = some d ∧ reached s.part.tb d = true :=
  ⟨5000#32, (liveOn fun p => { p with sp.health := .faulted, sp.nextDue := some 5000#32 }), by decide⟩

theorem test_met_DueTimesAndFaultedAttempts_3 : ∃ (due : Time) (f : ConfigTry) (g : ConfigTry) (a : SampleTry) (r : SampleTry) (s : State),
    s.part.sp.flight = .attempt due ∧ attemptGood f g a r = false :=
  ⟨5000#32, ⟨0x5C#8, true⟩, ⟨0x5C#8, true⟩, ⟨0x5C#8, false, 0#16, 0#16, 4096#16⟩, ⟨0x5D#8, true, 0#16, 0#16, 4096#16⟩, (liveOn fun p => { p with sp.health := .faulted, sp.flight := .attempt 5000#32 }), by decide⟩

theorem test_met_DueTimesAndFaultedAttempts_4 : ∃ (due : Time) (f : ConfigTry) (g : ConfigTry) (a : SampleTry) (r : SampleTry) (s : State),
    s.part.sp.flight = .attempt due ∧ attemptGood f g a r = true ∧ s.part.sp.goodRun + 1 < 5 :=
  ⟨5000#32, ⟨0x5C#8, false⟩, ⟨0x5C#8, true⟩, ⟨0x5C#8, false, 0#16, 0#16, 4096#16⟩, ⟨0x5C#8, true, 0#16, 0#16, 4096#16⟩, (liveOn fun p => { p with sp.health := .faulted, sp.flight := .attempt 5000#32, sp.goodRun := 3 }), by decide⟩

theorem test_met_DueTimesAndFaultedAttempts_5 : ∃ (due : Time) (f : ConfigTry) (g : ConfigTry) (a : SampleTry) (r : SampleTry) (s : State),
    s.part.sp.flight = .attempt due ∧ attemptGood f g a r = true ∧ 5 ≤ s.part.sp.goodRun + 1 :=
  ⟨5000#32, ⟨0x5C#8, true⟩, ⟨0x5C#8, false⟩, ⟨0x5C#8, true, 0#16, 0#16, 4096#16⟩, ⟨0x5C#8, false, 0#16, 0#16, 4096#16⟩, (liveOn fun p => { p with sp.health := .faulted, sp.flight := .attempt 5000#32, sp.goodRun := 4, partState := .degraded }), by decide⟩

theorem test_met_SampleOutcome_1 : ∃ (due : Time) (v : Int × Int × Int) (a : SampleTry) (r : SampleTry) (s : State),
    s.part.sp.flight = .sample due ∧ sampleReading a r = some v :=
  ⟨5000#32, (0, 0, 4096), ⟨0x5C#8, false, 0#16, 0#16, 4096#16⟩, ⟨0x5C#8, true, 0#16, 0#16, 4096#16⟩, (liveOn fun p => { p with sp.flight := .sample 5000#32, sp.failureRun := 2 }), by decide⟩

theorem test_met_SampleOutcome_2 : ∃ (due : Time) (a : SampleTry) (r : SampleTry) (s : State),
    s.part.sp.flight = .sample due ∧ ¬ (a.identity = 0x5C#8 ∧ a.ready = true) ∧ ¬ (r.identity = 0x5C#8 ∧ r.ready = true) ∧ s.part.sp.failureRun + 1 < 3 :=
  ⟨5000#32, ⟨0x5C#8, false, 0#16, 0#16, 4096#16⟩, ⟨0x5D#8, true, 0#16, 0#16, 4096#16⟩, (liveOn fun p => { p with sp.flight := .sample 5000#32, sp.failureRun := 1 }), by decide⟩

theorem test_met_SampleOutcome_3 : ∃ (due : Time) (a : SampleTry) (r : SampleTry) (s : State),
    s.part.sp.flight = .sample due ∧ ¬ (a.identity = 0x5C#8 ∧ a.ready = true) ∧ ¬ (r.identity = 0x5C#8 ∧ r.ready = true) ∧ 3 ≤ s.part.sp.failureRun + 1 :=
  ⟨5000#32, ⟨0x5C#8, false, 0#16, 0#16, 4096#16⟩, ⟨0x5D#8, true, 0#16, 0#16, 4096#16⟩, (liveOn fun p => { p with sp.flight := .sample 5000#32, sp.failureRun := 2 }), by decide⟩

theorem test_met_FilteredLevelsAndTheContactGuard_1 : ∃ (k : Input) (high : Bool) (s : State),
    (s.part.inp.get k).level ≠ high ∧ s.part.resetLow = false :=
  ⟨.foldh, false, live, by decide⟩

theorem test_met_FilteredLevelsAndTheContactGuard_2 : ∃ (k : Input) (high : Bool) (s : State),
    (s.part.inp.get k).level ≠ high ∧ s.part.resetLow = true :=
  ⟨.lidh, false, (liveOn fun p => { p with resetLow := true }), by decide⟩

theorem test_met_FilteredLevelsAndTheContactGuard_3 : ∃ (high : Bool) (s : State),
    s.part.inp.penh.level ≠ high ∧ s.part.resetLow = false ∧ high ≠ s.part.sl.inForce.activeHigh.penh ∧ s.part.inp.penh.debounced = true ∧ s.part.cc.guard = none :=
  ⟨true, (liveOn fun p => { p with inp.penh := ⟨false, true, none⟩, pn.phase := .poll }), by decide⟩

theorem test_met_FilteredLevelsAndTheContactGuard_4a : ∃ (high : Bool) (since : Time) (s : State),
    s.part.inp.penh.level ≠ high ∧ s.part.resetLow = false ∧ high = s.part.sl.inForce.activeHigh.penh ∧ s.part.cc.guard = some since :=
  ⟨false, 4998#32, (liveOn fun p => { p with inp.penh := ⟨true, true, none⟩, cc.guard := some 4998#32, cc.session := .charging }), by decide⟩

theorem test_met_FilteredLevelsAndTheContactGuard_4b : ∃ (high : Bool) (since : Time) (s : State),
    s.part.inp.penh.level ≠ high ∧ s.part.resetLow = false ∧ high = s.part.sl.inForce.activeHigh.penh ∧ s.part.cc.guard = some since :=
  ⟨false, 4999#32, (liveOn fun p => { p with inp.penh := ⟨true, true, none⟩, cc.guard := some 4999#32, cc.session := .settling }), by decide⟩

theorem test_met_DebouncedChangesReachTheirBlocks_1 : ∃ (k : Input) (s : State),
    timerDue (s.part.inp.get k).timer s.part.tb = true :=
  ⟨.lidh, (liveOn fun p => { p with inp.lidh := ⟨false, false, some ⟨4900#32, 100⟩⟩ }), by decide⟩

theorem test_met_DebouncedChangesReachTheirBlocks_2a : ∃ (k : Input) (s : State),
    timerDue (s.part.inp.get k).timer s.part.tb = true ∧ k ∈ [.lidh, .foldh] ∧ s.part.bl.link = .active ∧ s.part.bl.target ≠ .hibernate ∧ s.part.sa.hostState = .running :=
  ⟨.lidh, (liveOn fun p => { p with inp.lidh := ⟨false, false, some ⟨4900#32, 100⟩⟩, bl.link := .active }), by decide⟩

theorem test_met_DebouncedChangesReachTheirBlocks_2b : ∃ (k : Input) (s : State),
    timerDue (s.part.inp.get k).timer s.part.tb = true ∧ k ∈ [.lidh, .foldh] ∧ s.part.bl.link = .active ∧ s.part.bl.target ≠ .hibernate ∧ s.part.sa.hostState = .running :=
  ⟨.foldh, (liveOn fun p => { p with inp.foldh := ⟨true, true, some ⟨4900#32, 100⟩⟩, bl.link := .active }), by decide⟩

theorem test_met_DebouncedChangesReachTheirBlocks_3 : ∃ (s : State),
    timerDue s.part.inp.penh.timer s.part.tb = true ∧ filteredActive s.part.sl.inForce .penh s.part.inp.penh.level = true ∧ s.part.cc.session = .absent :=
  ⟨(liveOn fun p => { p with inp.penh := ⟨false, false, some ⟨4900#32, 100⟩⟩ }), by decide⟩

theorem test_met_DebouncedChangesReachTheirBlocks_4 : ∃ (s : State),
    timerDue s.part.inp.penh.timer s.part.tb = true ∧ filteredActive s.part.sl.inForce .penh s.part.inp.penh.level = false :=
  ⟨(liveOn fun p => { p with inp.penh := ⟨true, true, some ⟨4900#32, 100⟩⟩, cc.session := .silent, nu.faults := FaultName.penSilent.set }), by decide⟩

theorem test_met_DebouncedChangesReachTheirBlocks_5 : ∃ (s : State),
    timerDue s.part.inp.bpres.timer s.part.tb = true ∧ filteredActive s.part.sl.inForce .bpres s.part.inp.bpres.level = true ∧ s.part.bl.link = .detached :=
  ⟨(liveOn fun p => { p with inp.bpres := ⟨false, false, some ⟨4900#32, 100⟩⟩ }), by decide⟩

theorem test_met_DebouncedChangesReachTheirBlocks_6 : ∃ (s : State),
    timerDue s.part.inp.bpres.timer s.part.tb = true ∧ filteredActive s.part.sl.inForce .bpres s.part.inp.bpres.level = false ∧ s.part.bl.link ≠ .detached :=
  ⟨(liveOn fun p => { p with inp.bpres := ⟨true, true, some ⟨4900#32, 100⟩⟩, bl.link := .active }), by decide⟩

theorem test_met_SamplesAndTheHoldTimerSetTheAngle_1 : ∃ (due : Time) (v : Int × Int × Int) (b : BaseSample) (a : SampleTry) (r : SampleTry) (s : State),
    s.part.sp.flight = .sample due ∧ sampleReading a r = some v ∧ s.part.bl.sample = some b ∧ failedCheck s.part.sl.inForce s.part.bl.link s.part.sa.hostState s.part.tb s.part.bl.absent s.part.bl.sample v = none ∧ s.part.ae.validity = .unknown :=
  ⟨5000#32, (0, 0, 4096), ⟨0#16, 0#16, 4096#16, 3#8, 4960#32⟩, ⟨0x5C#8, true, 0#16, 0#16, 4096#16⟩, ⟨0x5C#8, false, 0#16, 0#16, 4096#16⟩, (liveOn fun p => { p with sp.flight := .sample 5000#32, bl.link := .active, bl.sample := some ⟨0#16, 0#16, 4096#16, 3#8, 4960#32⟩ }), by decide⟩

theorem test_met_SamplesAndTheHoldTimerSetTheAngle_2 : ∃ (due : Time) (v : Int × Int × Int) (b : BaseSample) (a : SampleTry) (r : SampleTry) (s : State),
    s.part.sp.flight = .sample due ∧ sampleReading a r = some v ∧ s.part.bl.sample = some b ∧ failedCheck s.part.sl.inForce s.part.bl.link s.part.sa.hostState s.part.tb s.part.bl.absent s.part.bl.sample v = none ∧ s.part.ae.validity ≠ .unknown :=
  ⟨5000#32, (0, 0, 4096), ⟨0#16, 0#16, 4096#16, 3#8, 4960#32⟩, ⟨0x5C#8, true, 0#16, 0#16, 4096#16⟩, ⟨0x5C#8, false, 0#16, 0#16, 4096#16⟩, (liveOn fun p => { p with sp.flight := .sample 5000#32, bl.link := .active, bl.sample := some ⟨0#16, 0#16, 4096#16, 3#8, 4960#32⟩, ae := ⟨.held, .motion, 46079, 7, some 0, some ⟨4000#32, 2000⟩, some (0, 4096)⟩ }), by decide⟩

theorem test_met_SamplesAndTheHoldTimerSetTheAngle_3a : ∃ (due : Time) (v : Int × Int × Int) (why : Reason) (a : SampleTry) (r : SampleTry) (s : State),
    s.part.sp.flight = .sample due ∧ sampleReading a r = some v ∧ failedCheck s.part.sl.inForce s.part.bl.link s.part.sa.hostState s.part.tb s.part.bl.absent s.part.bl.sample v = some why :=
  ⟨5000#32, (0, 0, 4096), .noBase, ⟨0x5C#8, true, 0#16, 0#16, 4096#16⟩, ⟨0x5C#8, false, 0#16, 0#16, 4096#16⟩, (liveOn fun p => { p with sp.flight := .sample 5000#32, ae := ⟨.valid, .none, 9, 0, some 1, some ⟨4000#32, 2000⟩, some (0, 4096)⟩ }), by decide⟩

theorem test_met_SamplesAndTheHoldTimerSetTheAngle_3b : ∃ (due : Time) (v : Int × Int × Int) (why : Reason) (a : SampleTry) (r : SampleTry) (s : State),
    s.part.sp.flight = .sample due ∧ sampleReading a r = some v ∧ failedCheck s.part.sl.inForce s.part.bl.link s.part.sa.hostState s.part.tb s.part.bl.absent s.part.bl.sample v = some why :=
  ⟨5001#32, (0, 0, 4096), .staleBase, ⟨0x5C#8, true, 0#16, 0#16, 4096#16⟩, ⟨0x5C#8, false, 0#16, 0#16, 4096#16⟩, (liveOn fun p => { p with tb := 5001#32, sp.flight := .sample 5001#32, bl.link := .active, bl.sample := some ⟨0#16, 0#16, 4096#16, 3#8, 4960#32⟩ }), by decide⟩

theorem test_met_SamplesAndTheHoldTimerSetTheAngle_4 : ∃ (s : State),
    timerDue s.part.ae.hold s.part.tb = true :=
  ⟨(liveOn fun p => { p with ae := ⟨.held, .motion, 9, 0, some 1, some ⟨3000#32, 2000⟩, some (0, 4096)⟩ }), by decide⟩

theorem test_met_SamplesAndTheHoldTimerSetTheAngle_5a : ∃ (v : Nat) (f : Nat),
    v < 46080 ∧ f < 46080 :=
  ⟨0, 23040, by decide⟩

theorem test_met_SamplesAndTheHoldTimerSetTheAngle_5b : ∃ (v : Nat) (f : Nat),
    v < 46080 ∧ f < 46080 :=
  ⟨46079, 0, by decide⟩

theorem test_met_ValidityChecksComeInOrder_2 : ∃ (link : Link),
    link.live = true :=
  ⟨.stall, by decide⟩

theorem test_met_ValidityChecksComeInOrder_3a : ∃ (link : Link) (h : HostState) (now : Time) (b : BaseSample),
    link.live = true ∧ (now - b.time).toNat ≤ (if h = .running then 40 else 200) :=
  ⟨.active, .running, 5000#32, ⟨0#16, 0#16, 4096#16, 3#8, 4960#32⟩, by decide⟩

theorem test_met_ValidityChecksComeInOrder_3b : ∃ (link : Link) (h : HostState) (now : Time) (b : BaseSample),
    link.live = true ∧ (now - b.time).toNat ≤ (if h = .running then 40 else 200) :=
  ⟨.active, .off, 5160#32, ⟨0#16, 0#16, 4096#16, 3#8, 4960#32⟩, by decide⟩

theorem test_met_ValidityChecksComeInOrder_4 : ∃ (c : Settings) (link : Link) (h : HostState) (now : Time) (b : BaseSample) (v : Int × Int × Int),
    link.live = true ∧ (now - b.time).toNat ≤ (if h = .running then 40 else 200) ∧ saturatedReading v = false ∧ saturatedReading b.reading = false ∧ inMotionWindow c.motionTolerance (c.lidMap.apply v) = true ∧ inMotionWindow c.motionTolerance (c.baseMap.apply b.reading) = true :=
  ⟨.default, .active, .running, 5000#32, ⟨0#16, 0#16, 4096#16, 3#8, 4960#32⟩, (0, 0, 4096), by decide⟩

theorem test_met_FilterStepRoundsHalvesAwayFromZero_2a : ∃ (c : Settings) (v : Nat) (f : Nat),
    v < 46080 ∧ f < 46080 ∧ (circleDiff v f).natAbs ≤ 128 * c.snapThreshold :=
  ⟨.default, 3840, 0, by decide⟩

theorem test_met_FilterStepRoundsHalvesAwayFromZero_2b : ∃ (c : Settings) (v : Nat) (f : Nat),
    v < 46080 ∧ f < 46080 ∧ (circleDiff v f).natAbs ≤ 128 * c.snapThreshold :=
  ⟨.default, 0, 46079, by decide⟩

theorem test_met_RawAngleAndPublishedAngle_1 : ∃ (k : Nat),
    0 < k :=
  ⟨1, by decide⟩

theorem test_met_RawAngleAndPublishedAngle_2 : ∃ (n : Nat),
    0 < n :=
  ⟨1, by decide⟩

theorem test_met_RawAngleAndPublishedAngle_3 : ∃ (x : Int) (y : Int),
    (x ≠ 0 ∨ y ≠ 0) :=
  ⟨0, -1, by decide⟩

theorem test_met_RawAngleAndPublishedAngle_4 : ∃ (x : Int) (y : Int) (x1 : Int) (y1 : Int),
    0 < x ∧ 0 ≤ y ∧ 0 < x1 ∧ 0 ≤ y1 ∧ y * x1 ≤ y1 * x :=
  ⟨4096, 0, 1, 4096, by decide⟩

theorem test_met_ZonesAndRetainedBands_1 : ∃ (c : Settings),
    c.b1 < c.b2 ∧ c.b2 < c.b3 ∧ c.b3 < c.b4 ∧ c.b4 ≤ 355 :=
  ⟨.default, by decide⟩

theorem test_met_ZonesAndRetainedBands_2 : ∃ (c : Settings),
    c.hysteresis ≤ 5 :=
  ⟨.default, by decide⟩

theorem test_met_PostureEvaluationAtASample_1 : ∃ (due : Time) (v : Int × Int × Int) (a : SampleTry) (r : SampleTry) (s : State),
    s.part.sp.flight = .sample due ∧ sampleReading a r = some v ∧ s.part.bl.link = .active ∧ s.part.bl.target ≠ .hibernate ∧ s.part.sa.hostState = .running :=
  ⟨5000#32, (0, 0, 4096), ⟨0x5C#8, true, 0#16, 0#16, 4096#16⟩, ⟨0x5C#8, false, 0#16, 0#16, 4096#16⟩, (liveOn fun p => { p with sp.flight := .sample 5000#32, bl.link := .active, bl.sample := some ⟨0#16, 0#16, 4096#16, 3#8, 4960#32⟩, pc.zone := .opened }), by decide⟩

theorem test_met_PostureEvaluationAtASample_2a : ∃ (c : Settings) (d : StoredDelivery) (a : Nat),
    c.b1 + 10 ≤ c.b2 ∧ c.b2 + 10 ≤ c.b3 ∧ c.b3 + 10 ≤ c.b4 ∧ 5 ≤ c.b1 ∧ c.b4 ≤ 355 ∧ c.hysteresis ≤ 5 ∧ d.angle = some a ∧ d.validity ≠ .unknown ∧ a ≤ 2880 :=
  ⟨.default, ⟨some 160, .valid, .none, some (0, 4096)⟩, 160, by decide⟩

theorem test_met_PostureEvaluationAtASample_2b : ∃ (c : Settings) (d : StoredDelivery) (a : Nat),
    c.b1 + 10 ≤ c.b2 ∧ c.b2 + 10 ≤ c.b3 ∧ c.b3 + 10 ≤ c.b4 ∧ 5 ≤ c.b1 ∧ c.b4 ≤ 355 ∧ c.hysteresis ≤ 5 ∧ d.angle = some a ∧ d.validity ≠ .unknown ∧ a ≤ 2880 :=
  ⟨.default, ⟨some 2880, .held, .motion, some (0, 4096)⟩, 2880, by decide⟩

theorem test_met_PostureDwellExpiry_1 : ∃ (s : State),
    timerDue s.part.pc.dwell s.part.tb = true :=
  ⟨(liveOn fun p => { p with pc.dwell := some ⟨4700#32, 300⟩, pc.candidate := .tablet, bl.link := .stall }), by decide⟩

theorem test_met_PostureDwellExpiry_2 : ∃ (s : State),
    timerDue s.part.pc.dwell s.part.tb = true ∧ s.part.bl.link = .active ∧ s.part.bl.target ≠ .hibernate ∧ s.part.sa.hostState = .running :=
  ⟨(liveOn fun p => { p with pc.dwell := some ⟨4700#32, 300⟩, pc.candidate := .laptop, bl.link := .active }), by decide⟩

theorem test_met_PostureDwellExpiry_3a : ∃ (s : State),
    timerDue s.part.pc.dwell s.part.tb = true ∧ s.part.bl.link = .active ∧ s.part.bl.target ≠ .hibernate ∧ s.part.sa.hostState = .running ∧ s.part.pc.candidate ≠ s.part.pc.published :=
  ⟨(liveOn fun p => { p with pc.dwell := some ⟨4700#32, 300⟩, pc.candidate := .closed, bl.link := .active }), by decide⟩

theorem test_met_PostureDwellExpiry_3b : ∃ (s : State),
    timerDue s.part.pc.dwell s.part.tb = true ∧ s.part.bl.link = .active ∧ s.part.bl.target ≠ .hibernate ∧ s.part.sa.hostState = .running ∧ s.part.pc.candidate ≠ s.part.pc.published :=
  ⟨(liveOn fun p => { p with pc.dwell := some ⟨4700#32, 300⟩, pc.candidate := .laptop, bl.link := .active, sa.advisor := .closePending }), by decide⟩

theorem test_met_PostureDwellExpiry_4 : ∃ (s : State),
    timerDue s.part.pc.dwell s.part.tb = true ∧ s.part.sa.hostState ≠ .running ∧ s.part.sa.advisor = .watching ∧ s.part.pc.candidate ≠ s.part.pc.published :=
  ⟨(liveOn fun p => { p with pc.dwell := some ⟨4700#32, 300⟩, pc.candidate := .laptop, sa.hostState := .sleeping, sa.advisor := .watching, sa.posture := .closed }), by decide⟩

theorem test_met_OrientationDecision_3 : ∃ (q : Rotation) (s : State),
    timerDue s.part.ot.dwell s.part.tb = true ∧ s.part.ot.candidate = some q :=
  ⟨.rot90, (liveOn fun p => { p with ot.dwell := some ⟨4500#32, 500⟩, ot.candidate := some .rot90 }), by decide⟩

theorem test_met_OrientationDecision_4 : ∃ (due : Time) (v : Int × Int × Int) (a : SampleTry) (r : SampleTry) (s : State),
    s.part.sp.flight = .sample due ∧ sampleReading a r = some v ∧ s.part.bl.link = .active ∧ s.part.bl.target ≠ .hibernate ∧ s.part.sa.hostState = .running :=
  ⟨5000#32, (0, 0, 4096), ⟨0x5C#8, true, 0#16, 0#16, 4096#16⟩, ⟨0x5C#8, false, 0#16, 0#16, 4096#16⟩, (liveOn fun p => { p with sp.flight := .sample 5000#32, bl.link := .active }), by decide⟩

theorem test_met_ReceiverCountsAndMotion_1 : ∃ (s : State),
    s.part.bl.link.listens = true :=
  ⟨(liveOn fun p => { p with bl.link := .activating, bl.noise := 65520 }), by decide⟩

theorem test_met_ReceiverCountsAndMotion_2 : ∃ (s : State),
    s.part.bl.link.listens = true :=
  ⟨(liveOn fun p => { p with bl.link := .identifying }), by decide⟩

theorem test_met_ReceiverCountsAndMotion_3 : ∃ (s : State),
    s.part.bl.link.listens = true :=
  ⟨(liveOn fun p => { p with bl.link := .active }), by decide⟩

theorem test_met_ReceiverCountsAndMotion_5 : ∃ (s : State),
    s.part.bl.link.listens = true :=
  ⟨(liveOn fun p => { p with bl.link := .stall, bl.expSeq := some 0#4 }), by decide⟩

theorem test_met_ReceiverCountsAndMotion_6 : ∃ (b : Bl) (e : BitVec 4),
    b.expSeq = some e :=
  ⟨{ Bl.reset with expSeq := some 3#4 }, 3#4, by decide⟩

theorem test_met_ReceiverCountsAndMotion_7 : ∃ (n : NoiseCount) (cs : List RxChar) (s : State),
    s.part.resetLow = false ∧ s.part.bl.link.listens = false ∧ 0 < n.earlier ∧ noisyChars cs = n :=
  ⟨⟨1, 1⟩, [⟨0xA5#8, false, true, true⟩, ⟨1#8, false, true, false⟩], (liveOn fun p => { p with bl.link := .detached }), by decide⟩

theorem test_met_HelloAttachesOrRefuses_1 : ∃ (s : State),
    s.part.bl.link = .activating :=
  ⟨(liveOn fun p => { p with bl.link := .activating }), by decide⟩

theorem test_met_HelloAttachesOrRefuses_2 : ∃ (cls : Byte) (rev : Byte) (mw : Nat) (s : State),
    s.part.bl.link ∈ [.identifying, .profiling, .active, .stall, .hibernate, .waking] ∧ allowance cls = some mw ∧ s.part.sl.inForce.classMask.getLsbD cls.toNat = true ∧ rev ≠ 0#8 :=
  ⟨4#8, 1#8, 150, (liveOn fun p => { p with bl.link := .identifying }), by decide⟩

theorem test_met_HelloAttachesOrRefuses_3a : ∃ (cls : Byte) (rev : Byte) (s : State),
    s.part.bl.link ∈ [.identifying, .profiling, .active, .stall, .hibernate, .waking] ∧ (allowance cls = none ∨ s.part.sl.inForce.classMask.getLsbD cls.toNat = false ∨ rev = 0#8) :=
  ⟨5#8, 1#8, (liveOn fun p => { p with bl.link := .identifying }), by decide⟩

theorem test_met_HelloAttachesOrRefuses_3b : ∃ (cls : Byte) (rev : Byte) (s : State),
    s.part.bl.link ∈ [.identifying, .profiling, .active, .stall, .hibernate, .waking] ∧ (allowance cls = none ∨ s.part.sl.inForce.classMask.getLsbD cls.toNat = false ∨ rev = 0#8) :=
  ⟨1#8, 0#8, (liveOn fun p => { p with bl.link := .waking }), by decide⟩

theorem test_met_KeysFrame_1a : ∃ (code : Byte) (flags : Byte) (s : State),
    s.part.bl.link = .active ∧ s.part.bl.target ≠ .hibernate ∧ flags.getLsbD 0 = false ∧ 0 < code.toNat ∧ code.toNat < 128 ∧ code.toNat ∉ s.part.kt.held ∧ s.part.kt.held.length < 16 ∧ s.part.kt.suppression = false ∧ s.part.kt.queue.length < 16 :=
  ⟨1#8, 0#8, (liveOn fun p => { p with bl.link := .active, kt.held := (List.range 15).map (· + 20) }), by decide⟩

theorem test_met_KeysFrame_1b : ∃ (code : Byte) (flags : Byte) (s : State),
    s.part.bl.link = .active ∧ s.part.bl.target ≠ .hibernate ∧ flags.getLsbD 0 = false ∧ 0 < code.toNat ∧ code.toNat < 128 ∧ code.toNat ∉ s.part.kt.held ∧ s.part.kt.held.length < 16 ∧ s.part.kt.suppression = false ∧ s.part.kt.queue.length < 16 :=
  ⟨127#8, 2#8, (liveOn fun p => { p with bl.link := .active, nu.classes.keys.state := .pending, kt.queue := List.replicate 15 ⟨3, false, false, 0#16⟩ }), by decide⟩

theorem test_met_KeysFrame_2 : ∃ (code : Byte) (flags : Byte) (s : State),
    s.part.bl.link = .active ∧ s.part.bl.target ≠ .hibernate ∧ flags.getLsbD 0 = false ∧ 0 < code.toNat ∧ code.toNat < 128 ∧ code.toNat ∉ s.part.kt.held ∧ s.part.kt.held.length < 16 ∧ s.part.kt.suppression = false ∧ 16 ≤ s.part.kt.queue.length :=
  ⟨5#8, 0#8, (liveOn fun p => { p with bl.link := .active, nu.classes.keys.state := .pending, kt.queue := List.replicate 16 ⟨3, false, false, 0#16⟩ }), by decide⟩

theorem test_met_KeysFrame_3 : ∃ (code : Byte) (flags : Byte) (s : State),
    s.part.bl.link = .active ∧ s.part.bl.target ≠ .hibernate ∧ flags.getLsbD 0 = true ∧ 0 < code.toNat ∧ code.toNat < 128 ∧ code.toNat ∈ s.part.kt.down ∧ code.toNat ∉ s.part.kt.ignored ∧ s.part.kt.suppression = false :=
  ⟨5#8, 1#8, (liveOn fun p => { p with bl.link := .active, kt.held := [5], kt.down := [5], nu.classes.keys.state := .inService }), by decide⟩

theorem test_met_KeysFrame_4a : ∃ (code : Byte) (s : State),
    s.part.bl.link = .active ∧ s.part.bl.target ≠ .hibernate ∧ (code.toNat = 0 ∨ 128 ≤ code.toNat) :=
  ⟨128#8, (liveOn fun p => { p with bl.link := .active }), by decide⟩

theorem test_met_KeysFrame_4b : ∃ (code : Byte) (s : State),
    s.part.bl.link = .active ∧ s.part.bl.target ≠ .hibernate ∧ (code.toNat = 0 ∨ 128 ≤ code.toNat) :=
  ⟨0#8, (liveOn fun p => { p with bl.link := .active, kt.invalidCodes := 65535 }), by decide⟩

theorem test_met_KeysFrame_5a : ∃ (code : Byte) (flags : Byte) (s : State),
    s.part.bl.link = .active ∧ s.part.bl.target ≠ .hibernate ∧ flags.getLsbD 0 = false ∧ 0 < code.toNat ∧ code.toNat < 128 :=
  ⟨5#8, 0#8, (liveOn fun p => { p with bl.link := .active, kt.held := [5], kt.down := [5] }), by decide⟩

theorem test_met_KeysFrame_5b : ∃ (code : Byte) (flags : Byte) (s : State),
    s.part.bl.link = .active ∧ s.part.bl.target ≠ .hibernate ∧ flags.getLsbD 0 = false ∧ 0 < code.toNat ∧ code.toNat < 128 :=
  ⟨5#8, 0#8, (liveOn fun p => { p with bl.link := .active, kt.held := (List.range 16).map (· + 20) }), by decide⟩

theorem test_met_KeysFrame_5c : ∃ (code : Byte) (flags : Byte) (s : State),
    s.part.bl.link = .active ∧ s.part.bl.target ≠ .hibernate ∧ flags.getLsbD 0 = false ∧ 0 < code.toNat ∧ code.toNat < 128 :=
  ⟨5#8, 0#8, (liveOn fun p => { p with bl.link := .active, kt.suppression := true }), by decide⟩

theorem test_met_KeysFrame_6a : ∃ (code : Byte) (flags : Byte) (s : State),
    s.part.bl.link = .active ∧ s.part.bl.target ≠ .hibernate ∧ flags.getLsbD 0 = true ∧ 0 < code.toNat ∧ code.toNat < 128 :=
  ⟨5#8, 1#8, (liveOn fun p => { p with bl.link := .active, kt.suppression := true, kt.held := [5] }), by decide⟩

theorem test_met_KeysFrame_6b : ∃ (code : Byte) (flags : Byte) (s : State),
    s.part.bl.link = .active ∧ s.part.bl.target ≠ .hibernate ∧ flags.getLsbD 0 = true ∧ 0 < code.toNat ∧ code.toNat < 128 :=
  ⟨5#8, 1#8, (liveOn fun p => { p with bl.link := .active, kt.held := [5], kt.ignored := [5] }), by decide⟩

theorem test_met_KeysFrame_6c : ∃ (code : Byte) (flags : Byte) (s : State),
    s.part.bl.link = .active ∧ s.part.bl.target ≠ .hibernate ∧ flags.getLsbD 0 = true ∧ 0 < code.toNat ∧ code.toNat < 128 :=
  ⟨5#8, 1#8, (liveOn fun p => { p with bl.link := .active, kt.held := [5] }), by decide⟩

theorem test_met_KeysFrame_7 : ∃ (es : List KeyEvent) (s : State),
    s.part.bl.link = .active ∧ s.part.bl.target ≠ .hibernate ∧ 1 ≤ es.length ∧ es.length ≤ 5 ∧ (s.part.nu.classes.keys.state ≠ .idle ∨ s.part.nu.classes.keys.publishing ≠ none ∨ s.part.resetWork ≠ none) :=
  ⟨List.replicate 5 ⟨5#8, 1#8⟩, (liveOn fun p => { p with bl.link := .active, nu.classes.keys.state := .pending }), by decide⟩

theorem test_met_KeysFrame_9 : ∃ (es : List KeyEvent) (s : State),
    s.part.bl.link.listens = true ∧ 1 ≤ es.length ∧ es.length ≤ 6 :=
  ⟨List.replicate 6 ⟨4#8, 0#8⟩, (liveOn fun p => { p with bl.link := .stall, bl.expSeq := some 1#4 }), by decide⟩

theorem test_met_KeysFrame_10a : ∃ (es : List KeyEvent) (s : State),
    s.part.bl.link ∈ [.active, .stall] ∧ s.part.bl.target ≠ .hibernate ∧ 1 ≤ es.length ∧ es.length ≤ 6 :=
  ⟨[⟨4#8, 0#8⟩], (liveOn fun p => { p with bl.link := .active, bl.expSeq := some 3#4 }), by decide⟩

theorem test_met_KeysFrame_10b : ∃ (es : List KeyEvent) (s : State),
    s.part.bl.link ∈ [.active, .stall] ∧ s.part.bl.target ≠ .hibernate ∧ 1 ≤ es.length ∧ es.length ≤ 6 :=
  ⟨List.replicate 6 ⟨4#8, 0#8⟩, (liveOn fun p => { p with bl.link := .stall }), by decide⟩

theorem test_met_StatusFrame_1 : ∃ (held : List Byte) (s : State),
    s.part.bl.link ∈ [.profiling, .active, .stall, .hibernate, .waking] ∧ held.length ≤ 16 :=
  ⟨List.replicate 16 4#8, (liveOn fun p => { p with bl.link := .hibernate, bl.ident := some ⟨1#8, 1#8, 7#32⟩ }), by decide⟩

theorem test_met_StatusFrame_2a : ∃ (q : Bool) (held : List Byte) (s : State),
    (s.part.bl.link = .profiling ∨ s.part.bl.link = .waking) ∧ held.length ≤ 16 ∧ s.part.bl.target = .active ∧ s.part.bl.exch = some (.mode .active q) ∧ 0 < s.part.bl.attempts :=
  ⟨false, [], (liveOn fun p => { p with bl.link := .profiling, bl.exch := some (.mode .active false), bl.attempts := 1 }), by decide⟩

theorem test_met_StatusFrame_2b : ∃ (q : Bool) (held : List Byte) (s : State),
    (s.part.bl.link = .profiling ∨ s.part.bl.link = .waking) ∧ held.length ≤ 16 ∧ s.part.bl.target = .active ∧ s.part.bl.exch = some (.mode .active q) ∧ 0 < s.part.bl.attempts :=
  ⟨true, [], (liveOn fun p => { p with bl.link := .waking, bl.exch := some (.mode .active true), bl.attempts := 1 }), by decide⟩

theorem test_met_StatusFrame_3 : ∃ (held : List Byte) (s : State),
    s.part.bl.link = .active ∧ held.length ≤ 16 ∧ s.part.bl.target ≠ .hibernate ∧ s.part.bl.exch = some .query ∧ 0 < s.part.bl.attempts :=
  ⟨[1#8, 127#8, 128#8, 0#8], (liveOn fun p => { p with bl.link := .active, bl.exch := some .query, bl.attempts := 1, kt.held := [9] }), by decide⟩

theorem test_met_StatusFrame_4a : ∃ (draw : Word) (held : List Byte) (s : State),
    s.part.bl.link ∈ [.profiling, .active, .stall, .hibernate, .waking] ∧ held.length ≤ 16 ∧ s.part.cc.setpoint ≤ s.part.sl.inForce.ceiling ∧ s.part.cc.setpoint ≤ minLimit 500 s.part.cc.thermalLimit ∧ s.part.cc.setpoint ≤ budgetLimitOf s.part.cc.budget (statusReservation s.part.bl (min 5000 draw.toNat)) :=
  ⟨0#16, [], (liveOn fun p => { p with bl.link := .active, bl.reservation := 2600, cc.session := .charging, cc.causes := ⟨false, false, true⟩, cc.guard := some 4999#32 }), by decide⟩

theorem test_met_StatusFrame_4b : ∃ (draw : Word) (held : List Byte) (s : State),
    s.part.bl.link ∈ [.profiling, .active, .stall, .hibernate, .waking] ∧ held.length ≤ 16 ∧ s.part.cc.setpoint ≤ s.part.sl.inForce.ceiling ∧ s.part.cc.setpoint ≤ minLimit 500 s.part.cc.thermalLimit ∧ s.part.cc.setpoint ≤ budgetLimitOf s.part.cc.budget (statusReservation s.part.bl (min 5000 draw.toNat)) :=
  ⟨5000#16, List.replicate 16 4#8, (liveOn fun p => { p with bl.link := .hibernate, cc.session := .precharge, cc.budget := 4500 }), by decide⟩

theorem test_met_ExchangesAndTheirAnswers_1 : ∃ (op : AttrOp) (r : Request) (ph : ReqPhase) (s : State),
    s.part.bl.link ∈ [.profiling, .active, .stall, .hibernate, .waking] ∧ s.part.bl.exch = some (.attr op) ∧ 0 < s.part.bl.attempts ∧ s.part.pw.inFlight = some .request ∧ s.part.pw.current = some (r, ph) :=
  ⟨⟨false, 4095#12, 0#8⟩, (req 4#16 [2#16, 4095#16]), .running, (liveOn fun p => { p with bl.link := .active, bl.exch := some (.attr ⟨false, 4095#12, 0#8⟩), bl.attempts := 1, pw.inFlight := some .request, pw.current := some ((req 4#16 [2#16, 4095#16]), .running) }), by decide⟩

theorem test_met_ExchangesAndTheirAnswers_2 : ∃ (op : AttrOp) (s : State),
    s.part.bl.link ∈ [.profiling, .active, .stall, .hibernate, .waking] ∧ s.part.bl.exch = some (.attr op) ∧ 0 < s.part.bl.attempts ∧ s.part.pw.inFlight = some .walkEntry ∧ s.part.pw.position < s.part.pw.results.length :=
  ⟨⟨true, 0#12, 9#8⟩, (liveOn fun p => { p with bl.link := .profiling, bl.exch := some (.attr ⟨true, 0#12, 9#8⟩), bl.attempts := 2, pw.inFlight := some .walkEntry, pw.position := 31 }), by decide⟩

theorem test_met_ExchangesAndTheirAnswers_3a : ∃ (bs : List Byte) (x : Exchange) (s : State),
    s.part.bl.tx = some (.frame bs true) ∧ s.part.bl.exch = some x ∧ s.part.bl.lineOrder = none ∧ ¬ WakeOverdue s :=
  ⟨[0xA5#8, 0#8, 0x5B#8], .query, (liveOn fun p => { p with bl.link := .active, bl.tx := some (.frame [0xA5#8, 0#8, 0x5B#8] true), bl.exch := some .query, bl.ovReply := some 10 }), by decide⟩

theorem test_met_ExchangesAndTheirAnswers_3b : ∃ (bs : List Byte) (x : Exchange) (s : State),
    s.part.bl.tx = some (.frame bs true) ∧ s.part.bl.exch = some x ∧ s.part.bl.lineOrder = none ∧ ¬ WakeOverdue s :=
  ⟨[0xA5#8], .mode .hibernate false, (liveOn fun p => { p with bl.link := .hibernate, bl.minHibTimer := some ⟨4950#32, 100⟩, bl.pendingWake := true, bl.tx := some (.frame [0xA5#8] true), bl.exch := some (.mode .hibernate false) }), by decide⟩

theorem test_met_ExchangesAndTheirAnswers_4a : ∃ (bs : List Byte) (s : State),
    s.part.bl.tx = some (.frame bs false) ∧ ¬ WakeOverdue s ∧ s.part.bl.lineOrder = none :=
  ⟨[0xA5#8], (liveOn fun p => { p with bl.tx := some (.frame [0xA5#8] false) }), by decide⟩

theorem test_met_ExchangesAndTheirAnswers_4b : ∃ (bs : List Byte) (s : State),
    s.part.bl.tx = some (.frame bs false) ∧ ¬ WakeOverdue s ∧ s.part.bl.lineOrder = none :=
  ⟨[0xA5#8], (liveOn fun p => { p with bl.link := .hibernate, bl.minHibTimer := some ⟨4950#32, 100⟩, bl.pendingWake := true, bl.tx := some (.frame [0xA5#8] false), bl.exch := some (.mode .hibernate false), bl.attempts := 1 }), by decide⟩

theorem test_met_ExchangesAndTheirAnswers_5 : ∃ (es : List KeyEvent) (bs : List Byte) (x : Exchange) (s : State),
    s.part.bl.link = .stall ∧ s.part.bl.target ≠ .hibernate ∧ 1 ≤ es.length ∧ es.length ≤ 6 ∧ s.part.bl.tx = some (.frame bs true) ∧ s.part.bl.exch = some x :=
  ⟨[⟨4#8, 0#8⟩], [0xA5#8], .mode .stall false, (liveOn fun p => { p with bl.link := .stall, bl.target := .stall, bl.tx := some (.frame [0xA5#8] true), bl.exch := some (.mode .stall false) }), by decide⟩

theorem test_met_ExchangesAndTheirAnswers_6a : ∃ (x : Exchange) (s : State),
    timerDue s.part.bl.replyTimer s.part.tb = true ∧ s.part.bl.attempts < s.part.sl.inForce.replyAttempts ∧ s.part.bl.exch = some x ∧ s.part.bl.tx = none ∧ s.part.bl.lineOrder = none ∧ ¬ WakeOverdue s :=
  ⟨.query, (liveOn fun p => { p with bl.link := .active, bl.exch := some .query, bl.attempts := 1, bl.replyTimer := some ⟨4980#32, 20⟩, bl.txSeq := 15#4 }), by decide⟩

theorem test_met_ExchangesAndTheirAnswers_6b : ∃ (x : Exchange) (s : State),
    timerDue s.part.bl.replyTimer s.part.tb = true ∧ s.part.bl.attempts < s.part.sl.inForce.replyAttempts ∧ s.part.bl.exch = some x ∧ s.part.bl.tx = none ∧ s.part.bl.lineOrder = none ∧ ¬ WakeOverdue s :=
  ⟨.mode .hibernate false, (liveOn fun p => { p with bl.link := .hibernate, bl.minHibTimer := some ⟨4950#32, 100⟩, bl.pendingWake := true, bl.exch := some (.mode .hibernate false), bl.attempts := 1, bl.replyTimer := some ⟨4980#32, 20⟩ }), by decide⟩

theorem test_met_ExchangesAndTheirAnswers_7 : ∃ (s : State),
    timerDue s.part.bl.replyTimer s.part.tb = true ∧ s.part.sl.inForce.replyAttempts ≤ s.part.bl.attempts :=
  ⟨(liveOn fun p => { p with bl.link := .active, bl.exch := some .query, bl.attempts := 2, bl.replyTimer := some ⟨4980#32, 20⟩, bl.noReply := 65535 }), by decide⟩

theorem test_met_ExchangesAndTheirAnswers_8 : ∃ (op : AttrOp) (r : Request) (ph : ReqPhase) (s : State),
    timerDue s.part.bl.replyTimer s.part.tb = true ∧ s.part.sl.inForce.replyAttempts ≤ s.part.bl.attempts ∧ s.part.bl.exch = some (.attr op) ∧ s.part.pw.inFlight = some .request ∧ s.part.pw.current = some (r, ph) :=
  ⟨⟨false, 7#12, 0#8⟩, (req 4#16 [2#16, 7#16]), .running, (liveOn fun p => { p with bl.link := .active, bl.exch := some (.attr ⟨false, 7#12, 0#8⟩), bl.attempts := 2, bl.replyTimer := some ⟨4980#32, 20⟩, pw.inFlight := some .request, pw.current := some ((req 4#16 [2#16, 7#16]), .running) }), by decide⟩

theorem test_met_ExchangesAndTheirAnswers_9 : ∃ (op : AttrOp) (s : State),
    (s.part.bl.link = .active ∨ s.part.bl.link = .stall) ∧ s.part.bl.target = .hibernate ∧ s.part.bl.exch = some (.attr op) ∧ 0 < s.part.bl.attempts ∧ s.part.bl.qQuery = false ∧ s.part.bl.qAttr = none ∧ s.part.pw.wakeAsked = false :=
  ⟨⟨true, 3#12, 9#8⟩, (liveOn fun p => { p with bl.link := .active, bl.target := .hibernate, bl.exch := some (.attr ⟨true, 3#12, 9#8⟩), bl.attempts := 1, pw.inFlight := some .walkEntry }), by decide⟩

theorem test_met_AttachTimers_1a : ∃ (s : State),
    timerDue s.part.bl.powerTimer s.part.tb = true :=
  ⟨(liveOn fun p => { p with bl.link := .powering, bl.powerTimer := some ⟨4995#32, 5⟩ }), by decide⟩

theorem test_met_AttachTimers_1b : ∃ (s : State),
    timerDue s.part.bl.powerTimer s.part.tb = true :=
  ⟨(liveOn fun p => { p with bl.link := .powering, bl.powerTimer := some ⟨4995#32, 5⟩, bl.tx := some (.frame [0xA5#8] false) }), by decide⟩

theorem test_met_AttachTimers_2 : ∃ (tm : Timer) (s : State),
    s.part.bl.tx = some (.lineReset tm true) ∧ tm.due s.part.tb = true ∧ s.part.bl.link = .resetting :=
  ⟨⟨4998#32, 2⟩, (liveOn fun p => { p with bl.link := .resetting, bl.tx := some (.lineReset ⟨4998#32, 2⟩ true) }), by decide⟩

theorem test_met_AttachTimers_3 : ∃ (s : State),
    timerDue s.part.bl.activateTimer s.part.tb = true ∧ s.part.bl.link = .activating ∧ s.part.bl.heldHello = none :=
  ⟨(liveOn fun p => { p with bl.link := .activating, bl.activateTimer := some ⟨4998#32, 2⟩ }), by decide⟩

theorem test_met_AttachTimers_4 : ∃ (h : Hello) (s : State),
    timerDue s.part.bl.activateTimer s.part.tb = true ∧ s.part.bl.link = .activating ∧ s.part.bl.heldHello = some h :=
  ⟨⟨3#4, 1#8, 1#8, 7#32⟩, (liveOn fun p => { p with bl.link := .activating, bl.activateTimer := some ⟨4998#32, 2⟩, bl.heldHello := some ⟨3#4, 1#8, 1#8, 7#32⟩ }), by decide⟩

theorem test_met_AttachTimers_5 : ∃ (s : State),
    timerDue s.part.bl.activateTimer s.part.tb = true ∧ s.part.bl.link = .waking :=
  ⟨(liveOn fun p => { p with bl.link := .waking, bl.activateTimer := some ⟨4998#32, 2⟩, bl.qMode := some .active }), by decide⟩

theorem test_met_AttachTimers_6 : ∃ (s : State),
    timerDue s.part.bl.helloTimer s.part.tb = true ∧ s.part.bl.helloAttempts < s.part.sl.inForce.helloAttempts :=
  ⟨(liveOn fun p => { p with bl.link := .identifying, bl.helloTimer := some ⟨4950#32, 50⟩, bl.helloAttempts := 2 }), by decide⟩

theorem test_met_AttachTimers_7 : ∃ (s : State),
    timerDue s.part.bl.helloTimer s.part.tb = true ∧ s.part.sl.inForce.helloAttempts ≤ s.part.bl.helloAttempts :=
  ⟨(liveOn fun p => { p with bl.link := .identifying, bl.helloTimer := some ⟨4950#32, 50⟩, bl.helloAttempts := 3 }), by decide⟩

theorem test_met_StallHibernateAndWake_1 : ∃ (s : State),
    timerDue s.part.bl.stallTimer s.part.tb = true ∧ s.part.bl.link = .active ∧ s.part.bl.target ≠ .hibernate ∧ s.part.bl.qQuery = false ∧ s.part.bl.qAttr = none :=
  ⟨(liveOn fun p => { p with bl.link := .active, bl.stallTimer := some ⟨4800#32, 200⟩ }), by decide⟩

theorem test_met_StallHibernateAndWake_2 : ∃ (s : State),
    timerDue s.part.bl.minHibTimer s.part.tb = true ∧ s.part.bl.link = .hibernate ∧ s.part.bl.pendingWake = true :=
  ⟨(liveOn fun p => { p with bl.link := .hibernate, bl.minHibTimer := some ⟨4900#32, 100⟩, bl.pendingWake := true }), by decide⟩

theorem test_met_StallHibernateAndWake_3 : ∃ (s : State),
    timerDue s.part.bl.minHibTimer s.part.tb = true ∧ s.part.bl.link = .hibernate ∧ s.part.bl.pendingWake = false :=
  ⟨(liveOn fun p => { p with bl.link := .hibernate, bl.minHibTimer := some ⟨4900#32, 100⟩ }), by decide⟩

theorem test_met_StallHibernateAndWake_4 : ∃ (s : State),
    s.part.bl.tx = some (.wakeBreak true) ∧ s.part.bl.link = .waking :=
  ⟨(liveOn fun p => { p with bl.link := .waking, bl.tx := some (.wakeBreak true) }), by decide⟩

theorem test_met_BaseRetryRequest_1 : ∃ (r : Request) (rs : List Request) (s : State),
    s.part.rq.bl = r :: rs ∧ r.kind = 5#16 ∧ (s.part.bl.link = .fault ∨ s.part.bl.link = .refused) :=
  ⟨(req 5#16 []), [], (liveOn fun p => { p with rq.bl := [(req 5#16 [])], bl.link := .fault, nu.faults := FaultName.linkFault.set }), by decide⟩

theorem test_met_BaseRetryRequest_2a : ∃ (r : Request) (rs : List Request) (s : State),
    s.part.rq.bl = r :: rs ∧ r.kind = 5#16 ∧ s.part.bl.link ≠ .fault ∧ s.part.bl.link ≠ .refused :=
  ⟨(req 5#16 []), [], (liveOn fun p => { p with rq.bl := [(req 5#16 [])] }), by decide⟩

theorem test_met_BaseRetryRequest_2b : ∃ (r : Request) (rs : List Request) (s : State),
    s.part.rq.bl = r :: rs ∧ r.kind = 5#16 ∧ s.part.bl.link ≠ .fault ∧ s.part.bl.link ≠ .refused :=
  ⟨(req 5#16 []), [], (liveOn fun p => { p with rq.bl := [(req 5#16 [])], bl.link := .active }), by decide⟩

theorem test_met_ProfileHeldOperations_1 : ∃ (s : State),
    s.part.pw.op = .snapshot ∧ s.part.resetWork = none ∧ MemoryInv s :=
  ⟨(liveOn fun p => { p with pw.op := .snapshot, pw.walk := .attach, bl.link := .profiling }), by decide⟩

theorem test_met_ProfileHeldOperations_2 : ∃ (e : WalkEnd) (s : State),
    s.part.pw.op = .resultWrite ∧ s.part.pw.ending = some e ∧ s.part.resetWork = none ∧ MemoryInv s ∧ s.part.pw.results.length = 32 :=
  ⟨.complete, (liveOn fun p => { p with pw.op := .resultWrite, pw.ending := some .complete, pw.walk := .attach, bl.link := .profiling }), by decide⟩

theorem test_met_ProfileHeldOperations_3a : ∃ (e : WalkEnd) (r : Request) (s : State),
    s.part.pw.op = .resultWrite ∧ s.part.pw.ending = some e ∧ s.part.resetWork = none ∧ s.part.pw.current = some (r, .running) ∧ r.kind = 6#16 :=
  ⟨.noReply, (req 6#16 []), (liveOn fun p => { p with pw.op := .resultWrite, pw.ending := some .noReply, pw.walk := .reload, bl.link := .active, pw.current := some ((req 6#16 []), .running) }), by decide⟩

theorem test_met_ProfileHeldOperations_3b : ∃ (e : WalkEnd) (r : Request) (s : State),
    s.part.pw.op = .resultWrite ∧ s.part.pw.ending = some e ∧ s.part.resetWork = none ∧ s.part.pw.current = some (r, .running) ∧ r.kind = 6#16 :=
  ⟨.complete, (req 6#16 []), (liveOn fun p => { p with pw.op := .resultWrite, pw.ending := some .complete, pw.walk := .reload, bl.link := .active, pw.current := some ((req 6#16 []), .running) }), by decide⟩

theorem test_met_ProfileHeldOperations_4a : ∃ (e : WalkEnd) (s : State),
    s.part.pw.op = .snapshot ∧ s.part.pw.ending = some e ∧ s.part.resetWork = none ∧ s.part.pw.walk ≠ .none :=
  ⟨.notAttached, (liveOn fun p => { p with pw.op := .snapshot, pw.ending := some .notAttached, pw.walk := .attach }), by decide⟩

theorem test_met_ProfileHeldOperations_4b : ∃ (e : WalkEnd) (s : State),
    s.part.pw.op = .snapshot ∧ s.part.pw.ending = some e ∧ s.part.resetWork = none ∧ s.part.pw.walk ≠ .none :=
  ⟨.superseded, (liveOn fun p => { p with pw.op := .snapshot, pw.ending := some .superseded, pw.walk := .reload, pw.waiting := [none] }), by decide⟩

theorem test_met_ProfileHeldOperations_5 : ∃ (e : WalkEnd) (o : Option WalkEnd) (os : List (Option WalkEnd)) (s : State),
    s.part.pw.op = .resultWrite ∧ s.part.pw.ending = some e ∧ s.part.resetWork = none ∧ s.part.pw.waiting = o :: os :=
  ⟨.complete, some .notAttached, [none], (liveOn fun p => { p with pw.op := .resultWrite, pw.ending := some .complete, pw.walk := .attach, pw.waiting := [some .notAttached, none] }), by decide⟩

theorem test_met_ProfileHeldOperations_6 : ∃ (os : List (Option WalkEnd)) (s : State),
    s.part.pw.op ≠ .idle ∧ s.part.pw.waiting = os ++ [none] ∧ timerDue s.part.inp.bpres.timer s.part.tb = true ∧ filteredActive s.part.sl.inForce .bpres s.part.inp.bpres.level = false ∧ s.part.bl.link ≠ .detached :=
  ⟨[], (liveOn fun p => { p with pw.op := .resultWrite, pw.walk := .attach, pw.waiting := [none], inp.bpres := ⟨true, true, some ⟨4900#32, 100⟩⟩, bl.link := .profiling }), by decide⟩

theorem test_met_ProfileRequests_1a : ∃ (r : Request) (rs : List Request) (s : State),
    s.part.pw.current = none ∧ s.part.rq.pw = r :: rs ∧ r.kind = 4#16 ∧ (¬ ((r.arg 0 = 1 ∨ r.arg 0 = 2) ∧ r.arg 1 ≤ 4095 ∧ r.arg 2 ≤ 255)) :=
  ⟨(req 4#16 [1#16, 4096#16, 0#16]), [], (liveOn fun p => { p with rq.pw := [(req 4#16 [1#16, 4096#16, 0#16])] }), by decide⟩

theorem test_met_ProfileRequests_1b : ∃ (r : Request) (rs : List Request) (s : State),
    s.part.pw.current = none ∧ s.part.rq.pw = r :: rs ∧ r.kind = 4#16 ∧ (¬ ((r.arg 0 = 1 ∨ r.arg 0 = 2) ∧ r.arg 1 ≤ 4095 ∧ r.arg 2 ≤ 255)) :=
  ⟨(req 4#16 [3#16, 0#16, 0#16]), [], (liveOn fun p => { p with rq.pw := [(req 4#16 [3#16, 0#16, 0#16])] }), by decide⟩

theorem test_met_ProfileRequests_2 : ∃ (r : Request) (rs : List Request) (s : State),
    s.part.pw.current = none ∧ s.part.rq.pw = r :: rs ∧ r.kind = 4#16 ∧ ((r.arg 0 = 1 ∨ r.arg 0 = 2)) ∧ r.arg 1 ≤ 4095 ∧ r.arg 2 ≤ 255 ∧ s.part.bl.link ∈ [.detached, .refused, .fault] :=
  ⟨(req 4#16 [1#16, 4095#16, 255#16]), [], (liveOn fun p => { p with rq.pw := [(req 4#16 [1#16, 4095#16, 255#16])] }), by decide⟩

theorem test_met_ProfileRequests_3 : ∃ (r : Request) (rs : List Request) (s : State),
    s.part.pw.current = none ∧ s.part.rq.pw = r :: rs ∧ r.kind = 4#16 ∧ ((r.arg 0 = 1 ∨ r.arg 0 = 2)) ∧ r.arg 1 ≤ 4095 ∧ r.arg 2 ≤ 255 ∧ (s.part.bl.link = .active ∨ s.part.bl.link = .stall) ∧ s.part.pw.walk = .none :=
  ⟨(req 4#16 [2#16, 4095#16, 255#16]), [], (liveOn fun p => { p with rq.pw := [(req 4#16 [2#16, 4095#16, 255#16])], bl.link := .stall }), by decide⟩

theorem test_met_ProfileRequests_4a : ∃ (r : Request) (rs : List Request) (s : State),
    s.part.pw.current = none ∧ s.part.rq.pw = r :: rs ∧ r.kind = 4#16 ∧ ((r.arg 0 = 1 ∨ r.arg 0 = 2)) ∧ r.arg 1 ≤ 4095 ∧ r.arg 2 ≤ 255 ∧ s.part.bl.link ∉ [.detached, .refused, .fault] ∧ (¬ ((s.part.bl.link = .active ∨ s.part.bl.link = .stall) ∧ s.part.pw.walk = .none)) :=
  ⟨(req 4#16 [1#16, 0#16, 0#16]), [], (liveOn fun p => { p with rq.pw := [(req 4#16 [1#16, 0#16, 0#16])], bl.link := .hibernate }), by decide⟩

theorem test_met_ProfileRequests_4b : ∃ (r : Request) (rs : List Request) (s : State),
    s.part.pw.current = none ∧ s.part.rq.pw = r :: rs ∧ r.kind = 4#16 ∧ ((r.arg 0 = 1 ∨ r.arg 0 = 2)) ∧ r.arg 1 ≤ 4095 ∧ r.arg 2 ≤ 255 ∧ s.part.bl.link ∉ [.detached, .refused, .fault] ∧ (¬ ((s.part.bl.link = .active ∨ s.part.bl.link = .stall) ∧ s.part.pw.walk = .none)) :=
  ⟨(req 4#16 [1#16, 0#16, 0#16]), [], (liveOn fun p => { p with rq.pw := [(req 4#16 [1#16, 0#16, 0#16])], bl.link := .active, pw.walk := .reload }), by decide⟩

theorem test_met_ProfileRequests_5a : ∃ (r : Request) (rs : List Request) (s : State),
    s.part.pw.current = none ∧ s.part.rq.pw = r :: rs ∧ r.kind = 6#16 :=
  ⟨(req 6#16 []), [], (liveOn fun p => { p with rq.pw := [(req 6#16 [])], bl.link := .active }), by decide⟩

theorem test_met_ProfileRequests_5b : ∃ (r : Request) (rs : List Request) (s : State),
    s.part.pw.current = none ∧ s.part.rq.pw = r :: rs ∧ r.kind = 6#16 :=
  ⟨(req 6#16 []), [], (liveOn fun p => { p with rq.pw := [(req 6#16 [])] }), by decide⟩

theorem test_met_WindowsBeginAndAdvance_1a : ∃ (s : State),
    s.part.cc.session = .settling ∧ timerDue s.part.cc.stateTimer s.part.tb = true :=
  ⟨(liveOn fun p => { p with cc.session := .settling, cc.stateTimer := some ⟨4800#32, 200⟩ }), by decide⟩

theorem test_met_WindowsBeginAndAdvance_1b : ∃ (s : State),
    s.part.cc.session = .settling ∧ timerDue s.part.cc.stateTimer s.part.tb = true :=
  ⟨(liveOn fun p => { p with cc.session := .settling, cc.stateTimer := some ⟨4800#32, 200⟩, cc.guard := some 4999#32 }), by decide⟩

theorem test_met_WindowsBeginAndAdvance_2 : ∃ (s : State),
    s.part.cc.session = .precharge ∧ timerDue s.part.cc.stateTimer s.part.tb = true :=
  ⟨(liveOn fun p => { p with cc.session := .precharge, cc.stateTimer := some ⟨4900#32, 100⟩, cc.setpoint := 20 }), by decide⟩

theorem test_met_WindowsBeginAndAdvance_3 : ∃ (s : State),
    s.part.cc.session = .cooldown ∧ timerDue s.part.cc.stateTimer s.part.tb = true :=
  ⟨(liveOn fun p => { p with cc.session := .cooldown, cc.stateTimer := some ⟨0#32, 5000⟩, cc.history := some ⟨0#32, 60000⟩, nu.faults := FaultName.penCooldown.set }), by decide⟩

theorem test_met_WindowsBeginAndAdvance_4a : ∃ (s : State),
    timerDue s.part.cc.windowTimer s.part.tb = true :=
  ⟨(liveOn fun p => { p with cc.session := .charging, cc.windowTimer := some ⟨4500#32, 500⟩, cc.setpoint := 300 }), by decide⟩

theorem test_met_WindowsBeginAndAdvance_4b : ∃ (s : State),
    timerDue s.part.cc.windowTimer s.part.tb = true :=
  ⟨(liveOn fun p => { p with cc.session := .waking, cc.wakingWindows := 2, cc.windowTimer := some ⟨4950#32, 50⟩ }), by decide⟩

theorem test_met_WindowsBeginAndAdvance_6a : ∃ (bitTime : Nat) (s : State),
    s.part.pn.phase = .sync ∧ 4427 ≤ 10 * bitTime ∧ 10 * bitTime ≤ 5990 :=
  ⟨443, (liveOn fun p => { p with cc.session := .charging, pn.phase := .sync }), by decide⟩

theorem test_met_WindowsBeginAndAdvance_6b : ∃ (bitTime : Nat) (s : State),
    s.part.pn.phase = .sync ∧ 4427 ≤ 10 * bitTime ∧ 10 * bitTime ≤ 5990 :=
  ⟨599, (liveOn fun p => { p with cc.session := .charging, pn.phase := .sync }), by decide⟩

theorem test_met_FailedWindows_2a : ∃ (bitTime : Nat) (char : Byte) (stopHigh : Bool) (s : State),
    s.part.pn.phase = .sync ∧ (10 * bitTime < 4427 ∨ 5990 < 10 * bitTime ∨ char ≠ 0x55#8 ∨ stopHigh = false) :=
  ⟨442, 0x55#8, true, (liveOn fun p => { p with cc.session := .waking, cc.wakingWindows := 1, pn.phase := .sync }), by decide⟩

theorem test_met_FailedWindows_2b : ∃ (bitTime : Nat) (char : Byte) (stopHigh : Bool) (s : State),
    s.part.pn.phase = .sync ∧ (10 * bitTime < 4427 ∨ 5990 < 10 * bitTime ∨ char ≠ 0x55#8 ∨ stopHigh = false) :=
  ⟨600, 0x55#8, true, (liveOn fun p => { p with cc.session := .charging, pn.failures := 2, pn.phase := .sync }), by decide⟩

theorem test_met_FailedWindows_3 : ∃ (framing : Bool) (penId : BitVec 32) (battery : Word) (temp : Byte) (soc : Byte) (asked : Word) (flags : Byte) (check : Byte) (s : State),
    s.part.pn.phase = .report ∧ (framing = true ∨ reportSum penId battery temp soc asked flags check ≠ 0#8) :=
  ⟨true, 7#32, 0#16, 0#8, 0#8, 0#16, 0#8, 0#8, (liveOn fun p => { p with cc.session := .waking, cc.wakingWindows := 3, cc.prechargeRounds := 2, pn.phase := .report }), by decide⟩

theorem test_met_ReportAccepted_1 : ∃ (penId : BitVec 32) (battery : Word) (temp : Byte) (soc : Byte) (asked : Word) (flags : Byte) (check : Byte) (s : State),
    s.part.pn.phase = .report ∧ reportSum penId battery temp soc asked flags check = 0#8 :=
  ⟨7#32, 3700#16, 0x19#8, 101#8, 1001#16, 0#8, 13#8, (liveOn fun p => { p with cc.session := .waking, cc.wakingWindows := 1, pn.phase := .report }), by decide⟩

theorem test_met_GrantSent_1a : ∃ (st : Session) (s : State),
    s.part.pn.phase = .grant ∧ s.part.pn.outcome = some (.session st) :=
  ⟨.charging, (liveOn fun p => { p with cc.session := .waking, pn.phase := .grant, pn.outcome := some (.session .charging), pn.granted := 300 }), by decide⟩

theorem test_met_GrantSent_1b : ∃ (st : Session) (s : State),
    s.part.pn.phase = .grant ∧ s.part.pn.outcome = some (.session st) :=
  ⟨.topped, (liveOn fun p => { p with cc.session := .charging, pn.phase := .grant, pn.outcome := some (.session .topped) }), by decide⟩

theorem test_met_GrantSent_2 : ∃ (s : State),
    s.part.pn.phase = .grant ∧ s.part.pn.outcome = some .penFault :=
  ⟨(liveOn fun p => { p with cc.session := .charging, pn.phase := .grant, pn.outcome := some .penFault }), by decide⟩

theorem test_met_ChargeFaults_1a : ∃ (m : BitVec 10) (s : State),
    talkUse s.part.pn.phase = false ∧ s.part.cc.session ≠ .absent ∧ s.part.cc.setpoint + 50 < m.toNat :=
  ⟨351#10, (liveOn fun p => { p with cc.session := .charging, cc.setpoint := 300 }), by decide⟩

theorem test_met_ChargeFaults_1b : ∃ (m : BitVec 10) (s : State),
    talkUse s.part.pn.phase = false ∧ s.part.cc.session ≠ .absent ∧ s.part.cc.setpoint + 50 < m.toNat :=
  ⟨51#10, (liveOn fun p => { p with cc.session := .lockout }), by decide⟩

theorem test_met_ChargeFaults_2 : ∃ (s : State),
    timerDue s.part.cc.history s.part.tb = true :=
  ⟨(liveOn fun p => { p with cc.history := some ⟨BitVec.ofInt 32 (-55000), 60000⟩ }), by decide⟩

theorem test_met_PenControlRequests_1a : ∃ (r : Request) (rs : List Request) (s : State),
    s.part.rq.cc = r :: rs ∧ r.kind = 7#16 ∧ r.arg 0 = 1 :=
  ⟨(req 7#16 [1#16]), [], (liveOn fun p => { p with rq.cc := [(req 7#16 [1#16])], cc.session := .charging, cc.setpoint := 100 }), by decide⟩

theorem test_met_PenControlRequests_1b : ∃ (r : Request) (rs : List Request) (s : State),
    s.part.rq.cc = r :: rs ∧ r.kind = 7#16 ∧ r.arg 0 = 1 :=
  ⟨(req 7#16 [1#16]), [], (liveOn fun p => { p with rq.cc := [(req 7#16 [1#16])] }), by decide⟩

theorem test_met_PenControlRequests_2a : ∃ (r : Request) (rs : List Request) (s : State),
    s.part.rq.cc = r :: rs ∧ r.kind = 7#16 ∧ r.arg 0 = 2 :=
  ⟨(req 7#16 [2#16]), [], (liveOn fun p => { p with rq.cc := [(req 7#16 [2#16])], cc.session := .silent, nu.faults := FaultName.penSilent.set }), by decide⟩

theorem test_met_PenControlRequests_2b : ∃ (r : Request) (rs : List Request) (s : State),
    s.part.rq.cc = r :: rs ∧ r.kind = 7#16 ∧ r.arg 0 = 2 :=
  ⟨(req 7#16 [2#16]), [], (liveOn fun p => { p with rq.cc := [(req 7#16 [2#16])], cc.session := .paused, cc.causes := ⟨false, false, true⟩ }), by decide⟩

theorem test_met_PenControlRequests_3 : ∃ (r : Request) (rs : List Request) (s : State),
    s.part.rq.cc = r :: rs ∧ r.kind = 7#16 ∧ r.arg 0 = 3 :=
  ⟨(req 7#16 [3#16]), [], (liveOn fun p => { p with rq.cc := [(req 7#16 [3#16])], cc.session := .lockout, nu.faults := FaultName.penLockout.set }), by decide⟩

theorem test_met_PenControlRequests_4a : ∃ (r : Request) (rs : List Request) (s : State),
    s.part.rq.cc = r :: rs ∧ r.kind = 7#16 ∧ (r.arg 0 = 0 ∨ 3 < r.arg 0) :=
  ⟨(req 7#16 [4#16]), [], (liveOn fun p => { p with rq.cc := [(req 7#16 [4#16])], cc.session := .charging }), by decide⟩

theorem test_met_PenControlRequests_4b : ∃ (r : Request) (rs : List Request) (s : State),
    s.part.rq.cc = r :: rs ∧ r.kind = 7#16 ∧ (r.arg 0 = 0 ∨ 3 < r.arg 0) :=
  ⟨(req 7#16 [0#16]), [], (liveOn fun p => { p with rq.cc := [(req 7#16 [0#16])] }), by decide⟩

theorem test_met_SetHostState_1a : ∃ (r : Request) (rs : List Request) (s : State),
    s.part.rq.sa = r :: rs ∧ r.kind = 3#16 ∧ (hostStateOf (r.arg 0) = none ∨ hostStateOf (r.arg 0) = some s.part.sa.hostState) :=
  ⟨(req 3#16 [0#16]), [], (liveOn fun p => { p with rq.sa := [(req 3#16 [0#16])] }), by decide⟩

theorem test_met_SetHostState_1b : ∃ (r : Request) (rs : List Request) (s : State),
    s.part.rq.sa = r :: rs ∧ r.kind = 3#16 ∧ (hostStateOf (r.arg 0) = none ∨ hostStateOf (r.arg 0) = some s.part.sa.hostState) :=
  ⟨(req 3#16 [1#16]), [], (liveOn fun p => { p with rq.sa := [(req 3#16 [1#16])] }), by decide⟩

theorem test_met_SetHostState_2a : ∃ (r : Request) (rs : List Request) (h : HostState) (s : State),
    s.part.rq.sa = r :: rs ∧ r.kind = 3#16 ∧ hostStateOf (r.arg 0) = some h ∧ h ≠ s.part.sa.hostState :=
  ⟨(req 3#16 [3#16]), [], .off, (liveOn fun p => { p with rq.sa := [(req 3#16 [3#16])] }), by decide⟩

theorem test_met_SetHostState_2b : ∃ (r : Request) (rs : List Request) (h : HostState) (s : State),
    s.part.rq.sa = r :: rs ∧ r.kind = 3#16 ∧ hostStateOf (r.arg 0) = some h ∧ h ≠ s.part.sa.hostState :=
  ⟨(req 3#16 [1#16]), [], .running, (liveOn fun p => { p with rq.sa := [(req 3#16 [1#16])], sa.hostState := .sleeping, sa.advisor := .watching, nu.hostState := .sleeping }), by decide⟩

theorem test_met_SetHostState_3a : ∃ (r : Request) (rs : List Request) (h : HostState) (s : State),
    s.part.rq.sa = r :: rs ∧ r.kind = 3#16 ∧ hostStateOf (r.arg 0) = some h ∧ h ≠ s.part.sa.hostState ∧ (h = .off ∨ (h = .sleeping ∧ s.part.sa.posture = .closed)) ∧ (s.part.bl.link = .active ∨ s.part.bl.link = .stall) ∧ s.part.bl.attrOrQuery = false :=
  ⟨(req 3#16 [3#16]), [], .off, (liveOn fun p => { p with rq.sa := [(req 3#16 [3#16])], bl.link := .stall }), by decide⟩

theorem test_met_SetHostState_3b : ∃ (r : Request) (rs : List Request) (h : HostState) (s : State),
    s.part.rq.sa = r :: rs ∧ r.kind = 3#16 ∧ hostStateOf (r.arg 0) = some h ∧ h ≠ s.part.sa.hostState ∧ (h = .off ∨ (h = .sleeping ∧ s.part.sa.posture = .closed)) ∧ (s.part.bl.link = .active ∨ s.part.bl.link = .stall) ∧ s.part.bl.attrOrQuery = false :=
  ⟨(req 3#16 [2#16]), [], .sleeping, (liveOn fun p => { p with rq.sa := [(req 3#16 [2#16])], bl.link := .active, sa.posture := .closed }), by decide⟩

theorem test_met_SetHostState_5 : ∃ (n : Nat),
    3 < n :=
  ⟨4, by decide⟩

theorem test_met_AdvisorTimers_1 : ∃ (s : State),
    timerDue s.part.sa.inactivity s.part.tb = true :=
  ⟨(liveOn fun p => { p with sa.inactivity := some ⟨BitVec.ofInt 32 (-55000), 60000⟩ }), by decide⟩

theorem test_met_AdvisorTimers_2 : ∃ (s : State),
    timerDue s.part.sa.grace s.part.tb = true :=
  ⟨(liveOn fun p => { p with sa.grace := some ⟨3000#32, 2000⟩, sa.advisor := .closePending }), by decide⟩

theorem test_met_AdvisorTimers_3 : ∃ (q : Rotation) (s : State),
    timerDue s.part.ot.dwell s.part.tb = true ∧ s.part.ot.candidate = some q ∧ s.part.sa.hostState = .running ∧ ¬ WakeOverdue s :=
  ⟨.rot90, (liveOn fun p => { p with ot.dwell := some ⟨4500#32, 500⟩, ot.candidate := some .rot90, sa.advisor := .idle }), by decide⟩

theorem test_met_AdvisorTimers_4a : ∃ (s : State),
    timerDue s.part.inp.penh.timer s.part.tb = true ∧ ¬ WakeOverdue s :=
  ⟨(liveOn fun p => { p with inp.penh := ⟨true, true, some ⟨4900#32, 100⟩⟩, sa.advisor := .idle }), by decide⟩

theorem test_met_AdvisorTimers_4b : ∃ (s : State),
    timerDue s.part.inp.penh.timer s.part.tb = true ∧ ¬ WakeOverdue s :=
  ⟨(liveOn fun p => { p with inp.penh := ⟨true, true, some ⟨4900#32, 100⟩⟩, sa.advisor := .watching, sa.hostState := .sleeping }), by decide⟩

theorem test_met_AdvisorTimers_5a : ∃ (s : State),
    timerDue s.part.inp.bpres.timer s.part.tb = true ∧ PostureInv s.part ∧ filteredActive s.part.sl.inForce .bpres s.part.inp.bpres.level = true ∧ s.part.bl.link = .detached :=
  ⟨(liveOn fun p => { p with inp.bpres := ⟨false, false, some ⟨4900#32, 100⟩⟩ }), by decide⟩

theorem test_met_AdvisorTimers_5b : ∃ (s : State),
    timerDue s.part.inp.bpres.timer s.part.tb = true ∧ PostureInv s.part ∧ filteredActive s.part.sl.inForce .bpres s.part.inp.bpres.level = true ∧ s.part.bl.link = .detached :=
  ⟨(liveOn fun p => { p with inp.bpres := ⟨false, false, some ⟨4900#32, 100⟩⟩, sa.advisor := .watching, sa.hostState := .off }), by decide⟩

theorem test_met_AdvisorTimers_6 : ∃ (s : State),
    timerDue s.part.inp.bpres.timer s.part.tb = true ∧ filteredActive s.part.sl.inForce .bpres s.part.inp.bpres.level = false ∧ s.part.bl.link ≠ .detached ∧ ¬ WakeOverdue s :=
  ⟨(liveOn fun p => { p with inp.bpres := ⟨true, true, some ⟨4900#32, 100⟩⟩, bl.link := .active }), by decide⟩

theorem test_met_AdvisorTimers_7 : ∃ (s : State),
    timerDue s.part.inp.lidh.timer s.part.tb = true ∧ s.part.bl.link.attached = true ∧ ¬ WakeOverdue s ∧ s.part.sa.hostState ≠ .running ∧ s.part.sa.advisor = .watching :=
  ⟨(liveOn fun p => { p with inp.lidh := ⟨true, true, some ⟨4900#32, 100⟩⟩, bl.link := .hibernate, sa.posture := .closed, sa.advisor := .watching, sa.hostState := .sleeping }), by decide⟩

theorem test_met_AdvisorTimers_8a : ∃ (code : Byte) (flags : Byte) (s : State),
    s.part.bl.link = .active ∧ s.part.bl.target ≠ .hibernate ∧ flags.getLsbD 0 = false ∧ 0 < code.toNat ∧ code.toNat < 128 ∧ code.toNat ∉ s.part.kt.held ∧ s.part.kt.held.length < 16 ∧ s.part.kt.suppression = false ∧ s.part.kt.queue.length < 16 :=
  ⟨127#8, 0xFE#8, (liveOn fun p => { p with bl.link := .active, kt.held := (List.range 15).map (· + 20), kt.queue := List.replicate 15 ⟨3, false, false, 0#16⟩ }), by decide⟩

theorem test_met_AdvisorTimers_8b : ∃ (code : Byte) (flags : Byte) (s : State),
    s.part.bl.link = .active ∧ s.part.bl.target ≠ .hibernate ∧ flags.getLsbD 0 = false ∧ 0 < code.toNat ∧ code.toNat < 128 ∧ code.toNat ∉ s.part.kt.held ∧ s.part.kt.held.length < 16 ∧ s.part.kt.suppression = false ∧ s.part.kt.queue.length < 16 :=
  ⟨1#8, 0#8, (liveOn fun p => { p with bl.link := .active, sa.advisor := .watching, sa.hostState := .sleeping }), by decide⟩

theorem test_met_AdvisorTimers_9 : ∃ (due : Time) (v : Int × Int × Int) (before : Int × Int × Int) (a : SampleTry) (r : SampleTry) (s : State),
    s.part.sp.flight = .sample due ∧ sampleReading a r = some v ∧ PostureInv s.part ∧ s.part.sa.previous = some before ∧ s.part.sp.fresh = false ∧ ¬ WakeOverdue s :=
  ⟨5000#32, (0, 0, 4096), (0, 0, 3999), ⟨0x5C#8, true, 0#16, 0#16, 4096#16⟩, ⟨0x5C#8, false, 0#16, 0#16, 4096#16⟩, (liveOn fun p => { p with sp.flight := .sample 5000#32, sp.fresh := false, sa.previous := some (0, 0, 3999) }), by decide⟩

theorem test_met_PublicationsAndWake_1 : ∃ (c : NoticeClass) (ws : List Word) (s : State),
    (s.part.nu.classes.get c).publishing = some ws ∧ s.part.nu.writing.head? = some c ∧ ws.length = 48 ∧ MemoryInv s :=
  ⟨.advice, List.replicate 48 9#16, (liveOn fun p => { p with nu.classes.advice.publishing := some (List.replicate 48 9#16), nu.writing := [.advice, .fault], nu.hostState := .sleeping, sa.hostState := .sleeping }), by decide⟩

theorem test_met_PublicationsAndWake_2 : ∃ (c : NoticeClass) (s : State),
    s.part.nu.writing.head? ≠ some c :=
  ⟨.pen, (liveOn fun p => { p with nu.writing := [.advice, .pen] }), by decide⟩

theorem test_met_PublicationsAndWake_3 : ∃ (start : Time) (s : State),
    s.part.nu.wake = some start ∧ 1 ≤ (s.part.tb - start).toNat :=
  ⟨4999#32, (liveOn fun p => { p with nu.wake := some 4999#32 }), by decide⟩

theorem test_met_PublicationsAndWake_4a : ∃ (s : State),
    timerDue s.part.nu.wakeTimer s.part.tb = true :=
  ⟨(liveOn fun p => { p with nu.wakeTimer := some ⟨4000#32, 1000⟩, nu.hostState := .off, nu.classes.fault.state := .pending }), by decide⟩

theorem test_met_PublicationsAndWake_4b : ∃ (s : State),
    timerDue s.part.nu.wakeTimer s.part.tb = true :=
  ⟨(liveOn fun p => { p with nu.wakeTimer := some ⟨4000#32, 1000⟩ }), by decide⟩

theorem test_met_AcknowledgeClaimsTheMostUrgentClass_1 : ∃ (c : NoticeClass) (s : State),
    portFree s.part = true ∧ readOutcome (s.on (openTrans .read 3)) 3 = .ok ∧ Claimable s c ∧ (∀ d ∈ allClasses, Claimable s d → d ≠ c → (s.part.sl.inForce.classes.get c).priority < (s.part.sl.inForce.classes.get d).priority ∨ ((s.part.sl.inForce.classes.get c).priority = (s.part.sl.inForce.classes.get d).priority ∧ classNumber c < classNumber d)) :=
  ⟨.pen, (liveOn fun p => { p with nu.classes.pen.state := .pending, nu.classes.request.state := .pending, nu.classes.charge.state := .pending }), by decide⟩

theorem test_met_AcknowledgeClaimsTheMostUrgentClass_2 : ∃ (s : State),
    portFree s.part = true ∧ readOutcome (s.on (openTrans .read 3)) 3 = .ok ∧ (∀ d ∈ allClasses, ¬ Claimable s d) :=
  ⟨(liveOn fun p => { p with nu.classes.fault.publishing := some (List.replicate 48 0#16), nu.writing := [.fault] }), by decide⟩

theorem test_met_TakeAndEndService_1 : ∃ (v : Word) (c : NoticeClass) (s : State),
    portFree s.part = true ∧ writeOutcome (s.on (openTrans .write 4)) 4 v = .ok ∧ classOfWord v = some c ∧ (s.part.nu.classes.get c).state = .pending :=
  ⟨8#16, .request, (liveOn fun p => { p with nu.classes.request.state := .pending }), by decide⟩

theorem test_met_TakeAndEndService_2 : ∃ (v : Word) (s : State),
    portFree s.part = true ∧ writeOutcome (s.on (openTrans .write 4)) 4 v = .ok ∧ (∀ c ∈ allClasses, classOfWord v = some c → (s.part.nu.classes.get c).state ≠ .pending) :=
  ⟨9#16, (liveOn fun p => { p with nu.classes.request.state := .pending }), by decide⟩

theorem test_met_TakeAndEndService_3a : ∃ (v : Word) (c : NoticeClass) (s : State),
    portFree s.part = true ∧ writeOutcome (s.on (openTrans .write 5)) 5 v = .ok ∧ classOfWord v = some c ∧ (s.part.nu.classes.get c).state = .inService ∧ (∀ h ∈ (s.part.nu.classes.get c).shadow, h.cls = c) :=
  ⟨3#16, .keys, (liveOn fun p => { p with nu.classes.keys.state := .inService, kt.queue := [⟨5, true, false, 0#16⟩] }), by decide⟩

theorem test_met_TakeAndEndService_3b : ∃ (v : Word) (c : NoticeClass) (s : State),
    portFree s.part = true ∧ writeOutcome (s.on (openTrans .write 5)) 5 v = .ok ∧ classOfWord v = some c ∧ (s.part.nu.classes.get c).state = .inService ∧ (∀ h ∈ (s.part.nu.classes.get c).shadow, h.cls = c) :=
  ⟨0#16, .advice, (liveOn fun p => { p with nu.classes.advice.state := .inService }), by decide⟩

theorem test_met_TakeAndEndService_3c : ∃ (v : Word) (c : NoticeClass) (s : State),
    portFree s.part = true ∧ writeOutcome (s.on (openTrans .write 5)) 5 v = .ok ∧ classOfWord v = some c ∧ (s.part.nu.classes.get c).state = .inService ∧ (∀ h ∈ (s.part.nu.classes.get c).shadow, h.cls = c) :=
  ⟨8#16, .request, (liveOn fun p => { p with nu.classes.request.state := .inService, nu.classes.request.shadow := some (.request 5#8), nu.classes.request.coalesce := 1 }), by decide⟩

theorem test_met_TakeAndEndService_4 : ∃ (v : Word) (s : State),
    portFree s.part = true ∧ writeOutcome (s.on (openTrans .write 5)) 5 v = .ok ∧ (∀ c ∈ allClasses, classOfWord v = some c → (s.part.nu.classes.get c).state ≠ .inService) :=
  ⟨0x103#16, (liveOn fun p => { p with nu.classes.keys.state := .inService }), by decide⟩

theorem test_met_AttentionAcceptsAndRoutes_1 : ∃ (n : Nat) (s : State),
    n < 8 ∧ portFree s.part = true ∧ writeOutcome (s.on (openTrans .write 2)) 2 (1#16 <<< n) = .ok ∧ s.part.rq.attention = 0#8 ∧ s.xm.read (slotBase n) = slotPosted :=
  ⟨7, (withXm [(0x1E0, 1#16)] live), by decide⟩

theorem test_met_AttentionAcceptsAndRoutes_2 : ∃ (n : Nat) (s : State),
    n < 8 ∧ portFree s.part = true ∧ writeOutcome (s.on (openTrans .write 2)) 2 (1#16 <<< n) = .ok ∧ s.part.rq.attention = 0#8 ∧ s.xm.read (slotBase n) ≠ slotPosted :=
  ⟨0, (liveOn fun p => { p with rq.badAttention := 65535 }), by decide⟩

theorem test_met_HostWordAccesses_1a : ∃ (a : Word) (s : State),
    portFree s.part = true ∧ a ≠ 3#16 :=
  ⟨0x7FF#16, live, by decide⟩

theorem test_met_HostWordAccesses_1b : ∃ (a : Word) (s : State),
    portFree s.part = true ∧ a ≠ 3#16 :=
  ⟨0x800#16, live, by decide⟩

theorem test_met_HostWordAccesses_2 : ∃ (s : State),
    portFree s.part = true :=
  ⟨live, by decide⟩

theorem test_met_HostWordAccesses_3a : ∃ (a : Word) (w : Word) (s : State),
    portFree s.part = true ∧ a.toNat ∉ [2, 4, 5] ∧ MemoryInv s ∧ writeOutcome (s.on (openTrans .write a.toNat)) a.toNat w = .ok :=
  ⟨0x20#16, 5#16, live, by decide⟩

theorem test_met_HostWordAccesses_3b : ∃ (a : Word) (w : Word) (s : State),
    portFree s.part = true ∧ a.toNat ∉ [2, 4, 5] ∧ MemoryInv s ∧ writeOutcome (s.on (openTrans .write a.toNat)) a.toNat w = .ok :=
  ⟨0x100#16, 1#16, live, by decide⟩

theorem test_met_HostWordAccesses_4a : ∃ (a : Word) (w : Word) (s : State),
    portFree s.part = true ∧ writeOutcome (s.on (openTrans .write a.toNat)) a.toNat w ≠ .ok :=
  ⟨0x100#16, 2#16, live, by decide⟩

theorem test_met_HostWordAccesses_4b : ∃ (a : Word) (w : Word) (s : State),
    portFree s.part = true ∧ writeOutcome (s.on (openTrans .write a.toNat)) a.toNat w ≠ .ok :=
  ⟨0x200#16, 0#16, live, by decide⟩

theorem test_met_HostWordAccesses_4c : ∃ (a : Word) (w : Word) (s : State),
    portFree s.part = true ∧ writeOutcome (s.on (openTrans .write a.toNat)) a.toNat w ≠ .ok :=
  ⟨0x800#16, 0#16, live, by decide⟩

theorem test_met_HostWordAccesses_5 : ∃ (s : State),
    portFree s.part = true :=
  ⟨live, by decide⟩

theorem test_met_HostWordAccesses_6 : ∃ (a : Word) (s : State),
    portFree s.part = true ∧ a.toNat ∉ [2, 4, 5] ∧ MemoryInv s :=
  ⟨0x460#16, live, by decide⟩

theorem test_met_HostWordAccesses_7 : ∃ (s : State),
    portFree s.part = true :=
  ⟨live, by decide⟩

theorem test_met_HostWordAccesses_8a : ∃ (a : Word) (expected : Word) (w : Word) (s : State),
    portFree s.part = true ∧ a ∈ [2#16, 4#16, 5#16] ∧ writeOutcome (s.on (openUpdate expected a.toNat)) a.toNat w = .ok ∧ writeOutcome (s.on (openTrans .write a.toNat)) a.toNat w = .ok :=
  ⟨2#16, 0#16, 1#16, (withXm [(0x100, 1#16)] live), by decide⟩

theorem test_met_HostWordAccesses_8b : ∃ (a : Word) (expected : Word) (w : Word) (s : State),
    portFree s.part = true ∧ a ∈ [2#16, 4#16, 5#16] ∧ writeOutcome (s.on (openUpdate expected a.toNat)) a.toNat w = .ok ∧ writeOutcome (s.on (openTrans .write a.toNat)) a.toNat w = .ok :=
  ⟨4#16, 0#16, 8#16, (liveOn fun p => { p with nu.classes.request.state := .pending }), by decide⟩

theorem test_met_HostWordAccesses_8c : ∃ (a : Word) (expected : Word) (w : Word) (s : State),
    portFree s.part = true ∧ a ∈ [2#16, 4#16, 5#16] ∧ writeOutcome (s.on (openUpdate expected a.toNat)) a.toNat w = .ok ∧ writeOutcome (s.on (openTrans .write a.toNat)) a.toNat w = .ok :=
  ⟨5#16, 1#16, 3#16, (liveOn fun p => { p with nu.classes.keys.state := .inService }), by decide⟩

theorem test_met_HostWordAccesses_9a : ∃ (a : Word) (expected : Word) (w : Word) (s : State),
    portFree s.part = true ∧ writeOutcome (s.on (openUpdate expected a.toNat)) a.toNat w ≠ .ok :=
  ⟨0x100#16, 0#16, 2#16, live, by decide⟩

theorem test_met_HostWordAccesses_9b : ∃ (a : Word) (expected : Word) (w : Word) (s : State),
    portFree s.part = true ∧ writeOutcome (s.on (openUpdate expected a.toNat)) a.toNat w ≠ .ok :=
  ⟨3#16, 0#16, 2#16, live, by decide⟩

theorem test_met_HostWordAccesses_9c : ∃ (a : Word) (expected : Word) (w : Word) (s : State),
    portFree s.part = true ∧ writeOutcome (s.on (openUpdate expected a.toNat)) a.toNat w ≠ .ok :=
  ⟨0x800#16, 0#16, 0#16, live, by decide⟩

theorem test_met_HostWordAccesses_10 : ∃ (expected : Word) (s : State),
    portFree s.part = true ∧ (∀ tr, s.part.hp.trans = some tr → tr.kind ≠ .update expected) :=
  ⟨0#16, (liveOn fun p => { p with hp.trans := some ⟨.update 1#16, 4, .ok, []⟩ }), by decide, fun _ h => by cases h; decide⟩

theorem test_met_HostWordAccesses_11 : ∃ (a : Word) (expected : Word) (w : Word) (tr : Trans) (s : State),
    portFree s.part = true ∧ s.part.hp.trans = some tr ∧ tr.kind = .update expected ∧ tr.next = a.toNat ∧ tr.held.any (inRange · a.toNat) = true ∧ a.toNat < 0x800 ∧ hostMayWrite s.xm a.toNat w = true :=
  ⟨0x20#16, 5#16, 6#16, ⟨.update 5#16, 0x20, .ok, [(0x20, 224)]⟩, (liveOn fun p => { p with hp.trans := some ⟨.update 5#16, 0x20, .ok, [(0x20, 224)]⟩ }), by decide⟩

theorem test_met_PortTransactions_1a : ∃ (s : State),
    portFree s.part = true :=
  ⟨live, by decide⟩

theorem test_met_PortTransactions_1b : ∃ (s : State),
    portFree s.part = true :=
  ⟨live, by decide⟩

theorem test_met_PortTransactions_1c : ∃ (s : State),
    portFree s.part = true :=
  ⟨live, by decide⟩

theorem test_met_PortTransactions_2 : ∃ (b : Byte) (s : State),
    portFree s.part = true ∧ namesTransaction b = false :=
  ⟨0xFF#8, live, by decide⟩

theorem test_met_PortTransactions_3 : ∃ (tr : Trans) (s : State),
    s.part.resetLow = false ∧ s.part.hp.blocked = false ∧ s.part.hp.trans = some tr :=
  ⟨⟨.read, 0x801, .range, []⟩, (liveOn fun p => { p with hp.trans := some ⟨.read, 0x801, .range, []⟩ }), by decide⟩

theorem test_met_PortTransactions_4 : ∃ (s : State),
    s.part.resetLow = false ∧ s.part.hp.blocked = true :=
  ⟨(liveOn fun p => { p with hp.blocked := true }), by decide⟩

theorem test_met_PortTransactions_5 : ∃ (s : State),
    portFree s.part = true :=
  ⟨(liveOn fun p => { p with hp.trans := some ⟨.read, 0x801, .range, []⟩, hp.out := [7#16] }), by decide⟩

theorem test_met_PortTransactions_6 : ∃ (s : State),
    portFree s.part = true :=
  ⟨(liveOn fun p => { p with hp.trans := some ⟨.write, 0x801, .range, []⟩, hp.out := [7#16] }), by decide⟩

theorem test_met_PortTransactions_7 : ∃ (s : State),
    portFree s.part = true :=
  ⟨live, by decide⟩

theorem test_met_PortTransactions_8 : ∃ (s : State),
    portFree s.part = true :=
  ⟨live, by decide⟩

theorem test_met_PortTransactions_9a : ∃ (s : State),
    (s.part.hp.blocked = true → s.part.hp.trans = none) :=
  ⟨(liveOn fun p => { p with hp.trans := some ⟨.read, 7, .ok, []⟩ }), by decide⟩

theorem test_met_PortTransactions_9b : ∃ (s : State),
    (s.part.hp.blocked = true → s.part.hp.trans = none) :=
  ⟨(liveOn fun p => { p with hp.blocked := true }), by decide⟩

theorem test_met_SettingsApply_1 : ∃ (r : Request) (rs : List Request) (s : State),
    s.part.sl.current = none ∧ s.part.rq.sl = r :: rs ∧ r.kind = 1#16 :=
  ⟨(req 1#16 []), [], (liveOn fun p => { p with rq.sl := [(req 1#16 [])] }), by decide⟩

theorem test_met_SettingsApply_2 : ∃ (r : Request) (s : State),
    s.part.sl.op = .snapshot ∧ s.part.sl.current = some r :=
  ⟨(req 1#16 []), (liveOn fun p => { p with sl.op := .snapshot, sl.current := some (req 1#16 []) }), by decide⟩

theorem test_met_SettingsApply_3 : ∃ (r : Request) (ws : List (Nat × Word)) (new : Settings) (code : Word) (s : State),
    s.part.sl.op = .writeBack ws new code ∧ s.part.sl.current = some r ∧ (∀ x ∈ ws, x.1 < 224) ∧ (ws.map (·.1)).Nodup ∧ MemoryInv s :=
  ⟨(req 1#16 []), [(0x35, 500#16), (223, 0#16)], .default, 1#16, (liveOn fun p => { p with sl.op := .writeBack [(0x35, 500#16), (223, 0#16)] .default 1#16, sl.current := some (req 1#16 []), nu.faults := FaultName.settingsRejected.set }), by decide⟩

theorem test_met_SettingsApply_5 : ∃ (lo : Nat) (hi : Nat),
    lo ≤ hi ∧ hi < 65536 :=
  ⟨1, 2, by decide⟩

theorem test_met_SettingsApply_7 : ∃ (f : Nat × FieldKind),
    f ∈ fields :=
  ⟨(0x0D, .number 100 2000), by decide⟩

theorem test_met_RequestsCompleteAndAreWritten_1 : ∃ (r : Request) (rs : List Request) (s : State),
    s.part.sl.current = none ∧ s.part.rq.sl = r :: rs ∧ r.kind = 2#16 :=
  ⟨(req 2#16 []), [], (liveOn fun p => { p with rq.sl := [(req 2#16 [])] }), by decide⟩

theorem test_met_RequestsCompleteAndAreWritten_2a : ∃ (r : Request) (rs : List Request) (s : State),
    s.part.rq.rq = r :: rs :=
  ⟨(req 9#16 [2#16]), [], (liveOn fun p => { p with rq.rq := [(req 9#16 [2#16])], bl.lost := 7 }), by decide⟩

theorem test_met_RequestsCompleteAndAreWritten_2b : ∃ (r : Request) (rs : List Request) (s : State),
    s.part.rq.rq = r :: rs :=
  ⟨(req 11#16 []), [], (liveOn fun p => { p with rq.rq := [(req 11#16 [])] }), by decide⟩

theorem test_met_RequestsCompleteAndAreWritten_4 : ∃ (r : Request) (rs : List Request) (s : State),
    s.part.rq.nu = r :: rs ∧ r.kind = 10#16 :=
  ⟨(req 10#16 []), [], (liveOn fun p => { p with rq.nu := [(req 10#16 [])] }), by decide⟩

theorem test_met_RequestsCompleteAndAreWritten_5 : ∃ (c : Completion) (cs : List Completion) (s : State),
    s.part.rq.completions = c :: cs ∧ c.data.length = 15 ∧ c.slot < 8 ∧ MemoryInv s :=
  ⟨⟨7, true, 1#16, List.replicate 15 2#16⟩, [], (liveOn fun p => { p with rq.completions := [⟨7, true, 1#16, List.replicate 15 2#16⟩] }), by decide⟩

theorem test_met_RecordsHoldTheirContent_1 : ∃ (r : Request) (rs : List Request) (s : State),
    s.part.rq.nu = r :: rs ∧ r.kind = 10#16 :=
  ⟨(req 10#16 []), [], (liveOn fun p => { p with rq.nu := [(req 10#16 [])] }), by decide⟩

theorem test_met_RecordsHoldTheirContent_2 : ∃ (r : Request) (rs : List Request) (s : State),
    s.part.rq.nu = r :: rs ∧ r.kind = 10#16 :=
  ⟨(req 10#16 []), [], (liveOn fun p => { p with rq.nu := [(req 10#16 [])] }), by decide⟩

theorem test_met_RecordsHoldTheirContent_3 : ∃ (s : State),
    PublishesAtOnce .advice s :=
  ⟨live, by decide⟩

theorem test_met_RecordsHoldTheirContent_4 : ∃ (s : State),
    portFree s.part = true ∧ writeOutcome (s.on (openTrans .write 5)) 5 3#16 = .ok ∧ s.part.nu.classes.keys.state = .inService ∧ s.part.kt.queue ≠ [] :=
  ⟨(liveOn fun p => { p with nu.classes.keys.state := .inService, kt.queue := List.replicate 16 ⟨5, true, false, 0#16⟩ }), by decide⟩

theorem test_met_RecordsHoldTheirContent_5 : ∃ (c : Completion) (cs : List Completion) (s : State),
    s.part.rq.completions = c :: cs ∧ c.slot < 8 ∧ PublishesAtOnce .request s :=
  ⟨⟨7, true, 1#16, List.replicate 15 2#16⟩, [], (liveOn fun p => { p with rq.completions := [⟨7, true, 1#16, List.replicate 15 2#16⟩] }), by decide⟩

theorem test_met_RecordsHoldTheirContent_6 : ∃ (s : State),
    timerDue s.part.bl.replyTimer s.part.tb = true ∧ s.part.sl.inForce.replyAttempts ≤ s.part.bl.attempts ∧ PublishesAtOnce .fault s :=
  ⟨(liveOn fun p => { p with bl.link := .active, bl.exch := some .query, bl.attempts := 3, bl.replyTimer := some ⟨4980#32, 20⟩ }), by decide⟩

theorem test_met_RecordsHoldTheirContent_8a : ∃ (c : Content) (s : State),
    s.part.resetWork = none ∧ (s.part.nu.classes.get c.cls).state ≠ .idle ∧ c ≠ .keys :=
  ⟨.request 1#8, (liveOn fun p => { p with nu.classes.request.state := .pending }), by decide⟩

theorem test_met_RecordsHoldTheirContent_8b : ∃ (c : Content) (s : State),
    s.part.resetWork = none ∧ (s.part.nu.classes.get c.cls).state ≠ .idle ∧ c ≠ .keys :=
  ⟨.fault 1#7, (liveOn fun p => { p with nu.classes.fault.state := .inService }), by decide⟩

theorem test_met_ChargeLimitsHoldInEveryStep_1 : ∃ (s : State),
    ChargeInv s.part :=
  ⟨(liveOn fun p => { p with cc.session := .charging, cc.setpoint := 300 }), by decide⟩

theorem test_met_LinkAndKeyRulesHoldInEveryStep_1 : ∃ (s : State),
    AgreeInv s.part ∧ LinkInv s.part ∧ KeyInv s.part :=
  ⟨(liveOn fun p => { p with bl.link := .active, bl.exch := some .query, bl.attempts := 2, bl.replyTimer := some ⟨4980#32, 20⟩, bl.reservation := 300, cc.reservation := 300, bl.stallTimer := some ⟨4800#32, 300⟩, kt.held := [4, 9], kt.down := [9] }), by decide, ⟨by decide, by decide, by decide, by decide, by decide⟩, by decide⟩

theorem test_met_NoticeRulesHoldInEveryStep_1 : ∃ (s : State),
    NoticeInv s.part :=
  ⟨(liveOn fun p => { p with nu.classes.pen.state := .pending, nu.attn := true, nu.classes.fault.publishing := some (List.replicate 48 0#16), nu.writing := [.fault] }), by decide⟩

theorem test_met_MemoryStaysCanonical_1 : ∃ (s : State),
    MemoryInv s :=
  ⟨(withXm [(0x20, 1#16), (0x7FF, 9#16)] live), by decide⟩

theorem test_met_AcceptedSlotsHoldOneRequestEach_1 : ∃ (s : State),
    MemoryInv s ∧ NoticeInv s.part ∧ WritesInv s.part ∧ SlotInv s :=
  ⟨(withXm [(0x100, 2#16), (0x120, 2#16)] (liveOn fun p => { p with rq.cc := [(req 7#16 [1#16])], rq.completions := [⟨0, true, 1#16, List.replicate 15 2#16⟩] })), by decide, by decide, ⟨by decide, fun _ _ _ h => (nomatch (show SlOp.idle = _ from h)), by decide, by decide⟩, by decide⟩

theorem test_met_AngleRulesHoldInEveryStep_1 : ∃ (s : State),
    AngleInv s.part :=
  ⟨(liveOn fun p => { p with ae := ⟨.held, .motion, 46079, 7, some 2880, some ⟨3000#32, 2000⟩, some (0, 4096)⟩ }), by decide⟩

theorem test_met_PostureAndOrientationRulesHoldInEveryStep_1 : ∃ (s : State),
    PostureInv s.part ∧ OrientationInv s.part :=
  ⟨(liveOn fun p => { p with ot.dwell := some ⟨4500#32, 500⟩, ot.candidate := some .rot90 }), by decide⟩

theorem test_met_BlocksAgreeAfterEveryStep_1a : ∃ (s : State),
    ResetLineInv s.part ∧ AdvisorInv s.part ∧ AgreeInv s.part ∧ PartStateInv s.part :=
  ⟨(liveOn fun p => { p with rq.sa := [(req 3#16 [3#16])] }), by decide, by decide, by decide, by simp [PartStateInv, liveOn, live, State.on]⟩

theorem test_met_BlocksAgreeAfterEveryStep_1b : ∃ (s : State),
    ResetLineInv s.part ∧ AdvisorInv s.part ∧ AgreeInv s.part ∧ PartStateInv s.part :=
  ⟨(liveOn fun p => { p with sp.flight := .sample 5000#32, sp.failureRun := 2 }), by decide, by decide, by decide, by simp [PartStateInv, liveOn, live, State.on]⟩

theorem test_met_SetpointRisesOnlyAtAWindowsEnd_1 : ∃ (s : State),
    ChargeInv s.part :=
  ⟨(liveOn fun p => { p with cc.session := .waking, pn.phase := .grant, pn.outcome := some (.session .charging), pn.granted := 300 }), by decide⟩

theorem test_met_AcceptedSlotsAreOutOfTheHostsReach_1 : ∃ (i : Instr) (n : Nat) (k : Nat) (s : State),
    Instr.isHostAccess i = true ∧ n < 8 ∧ k < 32 ∧ s.xm.read (slotBase n) = slotAccepted :=
  ⟨.xmWordWrite 0x1FF#16 0#16, 7, 31, (withXm [(0x1E0, 2#16)] live), by decide⟩

/-! The hypotheses that stand inside a clause. -/

theorem test_met_windowPhases : ∀ ph : Phase, ∃ s : State, s.part.pn.phase = ph :=
  fun ph => ⟨liveOn fun p => { p with pn.phase := ph }, rfl⟩
theorem test_met_failedWindow_waking : ∀ n r, ∃ s : State,
    s.part.pn.phase = .waitReport ∧ s.part.cc.session = .waking ∧ s.part.cc.wakingWindows = n ∧ s.part.cc.prechargeRounds = r :=
  fun n r => ⟨liveOn fun p => { p with
    pn.phase := .waitReport, cc.session := .waking, cc.wakingWindows := n, cc.prechargeRounds := r }, rfl, rfl, rfl, rfl⟩
theorem test_met_failedWindow_running : ∀ n, ∃ s : State,
    s.part.pn.phase = .waitSync ∧ s.part.cc.session = .topped ∧ s.part.pn.failures = n :=
  fun n => ⟨liveOn fun p => { p with pn.phase := .waitSync, cc.session := .topped, pn.failures := n }, rfl, rfl, rfl⟩
theorem test_met_inactivity_kept_awake : ∃ s : State,
    timerDue s.part.sa.inactivity s.part.tb = true ∧
    ¬ (s.part.sa.advisor = .active ∧ s.part.sl.inForce.keepAwake = false) :=
  ⟨liveOn fun p => { p with sa.inactivity := some ⟨4000#32, 1000⟩, sl.inForce.keepAwake := true }, by decide⟩
theorem test_met_grace_elsewhere : ∃ s : State,
    timerDue s.part.sa.grace s.part.tb = true ∧ s.part.sa.advisor ≠ .closePending :=
  ⟨liveOn fun p => { p with sa.grace := some ⟨3000#32, 2000⟩, sa.advisor := .idle }, by decide⟩
theorem test_met_requestKinds : ∀ k args, ∃ (r : Request) (rs : List Request) (s : State),
    s.part.rq.rq = r :: rs ∧ r.kind = k ∧ r.args = args :=
  fun k args => ⟨req k args, [], liveOn fun p => { p with rq.rq := [req k args] }, rfl, rfl, rfl⟩
theorem test_met_rotation_margin : ∃ (c : Settings) (lx ly : Int) (o : Ot),
    o.hold = .none ∧ (c.tiltFloor : Int) * c.tiltFloor ≤ lx * lx + ly * ly ∧ bestRotation o.rotation lx ly ≠ o.rotation ∧
    (8 + (c.orientationHysteresis : Int)) * o.rotation.component lx ly ≤ 8 * (bestRotation o.rotation lx ly).component lx ly :=
  ⟨.default, 3000, 2400, { Ot.reset .default with hold := .none }, by decide⟩
theorem test_met_rotation_tilted : ∃ (c : Settings) (lx ly : Int) (o : Ot),
    o.hold = .none ∧ lx * lx + ly * ly < (c.tiltFloor : Int) * c.tiltFloor :=
  ⟨.default, 1535, 0, { Ot.reset .default with hold := .none }, by decide⟩
theorem test_met_report_flags : ∀ flags : Byte, ∃ check : Byte, reportSum 7#32 3700#16 25#8 50#8 400#16 flags check = 0#8 :=
  fun flags => ⟨0#8 - reportSum 7#32 3700#16 25#8 50#8 400#16 flags 0#8, by revert flags; decide⟩
theorem test_met_refresh_publishes : ∃ s : State, s.part.rq.nu = [req 10#16 []] ∧ ∀ c ∈ allClasses, PublishesAtOnce c s :=
  ⟨liveOn fun p => { p with rq.nu := [req 10#16 []] }, by decide⟩
theorem test_met_advice_inactivity : ∃ s : State,
    PublishesAtOnce .advice s ∧ timerDue s.part.sa.inactivity s.part.tb = true ∧ s.part.sa.advisor = .active ∧
    s.part.sl.inForce.keepAwake = false :=
  ⟨liveOn fun p => { p with sa.inactivity := some ⟨4000#32, 1000⟩, sa.advisor := .active }, by decide⟩
theorem test_met_advice_grace : ∃ s : State,
    PublishesAtOnce .advice s ∧ timerDue s.part.sa.grace s.part.tb = true ∧ s.part.sa.advisor = .closePending :=
  ⟨liveOn fun p => { p with sa.grace := some ⟨3000#32, 2000⟩, sa.advisor := .closePending }, by decide⟩
theorem test_met_wakeCause_penRemoved : ∃ s : State,
    timerDue s.part.inp.penh.timer s.part.tb = true ∧ s.part.sa.advisor = .watching ∧ s.part.sa.hostState ≠ .running ∧
    filteredActive s.part.sl.inForce .penh s.part.inp.penh.level = false ∧ s.part.sl.inForce.penWake = true ∧
    PublishesAtOnce .advice s ∧ s.part.bl.link = .hibernate :=
  ⟨liveOn fun p => { p with
    inp.penh := ⟨true, true, some ⟨4900#32, 100⟩⟩, sa.advisor := .watching, sa.hostState := .off, sl.inForce.penWake := true
    bl.link := .hibernate }, by decide⟩
theorem test_met_wakeCause_lidOpen : ∃ s : State,
    timerDue s.part.inp.lidh.timer s.part.tb = true ∧ s.part.sa.advisor = .watching ∧
    filteredActive s.part.sl.inForce .lidh s.part.inp.lidh.level = false ∧ s.part.sa.posture = .closed ∧
    PublishesAtOnce .advice s :=
  ⟨liveOn fun p => { p with
    inp.lidh := ⟨true, true, some ⟨4900#32, 100⟩⟩, sa.advisor := .watching, sa.hostState := .off, sa.posture := .closed }, by decide⟩
theorem test_met_wakeCause_pickup : ∃ s : State,
    s.part.sa.advisor = .watching ∧ s.part.sl.inForce.pickupWake = true ∧ s.part.sa.posture ∈ [.tablet, .flat, .detached] ∧
    PostureInv s.part ∧ PublishesAtOnce .advice s :=
  ⟨liveOn fun p => { p with
    sl.inForce.pickupWake := true, sa.advisor := .watching, sa.hostState := .sleeping }, by decide⟩
theorem test_met_closeSleep : ∃ s : State,
    s.part.pc.candidate = .closed ∧ s.part.sl.inForce.closeSleep = true ∧ s.part.sl.inForce.keepAwake = false ∧
    s.part.sa.advisor = .idle ∧ s.part.ot.rotation = .rot0 :=
  ⟨liveOn fun p => { p with pc.candidate := .closed, sl.inForce.closeSleep := true, sa.advisor := .idle }, by decide⟩
theorem test_met_opened_dimmed : ∃ s : State,
    s.part.pc.candidate ≠ .closed ∧ s.part.sa.advisor = .closePending ∧ s.part.sa.dimmed = true ∧ PublishesAtOnce .advice s :=
  ⟨liveOn fun p => { p with pc.candidate := .laptop, sa.advisor := .closePending, sa.dimmed := true }, by decide⟩
theorem test_met_jump : ∃ (c : Settings) (v f snap : Nat),
    v < 46080 ∧ f < 46080 ∧ 128 * c.snapThreshold < (circleDiff v f).natAbs ∧ c.snapCount ≤ snap + 1 :=
  ⟨.default, 20000, 0, 7, by decide⟩
theorem test_met_deferredFaults : ∃ s : State, ∃ k < s.part.nu.deferred.length,
    s.part.nu.deferred[k]?.bind Offer.joins = some .sensorFault ∧
    (∀ o ∈ s.part.nu.deferred.drop (k + 1), o.leaves &&& FaultName.sensorFault.set = 0#7) ∧
    (∀ o ∈ s.part.nu.deferred.drop (k + 1), o.joins = none) :=
  ⟨liveOn fun p => { p with nu.deferred := [.content .keys, .faults (some .sensorFault) 0#7] }, 1, by decide⟩
theorem test_met_hmiso_release : ∃ s : State, s.part.resetLow = true ∧ s.part.hp.trans = none :=
  ⟨liveOn fun p => { p with resetLow := true }, by decide⟩
theorem test_met_hmiso_softReset : ∃ s : State, portFree s.part = true :=
  ⟨live, by decide⟩

end Sys2Proof.Tests
end

/-! Commands whose event cannot occur leave the state as it is (O4). -/

namespace Sys2Proof.Machine

theorem State.on_eq_self {f : Part → Part} {s : State} (h : f s.part = s.part) : s.on f = s := by
  simp [State.on, h]

/-- A frame without noise to count, that the receiver does not hear, changes nothing (R53). -/
theorem countNoise_of_not_noiseCounts {n : NoiseCount} {p : Part} (h : noiseCounts n p = false) : countNoise n p = p := by
  simp [countNoise, h]

theorem countDiscard_of_not_listens (d : Discard) {p : Part} (h : p.bl.link.listens = false) : countDiscard d p = p := by
  simp [countDiscard, h]

theorem listens_of_not_noiseCounts {n : NoiseCount} {p : Part} (h : noiseCounts n p = false) :
    p.bl.link.listens = false := by
  simp only [noiseCounts, Bool.or_eq_false_iff] at h
  exact h.1

theorem receive_of_not_noiseCounts {n : NoiseCount} (f : Part → Part) {p : Part} (h : noiseCounts n p = false) :
    receive n f p = p := by
  simp [receive, listens_of_not_noiseCounts h, countNoise_of_not_noiseCounts h]

theorem discardFrame_of_not_noiseCounts {cs : List RxChar} {p : Part} (h : noiseCounts (noisyChars cs) p = false) :
    discardFrame cs p = p := by
  simp only [discardFrame, countNoise_of_not_noiseCounts h]
  cases judgeFrame cs with
  | none => rfl
  | some d => exact countDiscard_of_not_listens d (listens_of_not_noiseCounts h)

/-- A step of the window in a phase that is not the one it leaves changes nothing. -/
theorem stepPhase_of_ne {before : Phase} (next : Phase) {s : State} (h : s.part.pn.phase ≠ before) :
    stepPhase before next s = s := by
  simp [stepPhase, h]

theorem failIn_of_ne {ph : Phase} (k : WindowFailure) {s : State} (h : s.part.pn.phase ≠ ph) : failIn ph k s = s := by
  simp [failIn, h]

theorem takePenControl_of_none {want : Request → Bool} (f : Request → Part → Part) {s : State}
    (h : headOf want s.part.rq.cc = none) : takePenControl want f s = s := by
  simp [takePenControl, h]

theorem takeOwn_of_none {want : Request → Bool} (f : Request → Part → Part) {s : State}
    (h : headOf want s.part.rq.rq = none) : takeOwn want f s = s := by
  simp [takeOwn, h]

theorem takeSettings_of_busy {kind : Nat} (f : Request → Part → Part) {s : State}
    (h : (s.part.sl.current.isNone && (headOf (Request.is kind) s.part.rq.sl).isSome) = false) :
    takeSettings kind f s = s := by
  unfold takeSettings
  split
  · simp_all
  · rfl

theorem frameSent_of_not_occurs {s : State} (h : Instr.occurs .exchangeSent s = false) :
    frameSent s.part = s.part := by
  simp only [Instr.occurs] at h
  unfold frameSent
  split <;> simp_all

theorem hostTransEnd_of_no_trans {p : Part} (h : (!p.resetLow && (p.hp.blocked || p.hp.trans.isSome)) = false) :
    hostTransEnd p = p := by
  simp only [Bool.and_eq_false_iff, Bool.not_eq_false', Bool.or_eq_false_iff, Option.isSome_eq_false_iff,
    Option.isNone_iff_eq_none] at h
  obtain hlow | ⟨hb, ht⟩ := h
  · simp [hostTransEnd, hlow]
  · simp [hostTransEnd, hb, endTrans, ht]

/-- Settles O4: every command's meaning begins with the test of its event, by the command's kind of event. -/
theorem eventsThatCannotOccurChangeNothing : Obligations.EventsThatCannotOccurChangeNothing := by
  intro i s h
  cases i with
  | fullReset => simp [Instr.occurs] at h
  | softReset | acknowledge | take | endService | attention | xmWordWrite | read | write | update | portRead
  | unknownCommand =>
    simp only [Instr.occurs] at h
    simp [exec, execSoftReset, execAcknowledge, execTake, execEndService, execAttention, execXmWordWrite, execRead,
      execWrite, execUpdate, execPortRead, execUnknownCommand, hostRead, hostWrite, hostUpdate, hostPortRead, hostUnknown, h]
  | transactionEnd => simp only [exec, execTransactionEnd, State.on_eq_self (hostTransEnd_of_no_trans h)]
  | resetnRelease | tbTick =>
    simp only [Instr.occurs, Bool.not_eq_false'] at h
    simp [exec, execResetnRelease, execTbTick, h]
  | resetWorkEnd =>
    simp only [Instr.occurs] at h
    simp only [exec, execResetWorkEnd]
    split <;> simp_all
  | configurationStepEnd | sampleArrival | faultAttemptEnd =>
    simp only [Instr.occurs] at h
    simp only [exec, execConfigurationStepEnd, execSampleArrival, execFaultAttemptEnd]
    split <;> simp_all
  | sampleDue | faultAttemptDue =>
    simp only [Instr.occurs, Option.isSome_eq_false_iff, Option.isNone_iff_eq_none] at h
    simp [exec, execSampleDue, execFaultAttemptDue, h]
  | filteredLevelChange =>
    simp only [Instr.occurs, bne_eq_false_iff_eq] at h
    simp [exec, execFilteredLevelChange, h]
  | debounceExpiry | holdTimerExpiry | postureDwellExpiry | orientationDwellExpiry | replyTimerExpiry | powerGoodExpiry
  | activateTimeExpiry | helloTimerExpiry | stallIdleExpiry | minimumHibernateExpiry | windowDue | faultHistoryExpiry
  | inactivityExpiry | graceExpiry | wakeRepeatExpiry | settlingExpiry | prechargeExpiry | cooldownExpiry | overcurrent =>
    simp only [Instr.occurs] at h
    simp [exec, execDebounceExpiry, execHoldTimerExpiry, execPostureDwellExpiry, execOrientationDwellExpiry,
      execReplyTimerExpiry, execPowerGoodExpiry, execActivateTimeExpiry, execHelloTimerExpiry, execStallIdleExpiry,
      execMinimumHibernateExpiry, execWindowDue, execFaultHistoryExpiry, execInactivityExpiry, execGraceExpiry,
      execWakeRepeatExpiry, execSettlingExpiry, execPrechargeExpiry, execCooldownExpiry, execOvercurrent, h]
  | lineBreakReceived n => simp only [exec, execLineBreakReceived, State.on_eq_self (countNoise_of_not_noiseCounts h)]
  | frameGapTimeout n =>
    simp only [exec, execFrameGapTimeout]
    rw [State.on_eq_self]
    rw [countNoise_of_not_noiseCounts h, countDiscard_of_not_listens _ (listens_of_not_noiseCounts h)]
  | frameDiscard cs => simp only [exec, execFrameDiscard, State.on_eq_self (discardFrame_of_not_noiseCounts h)]
  | hello n | keys n | motion n | status n | reply n =>
    simp only [exec, execHello, execKeys, execMotion, execStatus, execReply,
      State.on_eq_self (receive_of_not_noiseCounts _ h)]
  | exchangeSent => simp only [exec, execExchangeSent, State.on_eq_self (frameSent_of_not_occurs h)]
  | lineResetEnd | wakeBreakEnd =>
    simp only [Instr.occurs] at h
    simp only [exec, execLineResetEnd, execWakeBreakEnd]
    split <;> simp_all
  | profileSnapshotEnd | profileResultWriteEnd =>
    simp only [Instr.occurs] at h
    simp only [exec, execProfileSnapshotEnd, execProfileResultWriteEnd]
    split <;> simp_all
  | baseAttribute | profileReload =>
    simp only [Instr.occurs] at h
    simp [exec, execBaseAttribute, execProfileReload, h]
  | quietEnd | breakEnd | pollSent | syncStart | reportStart =>
    simp only [Instr.occurs, beq_eq_false_iff_ne] at h
    simp only [exec, execQuietEnd, execBreakEnd, execPollSent, execSyncStart, execReportStart, stepPhase_of_ne _ h]
  | syncWaitExpiry | syncMeasureTimeout | reportWaitExpiry | reportGapTimeout =>
    simp only [Instr.occurs, beq_eq_false_iff_ne] at h
    simp only [exec, execSyncWaitExpiry, execSyncMeasureTimeout, execReportWaitExpiry, execReportGapTimeout,
      failIn_of_ne _ h]
  | syncReceived | report =>
    simp only [Instr.occurs, beq_eq_false_iff_ne] at h
    simp [exec, execSyncReceived, execReport, h, failIn_of_ne _ h]
  | grantSent =>
    simp only [Instr.occurs] at h
    simp only [exec, execGrantSent]
    split <;> simp_all
  | penControlStop | penControlResume | penControlClearLockout | penControlBadArg =>
    simp only [Instr.occurs, Option.isSome_eq_false_iff, Option.isNone_iff_eq_none] at h
    simp only [exec, execPenControlStop, execPenControlResume, execPenControlClearLockout, execPenControlBadArg,
      takePenControl_of_none _ h]
  | timeCapture | countersRead | countersReadAndClear | countersBadArg | badKind =>
    simp only [Instr.occurs, Option.isSome_eq_false_iff, Option.isNone_iff_eq_none] at h
    simp only [exec, execTimeCapture, execCountersRead, execCountersReadAndClear, execCountersBadArg, execBadKind,
      takeOwn_of_none _ h]
  | baseRetry | setHostState | refresh =>
    simp only [Instr.occurs, Option.isSome_eq_false_iff, Option.isNone_iff_eq_none] at h
    simp [exec, execBaseRetry, execSetHostState, execRefresh, h]
  | applySettings | lockSettings => simp only [exec, execApplySettings, execLockSettings, takeSettings_of_busy _ h]
  | recordPublicationEnd | wakePulseEnd | slotCompletionEnd | settingsSnapshotEnd | settingsWriteBackEnd =>
    simp only [Instr.occurs] at h
    simp only [exec, execRecordPublicationEnd, execWakePulseEnd, execSlotCompletionEnd, execSettingsSnapshotEnd,
      execSettingsWriteBackEnd]
    split <;> simp_all

end Sys2Proof.Machine

/-! What a change of link state, a delivery and the advisor's events carry along (R32, R45, R62, R142): a predicate of the part
that survives each of their elementary changes survives them all. Each operation's chain of changes is followed here once. -/

namespace Sys2Proof.Machine

/-- What holds of both branches holds of the choice. -/
theorem holds_ite {P : Part → Prop} {c : Prop} [Decidable c] {a b : Part} (ha : P a) (hb : P b) :
    P (if c then a else b) := by
  split
  · exact ha
  · exact hb

/-- A release changes the key sets and the queue, never the suppression (R94, R97). -/
theorem release_suppression (code : Nat) (t : Word) (k : Kt) :
    (release code t k).suppression = k.suppression := by
  simp only [release]
  (repeat' split) <;> rfl

theorem foldl_resyncRelease_suppression (held : List Nat) (t : Word) (ks : List Nat) (k : Kt) :
    (ks.foldl (resyncRelease held t) k).suppression = k.suppression := by
  induction ks generalizing k with
  | nil => rfl
  | cons c ks ih =>
    rw [List.foldl_cons, ih]
    simp only [resyncRelease]
    split <;> rfl

/-- OT's evaluation leaves the posture that it was told (R48). -/
theorem evaluateRotation_posture (s : Settings) (now : Time) (lx ly : Int) (o : Ot) :
    (evaluateRotation s now lx ly o).posture = o.posture := by
  simp only [evaluateRotation]
  (repeat' split) <;> rfl

/-- An abandoned MODE leaves the quiet flag and the reservation (R61). -/
theorem abandonMode_quiet (b : Bl) : b.abandonMode.quiet = b.quiet := by
  unfold Bl.abandonMode
  split <;> rfl

theorem abandonMode_reservation (b : Bl) : b.abandonMode.reservation = b.reservation := by
  unfold Bl.abandonMode
  split <;> rfl

/-- The exchange taken from the queue leaves the rest of the line (R59). -/
theorem nextExchange_told {b b' : Bl} {x : Exchange} (h : b.nextExchange = some (x, b')) :
    b'.quiet = b.quiet ∧ b'.reservation = b.reservation := by
  unfold Bl.nextExchange at h
  (repeat' split at h) <;> simp_all <;> obtain ⟨-, rfl⟩ := h <;> exact ⟨rfl, rfl⟩

/-- The transmitter leaves what other blocks hold of the line: the quiet flag and the reservation. -/
theorem Bl.pump_told (d : Nat) (now : Time) (b : Bl) :
    (b.pump d now).quiet = b.quiet ∧ (b.pump d now).reservation = b.reservation := by
  unfold Bl.pump
  split
  · exact ⟨rfl, rfl⟩
  · split
    · exact ⟨rfl, rfl⟩
    · exact ⟨rfl, rfl⟩
    · split
      · exact ⟨rfl, rfl⟩
      · exact ⟨rfl, rfl⟩
      · split
        · next hx =>
          obtain ⟨hq, hr⟩ := nextExchange_told hx
          exact ⟨hq, hr⟩
        · exact ⟨rfl, rfl⟩

theorem pump_quiet (r : Bool) (p : Part) : (pump r p).bl.quiet = p.bl.quiet := (Bl.pump_told ..).1

theorem pump_reservation (r : Bool) (p : Part) : (pump r p).bl.reservation = p.bl.reservation := (Bl.pump_told ..).2

/-- P survives the elementary changes that an event of the advisor, of the key tracker or of the orientation makes: an offer of
content, a change of the line that keeps what other blocks hold of it, of the key sets, of SA's own state and of the rotation. -/
structure AdvisorCarried (P : Part → Prop) : Prop where
  content : ∀ c p, P p → P (offer (.content c) p)
  line : ∀ p b, b.quiet = p.bl.quiet → b.reservation = p.bl.reservation → P p → P { p with bl := b }
  keys : ∀ p k, k.suppression = p.kt.suppression → P p → P { p with kt := k }
  advisor : ∀ p a, a.hostState = p.sa.hostState → a.posture = p.sa.posture → a.previous = p.sa.previous →
    (AdvisorInv p → AdvisorInv { p with sa := a }) → P p → P { p with sa := a }
  rotation : ∀ p o, o.posture = p.ot.posture → P p → P { p with ot := o }

/-- P survives besides the changes that a change of link state or a delivery makes: of PW, the queues and the port, and the two ways
in which PC decides (R35, R43). -/
structure Carried (P : Part → Prop) : Prop extends AdvisorCarried P where
  walker : ∀ p w, P p → P { p with pw := w }
  queues : ∀ p q, P p → P { p with rq := q }
  port : ∀ p h, P p → P { p with hp := h }
  evaluate : ∀ p, P p → P (evaluatePosture p)
  expired : ∀ p, P p → P (postureExpired p)

namespace AdvisorCarried

variable {P : Part → Prop} {p : Part}

/-! ### The advisor (chapter 8) -/

theorem orderTarget (hP : AdvisorCarried P) (m : LinkMode) (h : P p) : P (orderTarget m p) := hP.line p _ rfl rfl h

theorem orderWake (hP : AdvisorCarried P) (h : P p) : P (orderWake p) := by
  unfold Machine.orderWake
  split
  · exact hP.line p _ rfl rfl h
  · exact h

theorem advise (hP : AdvisorCarried P) (k : AdviceKind) (c : BitVec 6) (h : P p) : P (advise k c p) := hP.content _ p h

theorem wakeCause (hP : AdvisorCarried P) (c : AdviceCause) (h : P p) : P (wakeCause c p) := by
  unfold Machine.wakeCause Machine.adviseWake
  split
  · dsimp only
    split
    · exact hP.orderTarget _ (hP.advise _ _ h)
    · exact hP.advise _ _ h
  · exact h

theorem startInactivity (hP : AdvisorCarried P) (hw : p.sa.advisor ≠ .watching) (h : P p) : P (startInactivity p) :=
  hP.advisor p _ rfl rfl rfl (fun hi => ⟨hi.1, fun hv => absurd hv hw⟩) h

/-- While the host runs the advisor does not watch, so its timer may run (8.1). -/
theorem restartInactivity (hP : AdvisorCarried P) (hr : p.sa.hostState = .running) (h : P p) : P (restartInactivity p) :=
  hP.advisor p _ rfl rfl rfl (fun hi => ⟨hi.1, fun hw => absurd hr (hi.1.mp hw)⟩) h

theorem undim (hP : AdvisorCarried P) (hi : p.sa.advisor = .idle) (h : P p) : P (undim p) := by
  refine hP.advise _ _ (hP.advisor p _ rfl rfl rfl (fun ⟨ha, _⟩ => ⟨?_, by simp⟩) h)
  simpa [hi] using ha

theorem activity (hP : AdvisorCarried P) (h : P p) : P (activity p) := by
  unfold Machine.activity
  split
  · dsimp only
    split
    · exact hP.undim ‹_› (hP.restartInactivity ‹_› h)
    · exact hP.restartInactivity ‹_› h
  · exact h

theorem keyTold (hP : AdvisorCarried P) (h : P p) : P (keyTold p) := hP.wakeCause _ (hP.activity h)

theorem enterClosePending (hP : AdvisorCarried P) (hw : p.sa.advisor ≠ .watching) (h : P p) : P (enterClosePending p) := by
  refine hP.advisor p _ rfl rfl rfl (fun ⟨ha, _⟩ => ⟨?_, by simp⟩) h
  simpa [hw] using ha

theorem leaveClose (hP : AdvisorCarried P) (h : P p) : P (leaveClose p) := by
  have left (hw : p.sa.advisor ≠ .watching) :
      P { p with sa := { p.sa with advisor := .active, dimmed := false, grace := none } } := by
    refine hP.advisor p _ rfl rfl rfl (fun ⟨ha, _⟩ => ⟨?_, by simp⟩) h
    simpa [hw] using ha
  unfold Machine.leaveClose
  dsimp only
  split
  · split
    · exact hP.advise _ _ (left (by simp_all))
    · exact left (by simp_all)
  · exact hP.advise _ _ (left (by simp_all))
  · exact h

theorem postureRunning (hP : AdvisorCarried P) (q : Posture) (hr : p.sa.hostState = .running) (h : P p) :
    P (postureRunning q p) := by
  unfold Machine.postureRunning
  split
  · next hc =>
    obtain ⟨-, -, ha⟩ := hc
    refine hP.enterClosePending ?_ (hP.restartInactivity hr h)
    rcases ha with ha | ha <;> simp [Machine.restartInactivity, ha]
  · dsimp only
    split
    · exact hP.activity h
    · exact hP.leaveClose (hP.activity h)

theorem linkTold (hP : AdvisorCarried P) (old new : Link) (h : P p) : P (linkTold old new p) := by
  unfold Machine.linkTold
  split
  · split
    · exact hP.wakeCause _ (hP.activity h)
    · exact h
  · exact hP.activity h
  · exact h

theorem penTold (hP : AdvisorCarried P) (present : Bool) (h : P p) : P (penTold present p) := by
  unfold Machine.penTold
  dsimp only
  split
  · exact hP.wakeCause _ (hP.activity h)
  · exact hP.activity h

theorem lidTold (hP : AdvisorCarried P) (active : Bool) (h : P p) : P (lidTold active p) := by
  unfold Machine.lidTold
  split
  · exact hP.wakeCause _ h
  · exact h

/-- A lid sample is stored, and what follows carries P on (R141). -/
theorem lidSampleTold (hP : AdvisorCarried P) (x y z : Int) (fresh : Bool)
    (h : P { p with sa := { p.sa with previous := some (x, y, z) } }) : P (lidSampleTold x y z fresh p) := by
  unfold Machine.lidSampleTold
  dsimp only
  split
  · split
    · split
      · exact hP.wakeCause _ (hP.activity h)
      · exact hP.activity h
    · exact h
  · exact h

theorem inactivityExpired (hP : AdvisorCarried P) (h : P p) : P (inactivityExpired p) := by
  let q : Part := { p with sa := { p.sa with inactivity := none } }
  have cancelled : P q :=
    hP.advisor p _ rfl rfl rfl (fun ⟨ha, hw⟩ => ⟨ha, fun hv => ⟨rfl, (hw hv).2⟩⟩) h
  unfold Machine.inactivityExpired
  dsimp only
  split
  · next hc =>
    refine hP.advise _ _ (hP.advisor q _ rfl rfl rfl (fun ⟨ha, _⟩ => ⟨?_, by simp⟩) cancelled)
    simpa [q, hc.1] using ha
  · exact cancelled

theorem graceExpired (hP : AdvisorCarried P) (h : P p) : P (graceExpired p) := by
  let q : Part := { p with sa := { p.sa with grace := none } }
  have cancelled : P q :=
    hP.advisor p _ rfl rfl rfl (fun ⟨ha, hw⟩ => ⟨ha, fun hv => ⟨(hw hv).1, rfl⟩⟩) h
  unfold Machine.graceExpired
  dsimp only
  split
  · next hc =>
    refine hP.advise _ _ (hP.advisor q _ rfl rfl rfl (fun ⟨ha, _⟩ => ⟨?_, by simp⟩) cancelled)
    simpa [q, hc] using ha
  · exact cancelled

theorem keepAwakeOn (hP : AdvisorCarried P) (h : P p) : P (keepAwakeOn p) := by
  have awake {q : Part} (hq : P q) : P { q with sa := { q.sa with dimmed := false, inactivity := none } } :=
    hP.advisor q _ rfl rfl rfl (fun ⟨ha, hw⟩ => ⟨ha, fun hv => ⟨rfl, (hw hv).2⟩⟩) hq
  unfold Machine.keepAwakeOn
  dsimp only
  split
  · exact awake (hP.undim ‹_› h)
  · exact awake (hP.leaveClose h)

theorem closeSleepOff (hP : AdvisorCarried P) (h : P p) : P (closeSleepOff p) := by
  unfold Machine.closeSleepOff
  split
  · exact hP.leaveClose h
  · exact hP.leaveClose h
  · exact h

theorem closeSleepOn (hP : AdvisorCarried P) (h : P p) : P (closeSleepOn p) := by
  unfold Machine.closeSleepOn
  split
  · next hc => exact hP.enterClosePending (by simp [hc.1]) h
  · exact h

theorem inactivitySettings (hP : AdvisorCarried P) (old : Settings) (h : P p) : P (inactivitySettings old p) := by
  unfold Machine.inactivitySettings
  dsimp only
  split
  · split
    · exact h
    · exact hP.advisor p _ rfl rfl rfl (fun ⟨ha, hw⟩ => ⟨ha, fun hv => ⟨rfl, (hw hv).2⟩⟩) h
  · split
    · split
      · exact hP.startInactivity (by simp_all) h
      · exact hP.startInactivity (by simp_all) h
      · exact h
    · exact h

theorem advisorSettings (hP : AdvisorCarried P) (old : Settings) (h : P p) : P (advisorSettings old p) := by
  have ifThen {c : Prop} [Decidable c] {f : Part → Part} (hf : ∀ {q}, P q → P (f q)) {q : Part} (hq : P q) :
      P (if c then f q else q) := holds_ite (hf hq) hq
  unfold Machine.advisorSettings
  dsimp only
  split
  · exact hP.inactivitySettings old (ifThen hP.closeSleepOn (ifThen hP.closeSleepOff (ifThen hP.keepAwakeOn h)))
  · exact h

/-! ### The key tracker (section 5.4) -/

theorem offerIfQueued (hP : AdvisorCarried P) (n : Nat) (h : P p) : P (offerIfQueued n p) := by
  unfold Machine.offerIfQueued
  split
  · exact hP.content _ p h
  · exact h

theorem linkToldKeys (hP : AdvisorCarried P) (old new : Link) (h : P p) : P (linkToldKeys old new p) := by
  unfold Machine.linkToldKeys
  split
  · exact hP.offerIfQueued _ (hP.keys p _ rfl h)
  · exact h

theorem queuePress (hP : AdvisorCarried P) (code : Nat) (y : Bool) (t : Word) (h : P p) : P (queuePress code y t p) := by
  unfold Machine.queuePress
  split
  · exact hP.keyTold (hP.keys p _ rfl h)
  · exact hP.keys p _ rfl h

theorem press (hP : AdvisorCarried P) (code : Nat) (t : Word) (h : P p) : P (press code t p) := by
  unfold Machine.press
  split
  · exact h
  · split
    · exact hP.keys p _ rfl h
    · dsimp only
      split
      · exact hP.keys p _ rfl h
      · exact hP.queuePress _ _ _ (hP.keys p _ rfl h)

theorem keyTransition (hP : AdvisorCarried P) (t : Word) (e : KeyEvent) (h : P p) : P (keyTransition t p e) := by
  unfold Machine.keyTransition
  dsimp only
  split
  · split
    · exact hP.keys p _ (release_suppression ..) h
    · exact hP.press _ _ h
  · exact hP.keys p _ rfl h

theorem foldl_keyTransition (hP : AdvisorCarried P) (t : Word) (es : List KeyEvent) (h : P p) :
    P (es.foldl (Machine.keyTransition t) p) := by
  induction es generalizing p with
  | nil => exact h
  | cons e es ih => exact ih (hP.keyTransition t e h)

theorem joinQuery (hP : AdvisorCarried P) (h : P p) : P (joinQuery p) := hP.line p _ rfl rfl h

theorem keysFrame (hP : AdvisorCarried P) (gap : Bool) (es : List KeyEvent) (n : Nat) (h : P p) : P (keysFrame gap es n p) := by
  have taken := hP.offerIfQueued p.kt.queue.length (hP.foldl_keyTransition (loWord p.tb) es h)
  unfold Machine.keysFrame
  dsimp only
  split
  · exact hP.joinQuery taken
  · exact taken

theorem foldl_resyncPress (hP : AdvisorCarried P) (t : Word) (ks : List Nat) (h : P p) :
    P (ks.foldl (resyncPress t) p) := by
  induction ks generalizing p with
  | nil => exact h
  | cons k ks ih =>
    refine ih ?_
    unfold resyncPress
    split
    · exact h
    · exact hP.queuePress _ _ _ h

theorem resync (hP : AdvisorCarried P) (codes : List Byte) (h : P p) : P (resync codes p) := by
  unfold Machine.resync
  dsimp only
  split
  · exact hP.keys p _ rfl h
  · refine hP.offerIfQueued _ (hP.foldl_resyncPress _ _ (hP.keys p _ ?_ h))
    exact foldl_resyncRelease_suppression ..

/-! ### Orientation (chapter 3) -/

theorem offerOrientation (hP : AdvisorCarried P) (h : P p) : P (offerOrientation p) := hP.content _ p h

theorem rehold (hP : AdvisorCarried P) (h : P p) : P (rehold p) := by
  have held (o : Ot) (ho : o.posture = p.ot.posture) : P (Machine.offerOrientation { p with ot := o }) :=
    hP.offerOrientation (hP.rotation p o ho h)
  unfold Machine.rehold
  dsimp only
  split
  · exact h
  · split
    · exact hP.activity (held _ rfl)
    · exact held _ rfl

theorem orientationSettings (hP : AdvisorCarried P) (old : Settings) (h : P p) : P (orientationSettings old p) := by
  unfold Machine.orientationSettings
  dsimp only
  split
  · exact hP.rehold h
  · exact h

theorem rotationExpired (hP : AdvisorCarried P) (h : P p) : P (rotationExpired p) := by
  unfold Machine.rotationExpired
  split
  · exact hP.activity (hP.offerOrientation (hP.rotation p _ rfl h))
  · exact hP.rotation p _ rfl h

theorem orientationDelivery (hP : AdvisorCarried P) (d : Delivery) (h : P p) : P (orientationDelivery d p) := by
  unfold Machine.orientationDelivery
  split
  · exact hP.rotation p _ (evaluateRotation_posture ..) h
  · exact h

end AdvisorCarried

namespace Carried

variable {P : Part → Prop} {p : Part}

/-! ### Posture (chapter 3) -/

theorem postureSettings (hP : Carried P) (old : Settings) (h : P p) : P (postureSettings old p) := by
  unfold Machine.postureSettings
  split
  · exact hP.evaluate p h
  · exact h

/-- A delivery is stored by PC, and what follows carries P on (R32, R35). -/
theorem deliver (hP : Carried P) (lid : Option Reading)
    (h : P { p with pc := { p.pc with stored := p.ae.delivery } }) : P (deliver lid p) :=
  hP.orientationDelivery _ (hP.evaluate _ h)

/-! ### The profile walker (chapter 5) -/

theorem beginHold (hP : Carried P) (r : Range) (h : P p) : P (beginHold r p) := by
  unfold Machine.beginHold
  split
  · exact hP.port p _ h
  · exact h

theorem complete (hP : Carried P) (c : Completion) (h : P p) : P (complete c p) := by
  unfold Machine.complete
  dsimp only
  split
  · exact hP.beginHold _ (hP.queues p _ h)
  · exact hP.queues p _ h

theorem completeDone (hP : Carried P) (r : Request) (code : Word) (data : List Word) (h : P p) :
    P (completeDone r code data p) := hP.complete _ h

theorem completeFailed (hP : Carried P) (r : Request) (code : Word) (h : P p) : P (completeFailed r code p) :=
  hP.complete _ h

theorem askWake (hP : Carried P) (h : P p) : P (askWake p) := by
  unfold Machine.askWake
  split
  · exact hP.orderWake (hP.walker p _ h)
  · exact h

theorem startWalk (hP : Carried P) (w : Walk) (e : Option WalkEnd) (h : P p) : P (startWalk w e p) :=
  hP.beginHold _ (hP.walker p _ h)

theorem startWaiting (hP : Carried P) (h : P p) : P (startWaiting p) := by
  unfold Machine.startWaiting
  split
  · exact hP.startWalk _ _ (hP.walker p _ h)
  · exact h

theorem startResultWrite (hP : Carried P) (e : WalkEnd) (h : P p) : P (startResultWrite e p) :=
  hP.beginHold _ (hP.walker p _ h)

theorem joinAttr (hP : Carried P) (op : AttrOp) (h : P p) : P (joinAttr op p) := hP.line p _ rfl rfl h

theorem submit (hP : Carried P) (o : Origin) (op : AttrOp) (h : P p) : P (submit o op p) :=
  hP.askWake (hP.joinAttr op (hP.walker p _ h))

theorem lineWalker (hP : Carried P) (b : Bl) (w : Pw) (hq : b.quiet = p.bl.quiet)
    (hr : b.reservation = p.bl.reservation) (h : P p) : P { p with bl := b, pw := w } :=
  hP.walker { p with bl := b } w (hP.line p b hq hr h)

theorem applyLink (hP : Carried P) (id value : Nat) (h : P p) : P (applyLink id value p) := by
  unfold Machine.applyLink
  split
  · exact hP.lineWalker _ _ rfl rfl h
  · exact hP.lineWalker _ _ rfl rfl h
  · exact hP.walker p _ h

theorem visit (hP : Carried P) (es : List (Word × Word)) (h : P p) : P (visit es p) := by
  induction es generalizing p with
  | nil => exact hP.startResultWrite _ h
  | cons e es ih =>
    unfold Machine.visit
    split
    · exact ih (hP.walker p _ h)
    · exact ih (hP.applyLink _ _ h)
    · exact hP.submit _ _ h

theorem continueWalk (hP : Carried P) (h : P p) : P (continueWalk p) := by
  unfold Machine.continueWalk
  split
  · exact hP.visit _ h
  · exact h

theorem snapshotTaken (hP : Carried P) (es : List (Word × Word)) (h : P p) : P (snapshotTaken es p) := by
  have taken := hP.walker p { p.pw with op := .idle, snapshot := some es, position := 0, results := freshResults } h
  unfold Machine.snapshotTaken
  dsimp only
  split
  · exact hP.continueWalk taken
  · split
    · exact hP.startWaiting taken
    · exact hP.startResultWrite _ taken
  · exact hP.startResultWrite _ taken

theorem runRequest (hP : Carried P) (r : Request) (h : P p) : P (runRequest r p) := by
  unfold Machine.runRequest
  dsimp only
  split
  · exact hP.startWalk _ _ (hP.walker p _ h)
  · exact hP.submit _ _ (hP.walker p _ h)

theorem waitRequest (hP : Carried P) (r : Request) (h : P p) : P (waitRequest r p) := hP.askWake (hP.walker p _ h)

theorem takeRequests (hP : Carried P) (rs : List Request) (h : P p) : P (takeRequests rs p) := by
  induction rs generalizing p with
  | nil => exact hP.queues p _ h
  | cons r rs ih =>
    unfold Machine.takeRequests
    split
    · exact ih (hP.completeFailed _ _ h)
    · split
      · exact ih (hP.completeFailed _ _ h)
      · dsimp only
        split
        · exact hP.runRequest _ (hP.queues p _ h)
        · exact hP.waitRequest _ (hP.queues p _ h)

theorem takeNext (hP : Carried P) (h : P p) : P (takeNext p) := by
  unfold Machine.takeNext
  split
  · exact h
  · exact hP.takeRequests _ h

theorem finishRequest (hP : Carried P) {f : Part → Part} (hf : ∀ {q}, P q → P (f q)) (h : P p) :
    P (finishRequest f p) := hP.takeNext (hf (hP.walker p _ h))

theorem replyTold (hP : Carried P) (ok : Bool) (value : Byte) (h : P p) : P (replyTold ok value p) := by
  have told := hP.walker p { p.pw with inFlight := none } h
  unfold Machine.replyTold
  dsimp only
  split
  · exact hP.continueWalk (hP.walker p _ h)
  · refine hP.finishRequest (fun hq => ?_) told
    split
    · exact hP.completeDone _ _ _ hq
    · exact hP.completeFailed _ _ hq
  · exact told

theorem unansweredTold (hP : Carried P) (h : P p) : P (unansweredTold p) := by
  unfold Machine.unansweredTold
  dsimp only
  split
  · exact hP.startResultWrite _ (hP.walker p _ h)
  · exact hP.completeFailed _ _ (hP.walker p _ h)
  · exact hP.walker p _ h

theorem abandonedTold (hP : Carried P) (gone : Bool) (h : P p) : P (abandonedTold gone p) := by
  unfold Machine.abandonedTold
  dsimp only
  split
  · split
    · exact hP.completeFailed _ _ (hP.walker p _ h)
    · exact hP.walker p _ h
  · exact hP.walker p _ h

theorem endWalk (hP : Carried P) (h : P p) : P (endWalk p) := by
  unfold Machine.endWalk
  split
  · exact h
  · exact hP.startResultWrite _ h
  · exact hP.walker p _ h

theorem failRequest (hP : Carried P) (h : P p) : P (failRequest p) := by
  unfold Machine.failRequest
  split
  · exact hP.finishRequest (hP.completeFailed _ _) h
  · split
    · exact hP.finishRequest (hP.completeFailed _ _) h
    · exact h
  · exact hP.takeNext h

theorem beginAttach (hP : Carried P) (h : P p) : P (beginAttach p) := by
  unfold Machine.beginAttach
  split
  · exact hP.startResultWrite _ (hP.walker p _ h)
  · exact hP.startWalk _ _ h
  · exact hP.walker p _ h

theorem runWaiting (hP : Carried P) (h : P p) : P (runWaiting p) := by
  unfold Machine.runWaiting
  split
  · split
    · exact hP.runRequest _ h
    · exact h
  · exact h

theorem linkToldProfile (hP : Carried P) (old new : Link) (h : P p) : P (linkToldProfile old new p) := by
  have woken : P (if old = .hibernate then { p with pw := { p.pw with wakeAsked := false } } else p) := by
    split
    · exact hP.walker p _ h
    · exact h
  unfold Machine.linkToldProfile
  dsimp only
  split
  · exact hP.failRequest (hP.endWalk woken)
  · exact hP.failRequest (hP.endWalk woken)
  · exact hP.failRequest (hP.endWalk woken)
  · exact hP.beginAttach woken
  · exact hP.runWaiting woken
  · exact hP.askWake woken
  · exact woken

theorem finishReload (hP : Carried P) (e : WalkEnd) (c : WalkCounts) (h : P p) : P (finishReload e c p) := by
  unfold Machine.finishReload
  split
  · split
    · split
      · exact hP.finishRequest (hP.completeDone _ _ _) h
      · exact hP.finishRequest (hP.completeFailed _ _) h
      · exact hP.finishRequest (hP.completeFailed _ _) h
      · exact h
    · exact h
  · exact h

theorem offerBase (hP : Carried P) (e : BaseEvent) (h : P p) : P (offerBase e p) := hP.content _ p h

theorem reportComplete (hP : Carried P) (e : WalkEnd) (w : Walk) (os : List (Option WalkEnd)) (h : P p) :
    P (reportComplete e w os p) := by
  unfold Machine.reportComplete
  split
  · exact hP.line p _ rfl rfl h
  · exact h

theorem resultsWritten (hP : Carried P) (e : WalkEnd) (h : P p) : P (resultsWritten e p) := by
  have written := hP.offerBase .profileDone (hP.walker p { p.pw with counts := countResults p.pw.results } h)
  have reported := hP.reportComplete e p.pw.walk p.pw.waiting written
  have finished := hP.finishReload e (countResults p.pw.results) (hP.startWaiting (hP.walker _
    { (Machine.reportComplete e p.pw.walk p.pw.waiting
        (Machine.offerBase .profileDone { p with pw := { p.pw with counts := countResults p.pw.results } })).pw with
      walk := .none, op := .idle, ending := none, snapshot := none } reported))
  exact holds_ite (hP.runWaiting finished) finished

/-! ### The base link (chapter 4) -/

theorem enterLink (hP : Carried P) (new : Link) (h : P p) : P (enterLink new p) :=
  hP.linkTold _ _ (hP.linkToldProfile _ _ (hP.evaluate _ (hP.linkToldKeys _ _ (hP.line p _ rfl rfl h))))

theorem emptyQueue (hP : Carried P) (gone : Bool) (h : P p) : P (emptyQueue gone p) := by
  have emptied := hP.line p { p.bl with
    tx := p.bl.tx.map Tx.orphan, lineOrder := none
    qMode := none, qQuery := false, qAttr := none, exch := none, attempts := 0, replyTimer := none } rfl rfl h
  exact holds_ite (hP.abandonedTold gone emptied) emptied

theorem endExchange (hP : Carried P) (h : P p) : P (endExchange p) := hP.line p _ rfl rfl h

theorem enterResetting (hP : Carried P) (h : P p) : P (enterResetting p) := hP.enterLink _ (hP.line p _ rfl rfl h)

theorem enterStall (hP : Carried P) (h : P p) : P (enterStall p) := hP.enterLink _ (hP.line p _ rfl rfl h)

theorem leaveStall (hP : Carried P) (h : P p) : P (leaveStall p) := hP.enterLink _ (hP.line p _ rfl rfl h)

theorem stallIfOrdered (hP : Carried P) (m : LinkMode) (h : P p) : P (stallIfOrdered m p) := by
  unfold Machine.stallIfOrdered
  split
  · exact hP.enterStall h
  · exact h

theorem enterActive (hP : Carried P) (h : P p) : P (enterActive p) :=
  hP.stallIfOrdered _ (hP.offerBase _ (hP.enterLink _ (hP.line p _ rfl rfl h)))

theorem enterHibernate (hP : Carried P) (h : P p) : P (enterHibernate p) :=
  hP.offerBase _ (hP.enterLink _ (hP.line p _ rfl rfl h))

theorem enterWaking (hP : Carried P) (h : P p) : P (enterWaking p) :=
  hP.offerBase _ (hP.enterLink _ (hP.line p _ (abandonMode_quiet _) (abandonMode_reservation _) h))

theorem enterReprofiling (hP : Carried P) (h : P p) : P (enterReprofiling p) := by
  have emptied := hP.line p { p.bl with qAttr := none } rfl rfl h
  unfold Machine.enterReprofiling
  dsimp only
  split
  · exact hP.enterLink _ (hP.abandonedTold _ emptied)
  · exact hP.enterLink _ emptied

theorem hibernateIfDue (hP : Carried P) (h : P p) : P (hibernateIfDue p) := by
  unfold Machine.hibernateIfDue
  split
  · exact hP.enterHibernate h
  · exact h

theorem pump (hP : Carried P) (restart : Bool) (h : P p) : P (pump restart p) :=
  hP.line p _ (pump_quiet ..) (pump_reservation ..) h

/-- The link's own moves carry P on (R59, R67, R69, R70). -/
theorem settleWith (hP : Carried P) (restart : Bool) (h : P p) : P (settleWith restart p) := by
  have waked : P (wakeIfPending p) := by
    unfold wakeIfPending
    split
    · exact hP.enterWaking h
    · exact h
  have roused : P (rouseIfQueued (wakeIfPending p)) := by
    unfold rouseIfQueued
    split
    · exact hP.leaveStall waked
    · exact waked
  exact hP.pump restart (hP.hibernateIfDue roused)

theorem settle (hP : Carried P) (h : P p) : P (settle p) := hP.settleWith false h

theorem modeOrder (hP : Carried P) (m : LinkMode) (h : P p) : P (modeOrder m p) :=
  hP.settle (hP.stallIfOrdered m (hP.orderTarget m h))

theorem countNoise (hP : Carried P) (n : NoiseCount) (h : P p) : P (countNoise n p) := by
  unfold Machine.countNoise
  split
  · exact hP.line p _ rfl rfl h
  · exact h

theorem countDiscard (hP : Carried P) (d : Discard) (h : P p) : P (countDiscard d p) := by
  unfold Machine.countDiscard
  split
  · split <;> exact hP.line p _ rfl rfl h
  · exact h

theorem discardFrame (hP : Carried P) (cs : List RxChar) (h : P p) : P (discardFrame cs p) := by
  unfold Machine.discardFrame
  dsimp only
  split
  · exact hP.countDiscard _ (hP.countNoise _ h)
  · exact hP.countNoise _ h

theorem receive (hP : Carried P) (n : NoiseCount) {f : Part → Part} (hf : ∀ {q}, P q → P (f q)) (h : P p) :
    P (receive n f p) := by
  unfold Machine.receive
  split
  · exact hf (hP.countNoise n h)
  · exact hP.countNoise n h

theorem seqCheck (hP : Carried P) (seq : BitVec 4) (h : P p) : P (seqCheck seq p) := by
  unfold Machine.seqCheck
  split
  · exact hP.line p _ rfl rfl h
  · exact h

theorem keysReceived (hP : Carried P) (gap : Bool) (es : List KeyEvent) (n : Nat) (h : P p) :
    P (keysReceived gap es n p) := by
  unfold Machine.keysReceived
  split
  · exact hP.keysFrame _ _ _ h
  · exact hP.keysFrame _ _ _ (hP.leaveStall h)
  · exact h

theorem keysReception (hP : Carried P) (seq : BitVec 4) (es : List KeyEvent) (n : Nat) (h : P p) :
    P (keysReception seq es n p) := by
  unfold Machine.keysReception
  split
  · exact hP.settleWith _ (hP.keysReceived _ _ _ (hP.seqCheck _ h))
  · exact hP.countDiscard _ h

theorem motionFrame (hP : Carried P) (x y z : Word) (c : Byte) (h : P p) : P (motionFrame x y z c p) := by
  unfold Machine.motionFrame
  split
  · exact hP.line p _ rfl rfl h
  · exact h

theorem modeAnswered (hP : Carried P) (lost : Bool) (h : P p) : P (modeAnswered lost p) := by
  unfold Machine.modeAnswered
  split
  · exact hP.enterActive h
  · split
    · exact hP.enterReprofiling h
    · exact hP.enterActive h
  · exact h

theorem answerStatus (hP : Carried P) (st : BaseStatus) (held : List Byte) (h : P p) : P (answerStatus st held p) := by
  unfold Machine.answerStatus
  split
  · split
    · exact hP.modeAnswered _ (hP.endExchange h)
    · exact hP.resync _ (hP.endExchange h)
    · exact hP.endExchange h
  · exact h

theorem replyFrame (hP : Carried P) (id : Word) (result value : Byte) (h : P p) : P (replyFrame id result value p) := by
  unfold Machine.replyFrame
  split
  · split
    · split
      · exact hP.replyTold _ _ (hP.hibernateIfDue (hP.endExchange h))
      · exact h
    · exact h
  · exact h

theorem frameSent (hP : Carried P) (h : P p) : P (frameSent p) := by
  unfold Machine.frameSent
  split
  · exact hP.settle (hP.line p _ rfl rfl h)
  · exact hP.settle (hP.line p _ rfl rfl h)
  · exact h

theorem lineResetEnded (hP : Carried P) (live : Bool) (h : P p) : P (lineResetEnded live p) := by
  unfold Machine.lineResetEnded
  dsimp only
  split
  · exact hP.settle (hP.enterLink _ (hP.line p _ rfl rfl h))
  · exact hP.settle (hP.line p _ rfl rfl h)

theorem wakeBreakEnded (hP : Carried P) (live : Bool) (h : P p) : P (wakeBreakEnded live p) := by
  unfold Machine.wakeBreakEnded
  dsimp only
  split
  · exact hP.settle (hP.line p _ rfl rfl h)
  · exact hP.settle (hP.line p _ rfl rfl h)

theorem minHibernateExpired (hP : Carried P) (h : P p) : P (minHibernateExpired p) :=
  hP.settle (hP.line p _ rfl rfl h)

theorem takeProfileRequest (hP : Carried P) (h : P p) : P (takeProfileRequest p) := hP.settle (hP.takeRequests _ h)

theorem dwellExpired (hP : Carried P) (h : P p) : P (dwellExpired p) := by
  unfold Machine.dwellExpired
  dsimp only
  split
  · exact hP.settle (hP.stallIfOrdered _ (hP.expired p h))
  · exact hP.settle (hP.expired p h)

end Carried
end Sys2Proof.Machine

/-! What an attach, a stop of the link and the pen's session carry along besides (R64, R72, R76, R103 to R135): the faults, the
reservation, the charge controller, the pen link and the inputs. -/

namespace Sys2Proof.Machine

/-- P survives besides the changes that the pen's session makes: of the active fault set, of CC where it keeps the budget and the
reservation, and of PN. -/
structure PenCarried (P : Part → Prop) : Prop extends AdvisorCarried P where
  faults : ∀ j l p, P p → P (offer (.faults j l) p)
  charge : ∀ p c, c.budget = p.cc.budget → c.reservation = p.cc.reservation → P p → P { p with cc := c }
  penLink : ∀ p n, P p → P { p with pn := n }

/-- P survives besides a new reservation and the changes of the inputs: what a debounced change reaches (R14, R64, R76). -/
structure WidelyCarried (P : Part → Prop) : Prop extends Carried P, PenCarried P where
  reserve : ∀ r p, P p → P (setReservation r p)
  inputs : ∀ p x, P p → P { p with inp := x }

namespace PenCarried

variable {P : Part → Prop} {p : Part}

/-! ### The pen's session (chapters 6 and 7) -/

theorem raiseFault (hP : PenCarried P) (f : FaultName) (h : P p) : P (raiseFault f p) := hP.faults _ _ p h

theorem clearFault (hP : PenCarried P) (f : FaultName) (h : P p) : P (clearFault f p) := hP.faults _ _ p h

theorem session (hP : PenCarried P) (n : Pn) (c : Cc) (hb : c.budget = p.cc.budget)
    (hr : c.reservation = p.cc.reservation) (h : P p) : P { p with pn := n, cc := c } :=
  hP.penLink { p with cc := c } n (hP.charge p c hb hr h)

theorem offerPen (hP : PenCarried P) (h : P p) : P (offerPen p) := hP.content _ p h

theorem offerCharge (hP : PenCarried P) (h : P p) : P (offerCharge p) := by
  have read : P (readCurrent p) := holds_ite (hP.charge p _ rfl rfl h) (hP.charge p _ rfl rfl h)
  exact hP.content _ _ read

/-- One moment at CC carries on what its action does. -/
theorem moment (hP : PenCarried P) {f : Part → Part} (h : P (f p)) : P (moment f p) := by
  have offered := holds_ite (c := penKey (f p) ≠ penKey p) (hP.offerPen h) h
  exact holds_ite (hP.offerCharge offered) offered

theorem startOrDue (hP : PenCarried P) (h : P p) : P (startOrDue p) := by
  rcases startOrDue_cases p with ⟨-, hs⟩ | ⟨-, hs⟩ <;> rw [hs]
  · exact hP.session _ _ rfl rfl h
  · exact hP.charge p _ rfl rfl h

theorem enterWakingSession (hP : PenCarried P) (h : P p) : P (enterWakingSession p) :=
  hP.startOrDue (hP.charge p _ rfl rfl h)

theorem reactToCauses (hP : PenCarried P) (h : P p) : P (reactToCauses p) := by
  rcases reactToCauses_cases p with hs | ⟨hs, -⟩ <;> rw [hs]
  · exact h
  · exact hP.charge p _ rfl rfl h

theorem reduce (hP : PenCarried P) (h : P p) : P (reduce p) :=
  holds_ite h (hP.charge p _ rfl rfl h)

theorem relimit (hP : PenCarried P) (thermalSet : Bool) (h : P p) : P (relimit thermalSet p) := by
  have limited := hP.reduce (hP.charge p { p.cc with budgetLimit := budgetLimitOf p.cc.budget p.cc.reservation } rfl rfl h)
  exact holds_ite (hP.reactToCauses limited) limited

theorem enterPrecharge (hP : PenCarried P) (h : P p) : P (enterPrecharge p) :=
  hP.reactToCauses (hP.charge p _ rfl rfl h)

theorem enterSilent (hP : PenCarried P) (h : P p) : P (enterSilent p) :=
  hP.raiseFault _ (hP.charge p _ rfl rfl h)

theorem abandonWindow (hP : PenCarried P) (h : P p) : P (abandonWindow p) := hP.penLink p _ h

theorem failWindow (hP : PenCarried P) (k : WindowFailure) (h : P p) : P (failWindow k p) := by
  have restored : P (restoreSetpoint { p with pn := countFailure k p.pn }) := by
    have counted := hP.penLink p (countFailure k p.pn) h
    unfold restoreSetpoint
    split
    · exact hP.reduce (hP.charge _ _ rfl rfl counted)
    · exact hP.reduce (hP.charge _ _ rfl rfl counted)
    · exact hP.charge _ _ rfl rfl counted
  have failed {q : Part} (hq : P q) : P (countedFailure q) :=
    holds_ite (hP.enterSilent (hP.penLink q _ hq)) (hP.reactToCauses (hP.charge _ _ rfl rfl (hP.penLink q _ hq)))
  unfold Machine.failWindow
  dsimp only
  split
  · exact holds_ite (hP.charge _ _ rfl rfl restored) (holds_ite (hP.enterPrecharge restored) (hP.enterSilent restored))
  iterate 3 exact failed restored
  · exact hP.reactToCauses restored
  · exact restored

theorem acceptReport (hP : PenCarried P) (i : BitVec 32) (r : PenReport) (h : P p) : P (acceptReport i r p) := by
  have identified : P (applyPenId i p) := by
    unfold applyPenId
    split
    · exact hP.penLink p _ h
    · exact holds_ite h (hP.session _ _ rfl rfl h)
  have reported := hP.session (p := applyPenId i p) { (applyPenId i p).pn with report := some r }
    { (applyPenId i p).cc with prechargeRounds := 0 } rfl rfl identified
  have granted : P (computeGrant r _) := hP.charge _ _ rfl rfl reported
  exact hP.penLink _ _ granted

theorem judgeFault (hP : PenCarried P) (h : P p) : P (judgeFault p) := by
  unfold Machine.judgeFault
  split
  · exact h
  · split
    · exact hP.faults _ _ _ (hP.charge p _ rfl rfl h)
    · exact hP.faults _ _ _ (hP.charge p _ rfl rfl h)

theorem takeChargeFault (hP : PenCarried P) (k : ChargeFault) (h : P p) : P (takeChargeFault k p) :=
  hP.judgeFault (hP.charge _ _ rfl rfl (hP.abandonWindow h))

theorem offerFault (hP : PenCarried P) (before : Part) (m : Option Nat) (h : P p) : P (offerFault before m p) := by
  have offered := holds_ite (c := penKey p ≠ penKey before) (hP.offerPen h) h
  unfold Machine.offerFault
  dsimp only
  split
  · exact hP.content _ _ (hP.charge _ _ rfl rfl offered)
  · exact hP.offerCharge offered

theorem endFaultWindow (hP : PenCarried P) (h : P p) : P (endFaultWindow p) :=
  hP.offerFault _ _ (hP.takeChargeFault _ (hP.penLink p _ h))

theorem takeOvercurrent (hP : PenCarried P) (m : Nat) (h : P p) : P (takeOvercurrent m p) :=
  hP.offerFault _ _ (hP.takeChargeFault _ h)

theorem endWindow (hP : PenCarried P) (st : Session) (h : P p) : P (endWindow st p) :=
  hP.reactToCauses (hP.reduce (hP.session _ _ rfl rfl h))

theorem guardOn (hP : PenCarried P) (h : P p) : P (guardOn p) := by
  have given := holds_ite (c := p.pn.phase ≠ .idle) (hP.abandonWindow h) h
  exact hP.charge _ _ rfl rfl given

theorem guardEnd (hP : PenCarried P) (since : Time) (h : P p) : P (guardEnd since p) := by
  have off := hP.charge p { p.cc with guard := none } rfl rfl h
  have window {q : Part} (hq : P q) : P (guardWindow since q) :=
    hP.penLink _ _ (hP.session (p := q) _ _ rfl rfl hq)
  unfold Machine.guardEnd
  dsimp only
  split
  · exact window off
  · exact window off
  iterate 3 exact holds_ite (window off) off
  · exact hP.charge _ _ rfl rfl h
  · exact off

theorem rawPenh (hP : PenCarried P) (present : Bool) (h : P p) : P (rawPenh present p) := by
  unfold Machine.rawPenh
  split
  · exact holds_ite (hP.moment (hP.guardOn h)) h
  · exact h
  · exact hP.moment (hP.guardEnd _ h)
  · exact h

theorem penDocked (hP : PenCarried P) (h : P p) : P (penDocked p) := by
  unfold Machine.penDocked
  split
  · exact hP.session _ _ rfl rfl h
  · exact h

theorem penGone (hP : PenCarried P) (h : P p) : P (penGone p) := by
  unfold Machine.penGone
  dsimp only
  split
  · exact hP.clearFault _ (hP.session (p := p) _ _ rfl rfl h)
  · exact hP.session (p := p) _ _ rfl rfl h

theorem debouncedPenh (hP : PenCarried P) (present : Bool) (h : P p) : P (debouncedPenh present p) := by
  refine hP.moment ?_
  cases present
  · exact hP.penGone h
  · exact hP.penDocked h

theorem setHostCause (hP : PenCarried P) (on : Bool) (h : P p) : P (setHostCause on p) := hP.charge p _ rfl rfl h

theorem cooldownEnded (hP : PenCarried P) (h : P p) : P (cooldownEnded p) :=
  hP.enterWakingSession (hP.clearFault _ h)

theorem resumeHost (hP : PenCarried P) (h : P p) : P (resumeHost p) :=
  holds_ite (hP.enterWakingSession (hP.setHostCause _ h)) (hP.setHostCause _ h)

end PenCarried

namespace WidelyCarried

variable {P : Part → Prop} {p : Part}

/-! ### The base link (sections 4.3 to 4.7) -/

theorem clearLinkFault (hP : WidelyCarried P) (h : P p) : P (clearLinkFault p) := by
  unfold Machine.clearLinkFault
  split
  · exact hP.clearFault _ h
  · exact hP.clearFault _ h
  · exact h

theorem enterPowering (hP : WidelyCarried P) (e : BaseEvent) (h : P p) : P (enterPowering e p) :=
  hP.offerBase _ (hP.enterLink _ (hP.reserve _ _ (hP.line _ _ rfl rfl (hP.clearLinkFault h))))

theorem enterStopped (hP : WidelyCarried P) (new : Link) (f : FaultName) (e : BaseEvent) (h : P p) :
    P (enterStopped new f e p) :=
  hP.offerBase _ (hP.raiseFault _ (hP.enterLink _ (hP.reserve _ _ (hP.line _ _ rfl rfl (hP.emptyQueue _ h)))))

theorem enterFault (hP : WidelyCarried P) (h : P p) : P (enterFault p) := hP.enterStopped _ _ _ h

theorem enterRefused (hP : WidelyCarried P) (h : P p) : P (enterRefused p) := hP.enterStopped _ _ _ h

theorem enterDetached (hP : WidelyCarried P) (h : P p) : P (enterDetached p) :=
  hP.offerBase _ (hP.enterLink _ (hP.reserve _ _ (hP.line _ _ rfl rfl (hP.emptyQueue _ (hP.clearLinkFault h)))))

theorem takeHello (hP : WidelyCarried P) (hello : Hello) (h : P p) : P (takeHello hello p) := by
  unfold Machine.takeHello
  dsimp only
  split
  · exact hP.offerBase _ (hP.enterLink _ (hP.reserve _ _ (hP.line p _ rfl rfl h)))
  · exact hP.enterRefused (hP.line p _ rfl rfl h)

theorem restartBase (hP : WidelyCarried P) (hello : Hello) (h : P p) : P (restartBase hello p) :=
  hP.takeHello _ (hP.offerBase _ (hP.line _ _ rfl rfl (hP.emptyQueue _ h)))

theorem helloFrame (hP : WidelyCarried P) (hello : Hello) (h : P p) : P (helloFrame hello p) := by
  unfold Machine.helloFrame
  split
  · exact hP.line p _ rfl rfl h
  · exact hP.takeHello _ h
  iterate 5 exact hP.restartBase _ h
  iterate 5 exact h

theorem statusFrame (hP : WidelyCarried P) (st : BaseStatus) (held : List Byte) (h : P p) :
    P (statusFrame st held p) := by
  have reserved := hP.reserve (statusReservation p.bl st.draw) _ (hP.line p { p.bl with status := some st } rfl rfl h)
  unfold Machine.statusFrame
  split
  · exact hP.answerStatus _ _ (holds_ite (hP.offerBase _ reserved) reserved)
  · exact h

theorem statusReception (hP : WidelyCarried P) (seq : BitVec 4) (st : BaseStatus) (held : List Byte) (h : P p) :
    P (statusReception seq st held p) :=
  holds_ite (hP.settle (hP.statusFrame _ _ (hP.seqCheck _ h))) (hP.countDiscard _ h)

theorem replyExpired (hP : WidelyCarried P) (h : P p) : P (replyExpired p) := by
  have ended := hP.endExchange (hP.line p { p.bl with noReply := bump p.bl.noReply 1 } rfl rfl h)
  exact holds_ite (hP.settle (hP.line p _ rfl rfl h))
    (hP.settle (hP.enterFault (holds_ite (hP.unansweredTold ended) ended)))

theorem activateExpired (hP : WidelyCarried P) (h : P p) : P (activateExpired p) := by
  unfold Machine.activateExpired
  dsimp only
  split
  · split
    · exact hP.settle (hP.takeHello _ (hP.enterLink _ (hP.line p _ rfl rfl h)))
    · exact hP.settle (hP.enterLink _ (hP.line p _ rfl rfl h))
  · exact hP.settle (hP.line p _ rfl rfl h)
  · exact hP.line p _ rfl rfl h

theorem helloExpired (hP : WidelyCarried P) (h : P p) : P (helloExpired p) :=
  holds_ite (hP.settle (hP.enterResetting h)) (hP.settle (hP.enterFault (hP.line p _ rfl rfl h)))

theorem presenceTold (hP : WidelyCarried P) (present : Bool) (h : P p) : P (presenceTold present p) :=
  holds_ite (holds_ite (hP.settle (hP.enterPowering _ h)) h) (holds_ite h (hP.settle (hP.enterDetached h)))

theorem retryBase (hP : WidelyCarried P) (r : Request) (h : P p) : P (retryBase r p) := by
  unfold Machine.retryBase
  split
  · exact hP.completeDone _ _ _ (hP.settle (hP.enterPowering _ h))
  · exact hP.completeDone _ _ _ (hP.settle (hP.enterPowering _ h))
  · exact hP.completeFailed _ _ h
  · exact hP.completeFailed _ _ h

/-! ### Requests of CC (R119, R134) -/

theorem penStop (hP : WidelyCarried P) (r : Request) (h : P p) : P (penStop r p) :=
  holds_ite (hP.completeFailed _ _ h) (hP.completeDone _ _ _ (hP.moment (hP.reactToCauses (hP.setHostCause _ h))))

theorem penResume (hP : WidelyCarried P) (r : Request) (h : P p) : P (penResume r p) := by
  have silent : P (resumeSilent p) := hP.enterWakingSession (hP.clearFault _ (hP.setHostCause _ h))
  exact holds_ite (hP.completeFailed _ _ h) (holds_ite (hP.completeDone _ _ _ (hP.moment silent))
    (holds_ite (hP.completeDone _ _ _ (hP.moment (hP.resumeHost h))) (hP.completeFailed _ _ h)))

theorem penClearLockout (hP : WidelyCarried P) (r : Request) (h : P p) : P (penClearLockout r p) := by
  have cleared : P (lockoutCleared p) := hP.enterWakingSession (hP.charge _ _ rfl rfl (hP.clearFault _ h))
  exact holds_ite (hP.completeFailed _ _ h)
    (holds_ite (hP.completeDone _ _ _ (hP.moment cleared)) (hP.completeFailed _ _ h))

theorem penBadArg (hP : WidelyCarried P) (r : Request) (h : P p) : P (penBadArg r p) := hP.completeFailed _ _ h

/-! ### The inputs (section 1.3) -/

theorem setInput (hP : WidelyCarried P) (k : Input) (x : InputState) (h : P p) : P (setInput k x p) := hP.inputs p _ h

theorem levelChanged (hP : WidelyCarried P) (k : Input) (level : Bool) (h : P p) : P (levelChanged k level p) := by
  refine hP.setInput _ _ ?_
  have set := hP.setInput k { p.inp.get k with level := level } h
  cases k
  · exact set
  · exact set
  · exact hP.rawPenh _ set
  · exact set

theorem debouncedChange (hP : WidelyCarried P) (k : Input) (active : Bool) (h : P p) : P (debouncedChange k active p) := by
  cases k
  · exact hP.lidTold _ (hP.evaluate _ h)
  · exact hP.evaluate _ h
  · exact hP.penTold _ (hP.debouncedPenh _ h)
  · exact hP.presenceTold _ h

theorem debounceExpired (hP : WidelyCarried P) (k : Input) (h : P p) : P (debounceExpired k p) :=
  hP.settle (hP.debouncedChange _ _ (hP.setInput _ _ h))

theorem rawChange (hP : WidelyCarried P) (k : Input) (active : Bool) (h : P p) : P (rawChange k active p) := by
  cases k
  · exact h
  · exact h
  · exact hP.rawPenh _ h
  · exact h

theorem inputSettings (hP : WidelyCarried P) (old : Settings) (k : Input) (h : P p) : P (inputSettings old k p) := by
  let active := filteredActive p.sl.inForce k (p.inp.get k).level
  let q := Machine.rawChange k active (Machine.setInput k { p.inp.get k with timer := none } p)
  have raw : P q := hP.rawChange k active (hP.setInput k _ h)
  have set := hP.setInput k { q.inp.get k with debounced := active } raw
  exact holds_ite h (holds_ite set (hP.debouncedChange _ _ set))

theorem inputsSettings (hP : WidelyCarried P) (old : Settings) (h : P p) : P (inputsSettings old p) :=
  hP.inputSettings _ _ (hP.inputSettings _ _ (hP.inputSettings _ _ (hP.inputSettings _ _ h)))

end WidelyCarried
end Sys2Proof.Machine

/-! What the blocks are told, carried through every command (O57): the advisor's rule, the host state, the budget, the reservation,
the posture and the suppression. -/

namespace Sys2Proof.Machine

/-! ### What blocks hold of one another -/

/-- The blocks hold what they were told, with the host state `h` in SA and `n` in NU, the budget `b`, the posture `x` told to SA and
the posture `y` told to OT (R44, R45, R76, R77, R122, R139); and, where `i` asks for it, the advisor watches while the host does not
run (8.1). -/
def Told (i : Prop) (h n : HostState) (b : Nat) (x y : Posture) (p : Part) : Prop :=
  (i → AdvisorInv p) ∧ (p.sa.hostState = h ∧ p.nu.hostState = n) ∧ (p.cc.budget = b ∧ p.cc.reservation = p.bl.reservation) ∧
  (p.sa.posture = x ∧ p.ot.posture = y) ∧ (p.kt.suppression = p.pc.suppression ∧ p.bl.quiet = p.pc.suppression)

/-- The blocks agree: they hold what they were told, and were told the published posture. -/
def Agreed (i : Prop) (h : HostState) (b : Nat) (p : Part) : Prop := Told i h h b p.pc.published p.pc.published p

variable {i : Prop} {h n : HostState} {b : Nat} {x y : Posture} {p q : Part}

/-- `Told` speaks of the fields named here alone. -/
theorem Told.congr (hp : Told i h n b x y p) (hsa : q.sa = p.sa) (hnu : q.nu.hostState = p.nu.hostState)
    (hcc : q.cc.budget = p.cc.budget ∧ q.cc.reservation = p.cc.reservation)
    (hbl : q.bl.quiet = p.bl.quiet ∧ q.bl.reservation = p.bl.reservation) (hot : q.ot.posture = p.ot.posture)
    (hkt : q.kt.suppression = p.kt.suppression) (hpc : q.pc.suppression = p.pc.suppression) : Told i h n b x y q := by
  simp only [Told, AdvisorInv, hsa, hnu, hcc, hbl, hot, hkt, hpc]
  exact hp

/-! ### Offers -/

theorem publish_suppression (c : Content) (n : Nat) (p : Part) : (publish c n p).kt.suppression = p.kt.suppression := by
  cases c <;> simp [publish, Kt.published]

theorem absorb_suppression (c : Content) (p : Part) : (absorb c p).kt.suppression = p.kt.suppression := by
  simp only [absorb]
  split
  · exact publish_suppression ..
  · rfl

theorem takeOffer_suppression (o : Offer) (p : Part) : (takeOffer o p).kt.suppression = p.kt.suppression := by
  cases o <;> exact absorb_suppression ..

theorem offer_suppression (o : Offer) (p : Part) : (offer o p).kt.suppression = p.kt.suppression := by
  simp only [offer]
  split
  · rfl
  · exact takeOffer_suppression ..

theorem Told.takeOffer (hp : Told i h n b x y p) (o : Offer) : Told i h n b x y (takeOffer o p) :=
  hp.congr (by simp) (by simp) (by simp) (by simp) (by simp) (takeOffer_suppression ..) (by simp)

theorem Told.offer (hp : Told i h n b x y p) (o : Offer) : Told i h n b x y (offer o p) :=
  hp.congr (by simp) (by simp) (by simp) (by simp) (by simp) (offer_suppression ..) (by simp)

/-- What the blocks hold of one another is carried through the advisor's events and the pen's session. -/
theorem told_penCarried (i : Prop) (h n : HostState) (b : Nat) (x y : Posture) : PenCarried (Told i h n b x y) where
  content _ _ hp := hp.offer _
  line _ _ hq hr hp := hp.congr rfl rfl ⟨rfl, rfl⟩ ⟨hq, hr⟩ rfl rfl rfl
  keys _ _ hk hp := hp.congr rfl rfl ⟨rfl, rfl⟩ ⟨rfl, rfl⟩ rfl hk rfl
  advisor p a hs ht _ hi hp := by
    obtain ⟨ha, hh, hb, hx, hk⟩ := hp
    exact ⟨fun hn => hi (ha hn), by rwa [hs], hb, by rwa [ht], hk⟩
  rotation _ _ ho hp := hp.congr rfl rfl ⟨rfl, rfl⟩ ⟨rfl, rfl⟩ ho rfl rfl
  faults _ _ _ hp := hp.offer _
  charge _ _ hb hr hp := hp.congr rfl rfl ⟨hb, hr⟩ ⟨rfl, rfl⟩ rfl rfl rfl
  penLink _ _ hp := hp.congr rfl rfl ⟨rfl, rfl⟩ ⟨rfl, rfl⟩ rfl rfl rfl

/-! ### What PC decides -/

theorem quietChanged_quiet (on : Bool) (p : Part) : (quietChanged on p).bl.quiet = on := rfl

theorem suppressionTold_suppression (on : Bool) (p : Part) : (suppressionTold on p).kt.suppression = on := by
  cases on
  · rfl
  · simp only [suppressionTold, if_true, offerIfQueued]
    split
    · exact offer_suppression ..
    · rfl

theorem suppressionTold_hostState (on : Bool) (p : Part) : (suppressionTold on p).nu.hostState = p.nu.hostState := by
  cases on
  · rfl
  · simp only [suppressionTold, if_true, offerIfQueued]
    split
    · simp [offerKeys]
    · rfl

/-- A change of suppression tells KT and BL (R44, R77). -/
theorem Told.suppress (hp : Told i h n b x y p) (on : Bool) :
    Told i h n b x y (quietChanged on (suppressionTold on { p with pc := { p.pc with suppression := on } })) := by
  obtain ⟨ha, hs, hc, hx, -⟩ := hp
  refine ⟨?_, ?_⟩
  · simpa only [AdvisorInv, quietChanged_frame, suppressionTold_frame] using ha
  · simp [suppressionTold_suppression, suppressionTold_hostState, quietChanged_quiet, hs, hc, hx]

theorem Told.decideSuppression (hp : Told i h n b x y p) : Told i h n b x y (decideSuppression p) :=
  holds_ite hp (hp.suppress _)

theorem decideSuppression_pc (p : Part) :
    (decideSuppression p).pc.published = p.pc.published ∧ (decideSuppression p).pc.stored = p.pc.stored := by
  simp only [decideSuppression]
  split <;> simp

/-- OT is told of a posture publication (R45). -/
theorem Told.orientationTold (hp : Told i h n b x y p) (q : Posture) : Told i h n b x q (orientationTold q p) := by
  obtain ⟨ha, hs, hc, ⟨hx, -⟩, hk⟩ := hp
  exact (told_penCarried i h n b x q).rehold ⟨ha, hs, hc, ⟨hx, rfl⟩, hk⟩

/-- SA is told of a posture publication (R45). -/
theorem Told.postureTold (hp : Told i h n b x y p) (q : Posture) : Told i h n b q y (postureTold q p) := by
  have told : Told i h n b q y { p with sa := { p.sa with posture := q } } := by
    obtain ⟨ha, hs, hc, ⟨-, hy⟩, hk⟩ := hp
    exact ⟨ha, hs, hc, ⟨rfl, hy⟩, hk⟩
  unfold Machine.postureTold
  dsimp only
  split
  · exact (told_penCarried i h n b q y).postureRunning q ‹_› told
  · exact holds_ite ((told_penCarried i h n b q y).wakeCause _ told) told

theorem Told.tellPosture (hp : Told i h n b x y p) : Told i h n b p.pc.published p.pc.published (tellPosture p) := by
  have told := (hp.orientationTold p.pc.published).postureTold p.pc.published
  exact holds_ite ((told_penCarried ..).orderTarget _ told) told

theorem offerPosture_published (p : Part) : (offerPosture p).pc.published = p.pc.published := by simp [offerPosture]

theorem handOn_published (before : Posture) (p : Part) : (handOn before p).pc.published = p.pc.published := by
  simp only [handOn]
  (repeat' split) <;> simp [offerPosture_published]

/-- Blocks that hold the posture published before hold the one published after step 6 (R45). -/
theorem Told.handOn {before : Posture} (hp : Told i h h b before before p) : Agreed i h b (handOn before p) := by
  have told : Told i h h b p.pc.published p.pc.published (if p.pc.published = before then p else Machine.tellPosture p) := by
    split
    · next he => rwa [he]
    · exact hp.tellPosture
  unfold Agreed
  rw [handOn_published]
  refine holds_ite told (Told.offer ?_ _)
  exact told.congr rfl rfl ⟨rfl, rfl⟩ ⟨rfl, rfl⟩ rfl rfl rfl

theorem classify_told (s : Settings) (l : Link) (c d : Bool) (k : Pc) :
    (k.classify s l c d).suppression = k.suppression ∧ (k.classify s l c d).published = k.published ∧
    (k.classify s l c d).stored = k.stored := by
  simp [Pc.classify]

theorem dwellStep_told (now : Time) (d : Nat) (before : Posture) (k : Pc) :
    (k.dwellStep now d before).suppression = k.suppression ∧ (k.dwellStep now d before).stored = k.stored := by
  simp only [Pc.dwellStep]
  (repeat' split) <;> exact ⟨rfl, rfl⟩

theorem Agreed.evaluatePosture (hp : Agreed i h b p) : Agreed i h b (evaluatePosture p) := by
  refine Told.handOn (Told.decideSuppression (hp.congr rfl rfl ⟨rfl, rfl⟩ ⟨rfl, rfl⟩ rfl rfl ?_))
  simp [dwellStep_told, classify_told]

theorem Agreed.postureExpired (hp : Agreed i h b p) : Agreed i h b (postureExpired p) :=
  Told.handOn (Told.decideSuppression (hp.congr rfl rfl ⟨rfl, rfl⟩ ⟨rfl, rfl⟩ rfl rfl rfl))

/-- A new reservation reaches CC (R76). -/
theorem Agreed.setReservation (hp : Agreed i h b p) (r : Nat) : Agreed i h b (setReservation r p) := by
  unfold Machine.setReservation
  split
  · exact hp
  · have kept : (chargeReservation r { p with bl := { p.bl with reservation := r } }).pc = p.pc := by simp
    obtain ⟨ha, hs, ⟨hb, -⟩, hx, hk⟩ := hp
    unfold Agreed
    rw [kept]
    exact (told_penCarried ..).moment ((told_penCarried ..).relimit _ ⟨ha, hs, ⟨hb, rfl⟩, hx, hk⟩)

/-- What the blocks hold of one another is carried through every change that a command makes of them. -/
theorem agreed_carried (i : Prop) (h : HostState) (b : Nat) : WidelyCarried (Agreed i h b) where
  content _ _ hp := by simpa only [Agreed, offer_frame] using Told.offer hp _
  line p b hq hr hp := (told_penCarried ..).line p b hq hr hp
  keys p k hk hp := (told_penCarried ..).keys p k hk hp
  advisor p a hs ht hv hi hp := (told_penCarried ..).advisor p a hs ht hv hi hp
  rotation p o ho hp := (told_penCarried ..).rotation p o ho hp
  walker _ _ hp := hp
  queues _ _ hp := hp
  port _ _ hp := hp
  evaluate _ hp := hp.evaluatePosture
  expired _ hp := hp.postureExpired
  faults _ _ _ hp := by simpa only [Agreed, offer_frame] using Told.offer hp _
  charge p c hb hr hp := (told_penCarried ..).charge p c hb hr hp
  penLink _ _ hp := hp
  reserve _ _ hp := hp.setReservation _
  inputs _ _ hp := hp

end Sys2Proof.Machine

/-! Every command keeps the blocks agreed on what they are told, PART_STATE as R5 says, and the reset values during a full reset
(O57). -/

namespace Sys2Proof.Machine

variable {p q : Part}

/-! ### Agreed, outside a full reset -/

/-- No full reset is in force, the blocks agree, and PART_STATE is as R5 says. -/
def Settled (p : Part) : Prop := p.resetLow = false ∧ AdvisorInv p ∧ AgreeInv p ∧ PartStateInv p

theorem Settled.agreed (hp : Settled p) : Agreed True p.sa.hostState (budgetOf p.sl.inForce p.sa.hostState) p := by
  obtain ⟨-, ha, ⟨hx, hy, hk, hq, hr, hn, hb, -⟩, -⟩ := hp
  exact ⟨fun _ => ha, ⟨rfl, hn⟩, ⟨hb, hr⟩, ⟨hx, hy⟩, hk, hq⟩

/-- Blocks that agree, with the budget and the rate of the host state, are settled. -/
theorem Agreed.settled {h : HostState} (hp : Agreed True h (budgetOf p.sl.inForce h) p) (hlow : p.resetLow = false)
    (hrate : p.sp.rate = rateOf h) (hps : PartStateInv p) : Settled p := by
  obtain ⟨ha, ⟨rfl, hn⟩, ⟨hb, hr⟩, ⟨hx, hy⟩, hk, hq⟩ := hp
  exact ⟨hlow, ha trivial, ⟨hx, hy, hk, hq, hr, hn, hb, hrate⟩, hps⟩

/-- What keeps the blocks agreed, and leaves the reset line, the reset's work, PART_STATE, SP and the settings in force, keeps them
settled. -/
theorem Settled.carry (hp : Settled p) (ha : ∀ {h b}, Agreed True h b p → Agreed True h b q)
    (hf : q.resetLow = p.resetLow ∧ q.resetWork = p.resetWork ∧ q.partState = p.partState ∧ q.sp = p.sp ∧
      q.sl.inForce = p.sl.inForce) : Settled q := by
  obtain ⟨hlow, hwork, hps, hsp, hset⟩ := hf
  refine Agreed.settled (h := p.sa.hostState) ?_ (hlow.trans hp.1) ?_ ?_
  · rw [hset]
    exact ha hp.agreed
  · obtain ⟨-, -, ⟨-, -, -, -, -, -, -, hrate⟩, -⟩ := hp
    rw [hsp, hrate]
  · obtain ⟨-, -, -, hpart⟩ := hp
    simpa only [PartStateInv, hwork, hps, hsp] using hpart

/-- A command that acts behind a test keeps what its action keeps. -/
theorem completes_gate {c : Prop} [Decidable c] {s t : State} {P : State → Prop} (ht : c → P t) (hs : P s) :
    ∃ u, (if c then Host.Outcome.next t else .next s : Answer) = .next u ∧ P u := by
  split
  · exact ⟨t, rfl, ht ‹_›⟩
  · exact ⟨s, rfl, hs⟩

/-! ### The notice unit and the host port -/

variable {i : Prop} {h n : HostState} {b : Nat} {x y : Posture}

theorem Agreed.congr_nu (hp : Agreed i h b p) (hf : q.sa = p.sa ∧ q.cc = p.cc ∧ q.bl = p.bl ∧ q.ot = p.ot ∧ q.pc = p.pc)
    (hnu : q.nu.hostState = p.nu.hostState) (hkt : q.kt.suppression = p.kt.suppression) : Agreed i h b q := by
  obtain ⟨hsa, hcc, hbl, hot, hpc⟩ := hf
  unfold Agreed
  rw [hpc]
  exact Told.congr hp hsa hnu (by simp [hcc]) (by simp [hbl]) (by rw [hot]) hkt (by rw [hpc])

theorem Settled.serve (hp : Settled p) (c : NoticeClass) : Settled (serve c p) :=
  hp.carry (fun ha => ha.congr_nu (by simp) (by simp [Machine.serve]) (by simp)) (by simp)

theorem Settled.takeClass (hp : Settled p) (w : Word) : Settled (takeClass w p) := by
  unfold Machine.takeClass
  split
  · exact holds_ite (hp.serve _) hp
  · exact hp

theorem Settled.endServiceOf (hp : Settled p) (w : Word) : Settled (endServiceOf w p) := by
  have released (c : NoticeClass) : Settled (releaseClass c p) := by
    refine hp.carry (fun ha => ha.congr_nu (by simp) ?_ ?_) (by simp) <;> simp only [releaseClass] <;> split
    · simp
    · simp
    · rw [publish_suppression]; simp
    · simp
  unfold Machine.endServiceOf
  split
  · exact holds_ite (released _) hp
  · exact hp

theorem Settled.claim (hp : Settled p) : Settled (claim p).2 := by
  unfold Machine.claim
  split
  · exact hp.serve _
  · exact hp

theorem Settled.publicationEnded (hp : Settled p) (c : NoticeClass) : Settled (publicationEnded c p) := by
  refine hp.carry (fun ha => ha.congr_nu (by simp) ?_ (by simp)) (by simp)
  simp only [Machine.publicationEnded]
  split <;> simp [pulseWake]

theorem Settled.wakeRepeated (hp : Settled p) : Settled (wakeRepeated p) := by
  refine hp.carry (fun ha => ha.congr_nu (by simp) ?_ (by simp)) (by simp)
  simp only [Machine.wakeRepeated]
  split <;> simp [pulseWake]

variable {s : State}

theorem settled_noteAccess (o : Access) (next : Nat) (hs : Settled s.part) : Settled (noteAccess o next s).part := by
  simp only [noteAccess, State.on_part]
  split <;> exact hs

theorem settled_readWord (a : Nat) (hs : Settled s.part) : Settled (readWord a s).part := by
  have fetched : Settled (fetch a s).2.part := by
    unfold fetch
    split
    · exact hs.claim
    · exact hs
  unfold readWord
  dsimp only
  split
  · exact settled_noteAccess _ _ fetched
  · exact settled_noteAccess _ _ hs
  · exact settled_noteAccess _ _ hs
  · exact settled_noteAccess _ _ hs

theorem settled_writeAttention (w : Word) (hs : Settled s.part) : Settled (writeAttention w s).part := by
  have examined (n : Nat) {s : State} (hs : Settled s.part) : Settled (examineBit n s).part := by
    unfold examineBit
    split
    · dsimp only
      split <;> exact hs
    · exact hs
  unfold writeAttention
  dsimp only
  split
  · exact hs
  · simp only [examineAll, List.foldl]
    iterate 8 refine examined _ ?_
    exact hs

theorem settled_carryOut (a : Nat) (w : Word) (hs : Settled s.part) : Settled (carryOut a w s).part := by
  unfold carryOut
  split
  · exact settled_writeAttention w hs
  · exact hs.takeClass w
  · exact hs.endServiceOf w
  · exact hs

theorem settled_writeWord (a : Nat) (w : Word) (hs : Settled s.part) : Settled (writeWord a w s).part := by
  unfold writeWord
  dsimp only
  split
  · exact settled_noteAccess _ _ (settled_carryOut a w hs)
  · exact settled_noteAccess _ _ hs
  · exact settled_noteAccess _ _ hs
  · exact settled_noteAccess _ _ hs

theorem settled_updateWord (a : Nat) (e w : Word) (hs : Settled s.part) : Settled (updateWord a e w s).part := by
  unfold updateWord
  dsimp only
  split
  · refine settled_noteAccess _ _ ?_
    show Settled (if peek s a = e then carryOut a w s else s).part
    split
    · exact settled_carryOut a w hs
    · exact hs
  · exact settled_noteAccess _ _ hs
  · exact settled_noteAccess _ _ hs
  · exact settled_noteAccess _ _ hs

/-- The port's own changes leave everything that the blocks are told. -/
theorem Settled.port (hp : Settled p) (hq : q = { p with hp := q.hp }) : Settled q := by
  rw [hq]
  exact hp

theorem openTrans_eq (k : TransKind) (a : Nat) (p : Part) : openTrans k a p = { p with hp := (openTrans k a p).hp } := by
  simp only [openTrans, beginTrans, endTrans]
  (repeat' split) <;> rfl

theorem openUpdate_eq (e : Word) (a : Nat) (p : Part) : openUpdate e a p = { p with hp := (openUpdate e a p).hp } := by
  simp only [openUpdate, beginTrans, endTrans]
  (repeat' split) <;> rfl

theorem beginTrans_eq (k : TransKind) (a : Nat) (p : Part) : beginTrans k a p = { p with hp := (beginTrans k a p).hp } := by
  simp only [beginTrans, endTrans]
  split <;> rfl

theorem hostTransEnd_eq (p : Part) : hostTransEnd p = { p with hp := (hostTransEnd p).hp } := by
  simp only [hostTransEnd, endTrans]
  (repeat' split) <;> rfl

theorem settled_hostRead (a n : Nat) (hs : Settled s.part) : Settled (hostRead a n s).part := by
  have reads (n a : Nat) {s : State} (hs : Settled s.part) : Settled (readWords a n s).part := by
    induction n generalizing a s with
    | zero => exact hs
    | succ n ih => exact ih (a + 1) (settled_readWord a hs)
  unfold hostRead
  split
  · exact reads _ _ (hs.port (openTrans_eq ..))
  · exact hs

theorem settled_hostWrite (a : Nat) (ws : List Word) (hs : Settled s.part) : Settled (hostWrite a ws s).part := by
  have writes (ws : List Word) (a : Nat) {s : State} (hs : Settled s.part) : Settled (writeWords a ws s).part := by
    induction ws generalizing a s with
    | nil => exact hs
    | cons w ws ih => exact ih (a + 1) (settled_writeWord a w hs)
  unfold hostWrite
  split
  · exact writes _ _ (hs.port (openTrans_eq ..))
  · exact hs

theorem settled_hostUpdate (a : Nat) (e : Word) (w : Option Word) (hs : Settled s.part) :
    Settled (hostUpdate a e w s).part := by
  unfold hostUpdate
  split
  · split
    · exact settled_updateWord _ _ _ (hs.port (openUpdate_eq ..))
    · exact hs.port (beginTrans_eq ..)
  · exact hs

theorem settled_hostPortRead (index : Byte) (hs : Settled s.part) : Settled (hostPortRead index s).part := by
  have begun : Settled (s.on (beginTrans .other 0)).part := hs.port (beginTrans_eq ..)
  unfold hostPortRead
  dsimp only
  split
  · split
    · exact begun
    · split
      · exact begun
      · exact settled_noteAccess _ _ begun
  · exact hs

theorem settled_hostUnknown (byte : Byte) (hs : Settled s.part) : Settled (hostUnknown byte s).part := by
  have begun : Settled (s.on (beginTrans .other 0)).part := hs.port (beginTrans_eq ..)
  unfold hostUnknown
  dsimp only
  split
  · split
    · exact begun
    · exact settled_noteAccess _ _ begun
  · exact hs

end Sys2Proof.Machine

/-! The sensor port's outcomes: SP and PART_STATE after each, and the agreement of the blocks carried through them (O57). -/

namespace Sys2Proof.Machine

variable {p q : Part} {s : State}

/-! ### The sensor port (chapter 1) -/

theorem Agreed.loseAngle {i : Prop} {h : HostState} {b : Nat} (hp : Agreed i h b p) (why : Reason) :
    Agreed i h b (loseAngle why p) :=
  holds_ite hp ((agreed_carried i h b).deliver none hp)

/-- SP after a SENSOR_FAULT is raised (R10). -/
theorem raiseSensorFault_sp (due : Time) (p : Part) :
    (raiseSensorFault due p).sp =
      { p.sp with health := .faulted, failureRun := 0, goodRun := 0, nextDue := p.sp.rate.due (later due 1000) } := by
  simp [raiseSensorFault]

/-- PART_STATE leaves READY when a SENSOR_FAULT is raised (R10). -/
theorem raiseSensorFault_partState (due : Time) (p : Part) :
    (raiseSensorFault due p).partState = if p.partState = .ready then .degraded else p.partState := by
  simp [raiseSensorFault]

theorem clearSensorFault_sp (due : Time) (p : Part) :
    (clearSensorFault due p).sp =
      { p.sp with
        health := .healthy, failureRun := 0, goodRun := 0, fresh := true, lastDue := p.sp.rate.due due
        nextDue := p.sp.rate.due (later due p.sp.rate.period) } := by
  simp [clearSensorFault]

theorem clearSensorFault_partState (due : Time) (p : Part) :
    (clearSensorFault due p).partState = if p.partState = .degraded then .ready else p.partState := by
  simp [clearSensorFault]

theorem leaveStarting_partState (p : Part) :
    (leaveStarting p).partState =
      if p.partState = .starting ∧ p.sp.health ≠ .configuring ∧ p.resetWork = none then
        (if p.sp.health = .faulted then .degraded else .ready)
      else p.partState := by
  simp only [leaveStarting]
  split <;> rfl

/-- SP after a configuration step (R4, R10). -/
theorem configEnded_sp (start : Time) (ok : Bool) (p : Part) :
    (configEnded start ok p).sp =
      if ok then
        { p.sp with flight := .none, health := .healthy, failureRun := 0, nextDue := p.sp.rate.due p.tb }
      else
        { p.sp with
          flight := .none, health := .faulted, failureRun := 0, goodRun := 0
          nextDue := p.sp.rate.due (later start 1000) } := by
  cases ok <;> simp [configEnded, raiseSensorFault_sp]

/-- PART_STATE after a configuration step (R5, R10). -/
theorem configEnded_partState (start : Time) (ok : Bool) (p : Part) :
    (configEnded start ok p).partState =
      if ok then (if p.partState = .starting ∧ p.resetWork = none then .ready else p.partState)
      else if p.partState = .ready ∨ (p.partState = .starting ∧ p.resetWork = none) then .degraded else p.partState := by
  cases ok with
  | true => simp [configEnded, leaveStarting_partState]
  | false =>
    simp only [configEnded, leaveStarting_partState, Bool.false_eq_true, if_false, raiseSensorFault_partState,
      raiseSensorFault_sp]
    cases p.partState <;> simp

theorem Agreed.raiseSensorFault {i : Prop} {h : HostState} {b : Nat} (hp : Agreed i h b p) (due : Time) :
    Agreed i h b (raiseSensorFault due p) :=
  (agreed_carried i h b).settle (Agreed.loseAngle ((agreed_carried i h b).raiseFault (p := { p with
    sp := { p.sp with
      health := .faulted, failureRun := 0, goodRun := 0, nextDue := p.sp.rate.due (later due 1000) }
    partState := if p.partState = .ready then .degraded else p.partState }) _ hp) _)

theorem Agreed.configEnded {i : Prop} {h : HostState} {b : Nat} (hp : Agreed i h b p) (start : Time) (ok : Bool) :
    Agreed i h b (configEnded start ok p) := by
  have left {q : Part} (hq : Agreed i h b q) : Agreed i h b (leaveStarting q) := holds_ite hq hq
  exact left (holds_ite hp (Agreed.raiseSensorFault (p := { p with sp := { p.sp with flight := .none } }) hp start))

/-- A new flight that fits the health keeps the blocks settled. -/
theorem Settled.fly (hp : Settled p) {sp : Sp} (hh : sp.health = p.sp.health) (hr : sp.rate = p.sp.rate)
    (hf : sp.flight = p.sp.flight ∨ sp.flight = .none ∨ (∃ d, sp.flight = .sample d ∧ p.sp.health = .healthy) ∨
      ∃ d, sp.flight = .attempt d ∧ p.sp.health = .faulted) : Settled { p with sp := sp } := by
  obtain ⟨hlow, ha, ⟨hx, hy, hk, hq, hc, hn, hb, hrate⟩, hcfg, hsmp, hatt, hrest⟩ := hp
  refine ⟨hlow, ha, ⟨hx, hy, hk, hq, hc, hn, hb, hr.trans hrate⟩, ?_⟩
  obtain hf | hf | ⟨d, hf, hd⟩ | ⟨d, hf, hd⟩ := hf <;> simp_all [PartStateInv]

theorem Settled.sampleDue (hp : Settled p) {d : Time} (hd : sampleDueNow p = some d) :
    Settled { p with sp := sampleDue d p.sp } := by
  have healthy : p.sp.health = .healthy := by
    unfold sampleDueNow at hd
    split at hd <;> simp_all
  refine hp.fly ?_ ?_ ?_ <;> simp only [Machine.sampleDue, dueComes] <;> split <;> simp_all

theorem Settled.faultAttemptDue (hp : Settled p) {d : Time} (hd : attemptDueNow p = some d) :
    Settled { p with sp := dueComes d 1000 (.attempt d) p.sp } := by
  have faulted : p.sp.health = .faulted := by
    unfold attemptDueNow at hd
    split at hd <;> simp_all
  refine hp.fly ?_ ?_ ?_ <;> simp only [dueComes] <;> split <;> simp_all

theorem Settled.configEnded (hp : Settled p) {start : Time} (hf : p.sp.flight = .config start) (ok : Bool) :
    Settled (configEnded start ok p) := by
  obtain ⟨hlow, -, ⟨-, -, -, -, -, -, -, hrate⟩, hcfg, -, -, hstart, -⟩ := id hp
  have starting := hstart (.inr (hcfg start hf))
  refine Agreed.settled (h := p.sa.hostState) ?_ ?_ ?_ ?_
  · simpa using hp.agreed.configEnded start ok
  · simpa using hlow
  · rw [configEnded_sp]
    cases ok <;> exact hrate
  · simp only [PartStateInv, configEnded_sp, configEnded_partState, configEnded_frame, starting]
    cases ok <;> simp

/-- A sample that arrives in flight: SP was HEALTHY (R6). -/
theorem Settled.sampleEnded (hp : Settled p) {due : Time} (hf : p.sp.flight = .sample due) (v : Option Reading) :
    Settled (sampleEnded due v p) := by
  obtain ⟨hlow, -, ⟨-, -, -, -, -, -, -, hrate⟩, -, hsmp, -, hstart, hready, -⟩ := id hp
  have healthy := hsmp due hf
  cases v with
  | some v =>
    have told : Settled { p with sp := { p.sp with flight := .none, failureRun := 0, fresh := false } } :=
      hp.fly rfl rfl (.inr (.inl rfl))
    refine told.carry (fun ha => ?_) (by simp [Machine.sampleEnded, deliverSample])
    have delivered : Agreed True _ _ (lidSampleAngle v { p with sp := { p.sp with
        flight := .none, failureRun := 0, fresh := false } }) := (agreed_carried ..).deliver _ ha
    exact (agreed_carried ..).settle ((agreed_carried ..).lidSampleTold _ _ _ _ delivered)
  | none =>
    by_cases h3 : 3 ≤ p.sp.failureRun + 1
    · have failed : Machine.sampleEnded due none p =
          Machine.raiseSensorFault due { p with sp := { p.sp with flight := .none } } := by
        simp [Machine.sampleEnded, sampleFailed, h3]
      rw [failed]
      refine Agreed.settled (h := p.sa.hostState) ?_ ?_ ?_ ?_
      · simpa using Agreed.raiseSensorFault (p := { p with sp := { p.sp with flight := .none } }) hp.agreed due
      · simpa using hlow
      · simpa [raiseSensorFault_sp] using hrate
      · simp only [PartStateInv, raiseSensorFault_sp, raiseSensorFault_partState, raiseSensorFault_frame]
        cases hw : p.resetWork <;> simp_all
    · have counted : Machine.sampleEnded due none p =
          { p with sp := { p.sp with flight := .none, failureRun := p.sp.failureRun + 1 } } := by
        simp [Machine.sampleEnded, sampleFailed, h3]
      rw [counted]
      exact hp.fly rfl rfl (.inr (.inl rfl))

/-- A FAULTED attempt that ends in flight: SP was FAULTED (R11). -/
theorem Settled.attemptEnded (hp : Settled p) {due : Time} (hf : p.sp.flight = .attempt due) (good : Bool) :
    Settled (attemptEnded due good p) := by
  obtain ⟨hlow, -, ⟨-, -, -, -, -, -, -, hrate⟩, -, -, hatt, hstart, -, hdegraded⟩ := id hp
  have faulted := hatt due hf
  have landed (n : Nat) : Settled { p with sp := { p.sp with flight := .none, goodRun := n } } :=
    hp.fly rfl rfl (.inr (.inl rfl))
  refine holds_ite (holds_ite ?_ (landed _)) (landed 0)
  refine Agreed.settled (h := p.sa.hostState) ?_ ?_ ?_ ?_
  · have cleared := (agreed_carried True p.sa.hostState (budgetOf p.sl.inForce p.sa.hostState)).clearFault
      (p := { p with
        sp := { p.sp with
          flight := .none, health := .healthy, failureRun := 0, goodRun := 0, fresh := true
          lastDue := p.sp.rate.due due, nextDue := p.sp.rate.due (later due p.sp.rate.period) }
        partState := if p.partState = .degraded then .ready else p.partState }) .sensorFault hp.agreed
    simpa [clearSensorFault] using cleared
  · simpa using hlow
  · simpa [clearSensorFault_sp] using hrate
  · simp only [PartStateInv, clearSensorFault_sp, clearSensorFault_partState, clearSensorFault_frame]
    cases hw : p.resetWork <;> simp_all

end Sys2Proof.Machine

/-! A change of host state, new settings and the resets: what they set, and the agreement of the blocks carried through them (O57). -/

namespace Sys2Proof.Machine

variable {p q : Part} {s : State} {i : Prop} {h n : HostState} {b : Nat} {x y : Posture}

/-! ### The host state (R122, R139) -/

theorem Told.chargeHostState (hp : Told i h n b x y p) (k : HostState) :
    Told i h n (budgetOf p.sl.inForce k) x y (chargeHostState k p) := by
  unfold Machine.chargeHostState
  dsimp only
  split
  · next he =>
    obtain ⟨ha, hs, ⟨rfl, hr⟩, hx⟩ := hp
    rw [he]
    exact ⟨ha, hs, ⟨rfl, hr⟩, hx⟩
  · obtain ⟨ha, hs, ⟨-, hr⟩, hx⟩ := hp
    exact (told_penCarried ..).moment ((told_penCarried ..).relimit _ ⟨ha, hs, ⟨rfl, hr⟩, hx⟩)

theorem nuHostState_hostState (k : HostState) (p : Part) : (nuHostState k p).nu.hostState = k := rfl

theorem Told.nuHostState (hp : Told i h n b x y p) (k : HostState) : Told i h k b x y (nuHostState k p) := by
  obtain ⟨ha, ⟨hs, -⟩, hc, hx, hk⟩ := hp
  exact ⟨ha, ⟨hs, nuHostState_hostState ..⟩, hc, hx, hk⟩

/-- SA where the host comes to run (R139). -/
theorem advisorHostState_running (p : Part) :
    (advisorHostState .running p).sa =
      { p.sa with
        dimmed := false
        advisor := if p.sa.posture = .closed ∧ closeSleeps p.sl.inForce = true then .closePending else .active
        grace := if p.sa.posture = .closed ∧ closeSleeps p.sl.inForce = true
          then some ⟨p.tb, p.sl.inForce.closeGrace⟩ else none
        inactivity := if p.sl.inForce.inactivityTime = 0 ∨ p.sl.inForce.keepAwake = true then none
          else some ⟨p.tb, p.sl.inForce.inactivityTime * 1000⟩ } := by
  by_cases hc : p.sa.posture = .closed ∧ closeSleeps p.sl.inForce = true
  · simp only [advisorHostState, if_pos hc]
    rfl
  · simp only [advisorHostState, if_neg hc]
    rfl

/-- SA where the host comes not to run (R139). -/
theorem advisorHostState_notRunning {k : HostState} (hk : k ≠ .running) (p : Part) :
    (advisorHostState k p).sa = { p.sa with advisor := .watching, inactivity := none, grace := none } := by
  cases k
  · exact absurd rfl hk
  · rfl
  · rfl

/-- SA's own part of a change of host state makes the advisor that of the new one (R139). -/
theorem Agreed.advisorHostState (hp : Agreed False h b p) : Agreed True h b (advisorHostState h p) := by
  obtain ⟨-, ⟨hs, hn⟩, hc, ⟨hx, hy⟩, hk⟩ := hp
  have told (ha : AdvisorInv (Machine.advisorHostState h p))
      (hh : (Machine.advisorHostState h p).sa.hostState = p.sa.hostState)
      (hx' : (Machine.advisorHostState h p).sa.posture = p.sa.posture) : Agreed True h b (Machine.advisorHostState h p) :=
    ⟨fun _ => ha, ⟨hh.trans hs, by simpa using hn⟩, by simpa using hc, ⟨by simpa [hx'] using hx, by simpa using hy⟩,
      by simpa using hk⟩
  by_cases hr : h = .running
  · subst hr
    refine told ?_ ?_ ?_ <;> simp only [AdvisorInv, advisorHostState_running]
    rw [hs]
    split <;> simp
  · refine told ?_ ?_ ?_ <;> simp only [AdvisorInv, advisorHostState_notRunning hr]
    simpa [hs] using hr

theorem Agreed.changeHostState (hp : Agreed True h b p) (k : HostState) :
    Agreed True k (budgetOf p.sl.inForce k) (changeHostState k p) := by
  have kept : (Machine.nuHostState k (Machine.chargeHostState k { p with
      sa := { p.sa with hostState := k }, sp := sensorHostState k p.tb p.sp })).pc = p.pc := by simp
  obtain ⟨-, ⟨-, hn⟩, hc, hx, hk⟩ := hp
  have told : Told False k h b p.pc.published p.pc.published { p with
      sa := { p.sa with hostState := k }, sp := sensorHostState k p.tb p.sp } :=
    ⟨False.elim, ⟨rfl, hn⟩, hc, hx, hk⟩
  refine Agreed.advisorHostState ((agreed_carried ..).modeOrder _ ?_)
  unfold Agreed
  rw [kept]
  exact (told.chargeHostState k).nuHostState k

theorem sensorHostState_kept (k : HostState) (now : Time) (sp : Sp) :
    (sensorHostState k now sp).health = sp.health ∧ (sensorHostState k now sp).flight = sp.flight ∧
    (sensorHostState k now sp).rate = rateOf k := by
  simp only [sensorHostState]
  split <;> simp

theorem changeHostState_sp (k : HostState) (p : Part) : (changeHostState k p).sp = sensorHostState k p.tb p.sp := by
  simp [changeHostState]

theorem Settled.changeHostState (hp : Settled p) (k : HostState) : Settled (changeHostState k p) := by
  have agreed := hp.agreed.changeHostState k
  obtain ⟨hhealth, hflight, hrate⟩ := sensorHostState_kept k p.tb p.sp
  obtain ⟨hlow, -, -, hps⟩ := hp
  refine Agreed.settled (h := k) ?_ ?_ ?_ ?_
  · simpa using agreed
  · simpa using hlow
  · rw [changeHostState_sp, hrate]
  · simpa only [PartStateInv, changeHostState_sp, changeHostState_frame, hhealth, hflight] using hps

theorem Settled.complete (hp : Settled p) (c : Completion) : Settled (complete c p) :=
  hp.carry (fun ha => (agreed_carried ..).complete _ ha) (by simp)

/-! ### The settings (R172) -/

theorem budgetOf_eq_of_unchanged {old s : Settings} {k : HostState} (hc : chargeSettingsChanged old s k = false) :
    budgetOf old k = budgetOf s k := by
  simp only [chargeSettingsChanged, Bool.or_eq_false_iff, bne_eq_false_iff_eq] at hc
  exact hc.1.1.1.1

/-- CC acts on new settings (R129): its budget is that of the new ones. -/
theorem Agreed.chargeSettings {old : Settings} (hp : Agreed i h (budgetOf old h) p) :
    Agreed i h (budgetOf p.sl.inForce h) (chargeSettings old h p) := by
  unfold Machine.chargeSettings
  dsimp only
  split
  · have budgeted : Agreed i h (budgetOf p.sl.inForce h) { p with cc := { p.cc with budget := budgetOf p.sl.inForce h } } := by
      obtain ⟨ha, hs, ⟨-, hr⟩, hx⟩ := hp
      exact ⟨ha, hs, ⟨rfl, hr⟩, hx⟩
    have thermal {q : Part} (hq : Agreed i h (budgetOf p.sl.inForce h) q) :
        Agreed i h (budgetOf p.sl.inForce h) (rethermal p.sl.inForce q) := by
      unfold rethermal
      split
      · exact hq
      · exact (agreed_carried ..).charge _ _ rfl rfl hq
    exact (agreed_carried ..).moment ((agreed_carried ..).relimit _ (holds_ite (thermal budgeted) budgeted))
  · next hc =>
    rw [← budgetOf_eq_of_unchanged (by simpa using hc)]
    exact hp

theorem nuSettings_hostState (old : Settings) (p : Part) : (nuSettings old p).nu.hostState = p.nu.hostState := by
  simp only [nuSettings, judge_nu]
  split <;> rfl

theorem bringIntoForce_sl (new : Settings) (p : Part) : (bringIntoForce new p).sl = { p.sl with inForce := new } := by
  simp [bringIntoForce]

/-- New settings come into force, and the blocks agree under them (R172). -/
theorem Agreed.bringIntoForce (hp : Agreed True h (budgetOf p.sl.inForce h) p) (new : Settings) :
    Agreed True h (budgetOf new h) (bringIntoForce new p) := by
  let old := p.sl.inForce
  have carried := agreed_carried True h (budgetOf old h)
  have angled {q : Part} (hq : Agreed True h (budgetOf old h) q) : Agreed True h (budgetOf old h) (angleSettings old q) :=
    holds_ite (hq.loseAngle _) hq
  have moved := carried.postureSettings old (angled (carried.inputsSettings old
    (p := { p with sl := { p.sl with inForce := new } }) hp))
  have host := moved.2.1.1
  have charged := Agreed.chargeSettings (carried.orientationSettings old moved)
  simp only [orientationSettings_frame, postureSettings_frame, angleSettings_frame, inputsSettings_frame] at charged
  have noticed := ((agreed_carried ..).advisorSettings old charged).congr_nu (q := nuSettings old _) (by simp)
    (nuSettings_hostState ..) (by simp)
  unfold Machine.bringIntoForce
  dsimp only
  rw [host]
  exact (agreed_carried ..).settle noticed

theorem Settled.clearRejected (hp : Settled p) : Settled (clearRejected p) :=
  holds_ite hp (hp.carry (fun ha => (agreed_carried ..).clearFault _ ha) (by simp))

theorem Settled.bringIntoForce (hp : Settled p) (new : Settings) : Settled (bringIntoForce new p) := by
  have agreed := hp.agreed.bringIntoForce new
  obtain ⟨hlow, -, ⟨-, -, -, -, -, -, -, hrate⟩, hps⟩ := hp
  refine Agreed.settled (h := p.sa.hostState) ?_ ?_ ?_ ?_
  · rw [bringIntoForce_sl]
    exact agreed
  · simpa using hlow
  · simpa using hrate
  · simpa only [PartStateInv, bringIntoForce_frame] using hps

theorem Settled.applied (hp : Settled p) (new : Settings) (code : Word) : Settled (applied new code p) := by
  have cleared := (hp.bringIntoForce new).clearRejected
  unfold Machine.applied
  dsimp only
  split
  · exact Settled.complete (p := { Machine.clearRejected (Machine.bringIntoForce new p) with
      sl := { (Machine.clearRejected (Machine.bringIntoForce new p)).sl with op := .idle, current := none } }) cleared _
  · exact cleared

theorem Settled.beginHold (hp : Settled p) (r : Range) : Settled (beginHold r p) :=
  hp.carry (fun ha => (agreed_carried ..).beginHold _ ha) (by simp)

theorem Settled.snapshotJudged (hp : Settled p) (ws : List Word) : Settled (snapshotJudged ws p) := by
  unfold Machine.snapshotJudged
  split
  · dsimp only
    split
    · exact Settled.complete (p := { p with sl := { p.sl with op := .idle, current := none } }) hp _
    · exact hp
  · dsimp only
    split
    · exact hp.applied _ _
    · refine Settled.beginHold ?_ _
      exact hp

/-! ### The resets (R159 to R161) -/

theorem startAfterReset_sp (p : Part) : (startAfterReset p).sp = { p.sp with flight := .config p.tb } := by
  simp [startAfterReset]

theorem startAfterReset_sa (p : Part) :
    (startAfterReset p).sa = { p.sa with
      inactivity := if p.sl.inForce.inactivityTime = 0 ∨ p.sl.inForce.keepAwake = true then none
        else some ⟨p.tb, p.sl.inForce.inactivityTime * 1000⟩ } := by
  simp [startAfterReset, restartInactivity, startTimer]

/-- A part that starts from its reset values is settled (R160, R161). -/
theorem settled_startAfterReset {levels : PerInput Bool} {new : Settings} {w : ResetWork} {low : Bool} {hp : Hp}
    (hq : p = { Part.reset levels new w low with resetLow := false, hp := hp }) : Settled (startAfterReset p) := by
  subst hq
  refine ⟨by simp, ?_, ?_, ?_⟩
  · simp [AdvisorInv, startAfterReset_sa, Part.reset, Sa.reset]
  · simp [AgreeInv, startAfterReset_sa, startAfterReset_sp, Part.reset, Sa.reset, Pc.reset, Ot.reset, Kt.reset, Bl.reset,
      Cc.reset, Nu.reset, Sp.reset, Sl.reset, budgetOf, rateOf]
  · simp [PartStateInv, startAfterReset_sp, Part.reset, Sp.reset]

theorem Told.takeDeferred (hp : Told i h n b x y p) : Told i h n b x y (takeDeferred p) := by
  have taken (os : List Offer) {q : Part} (hq : Told i h n b x y q) :
      Told i h n b x y (os.foldl (fun q o => Machine.takeOffer o q) q) := by
    induction os generalizing q with
    | nil => exact hq
    | cons o os ih => exact ih (hq.takeOffer o)
  exact taken p.nu.deferred hp

theorem workEnded_partState (w : ResetWork) (p : Part) :
    (workEnded w p).partState =
      if p.partState = .starting ∧ p.sp.health ≠ .configuring then (if p.sp.health = .faulted then .degraded else .ready)
      else p.partState := by
  simp only [workEnded, leaveStarting_partState]
  split <;> simp

theorem workEnded_resetWork (w : ResetWork) (p : Part) : (workEnded w p).resetWork = none := by
  simp only [workEnded]
  split <;> simp

theorem Agreed.workEnded (hp : Agreed i h b p) (w : ResetWork) : Agreed i h b (workEnded w p) := by
  have ended : Agreed i h b { p with resetWork := none } := hp
  have raised := holds_ite (c := w.rejected = true) ((agreed_carried i h b).raiseFault .settingsRejected ended) ended
  have taken {q : Part} (hq : Agreed i h b q) : Agreed i h b (Machine.takeDeferred q) := by
    simpa [Agreed] using Told.takeDeferred hq
  have held {q : Part} (hq : Agreed i h b q) : Agreed i h b (beginDueHold q) := by
    unfold beginDueHold
    split
    · exact (agreed_carried ..).beginHold _ hq
    · exact hq
  exact holds_ite (held (taken raised)) (held (taken raised))

theorem Settled.workEnded (hp : Settled p) (w : ResetWork) (hw : p.resetWork = some w) : Settled (workEnded w p) := by
  have agreed := hp.agreed.workEnded w
  obtain ⟨hlow, -, ⟨-, -, -, -, -, -, -, hrate⟩, hcfg, hsmp, hatt, hstart, -⟩ := hp
  have starting := hstart (.inl (by simp [hw]))
  refine Agreed.settled (h := p.sa.hostState) ?_ ?_ ?_ ?_
  · simpa using agreed
  · simpa using hlow
  · simpa using hrate
  · simp only [PartStateInv, workEnded_partState, workEnded_resetWork, workEnded_frame, starting]
    refine ⟨hcfg, hsmp, hatt, ?_⟩
    cases p.sp.health <;> simp

end Sys2Proof.Machine

/-! Every command keeps the blocks settled, and a full reset its reset values (O57). -/

namespace Sys2Proof.Machine

variable {p q : Part} {s : State}

/-! ### Every command outside a full reset -/

theorem Settled.moment {f : Part → Part} (hp : Settled p)
    (ha : ∀ {h b}, Agreed True h b p → Agreed True h b (f p))
    (hf : (f p).resetLow = p.resetLow ∧ (f p).resetWork = p.resetWork ∧ (f p).partState = p.partState ∧
      (f p).sp = p.sp ∧ (f p).sl.inForce = p.sl.inForce) : Settled (moment f p) :=
  hp.carry (fun hq => (agreed_carried ..).moment (ha hq)) (by simpa using hf)

theorem settled_failIn (ph : Phase) (k : WindowFailure) (hs : Settled s.part) : Settled (failIn ph k s).part := by
  unfold failIn
  split
  · exact hs.moment (fun ha => (agreed_carried ..).failWindow k ha) (by simp)
  · exact hs

theorem settled_takePenControl {want : Request → Bool} {f : Request → Part → Part} (hs : Settled s.part)
    (hf : ∀ r {p}, Settled p → Settled (f r p)) : Settled (takePenControl want f s).part := by
  unfold takePenControl
  split
  · next r rs _ => exact hf r (p := { s.part with rq := { s.part.rq with cc := rs } }) hs
  · exact hs

theorem settled_takeOwn {want : Request → Bool} {f : Request → Part → Part} (hs : Settled s.part)
    (hf : ∀ r {p}, Settled p → Settled (f r p)) : Settled (takeOwn want f s).part := by
  unfold takeOwn
  split
  · next r rs _ => exact hf r (p := { s.part with rq := { s.part.rq with rq := rs } }) hs
  · exact hs

theorem settled_takeSettings {kind : Nat} {f : Request → Part → Part} (hs : Settled s.part)
    (hf : ∀ r {p}, Settled p → Settled (f r p)) : Settled (takeSettings kind f s).part := by
  unfold takeSettings
  split
  · next r rs _ _ => exact hf r (p := { s.part with rq := { s.part.rq with sl := rs } }) hs
  · exact hs

/-- A pin whose level changes outside a full reset. -/
theorem Settled.levelChanged (hp : Settled p) (k : Input) (high : Bool) : Settled (levelChanged k high p) :=
  hp.carry (fun ha => (agreed_carried ..).levelChanged _ _ ha) (by simp)

/-- The six offers of a REFRESH leave what the blocks are told (R185). -/
theorem Agreed.refreshOffers {i : Prop} {h : HostState} {b : Nat} (hp : Agreed i h b p) :
    Agreed i h b (refreshOffers p) := by
  have posture : Agreed i h b (offerPosture p) := (agreed_carried i h b).content _ _ hp
  have orientation := (agreed_carried i h b).offerOrientation posture
  have base : Agreed i h b (offerBaseNow (offerOrientation (offerPosture p))) :=
    (agreed_carried i h b).content _ _ orientation
  have pen := (agreed_carried i h b).offerPen base
  exact (agreed_carried i h b).content _ _ ((agreed_carried i h b).offerCharge pen)

/-- Every command but FULL_RESET keeps the blocks settled, each by what its meaning carries. -/
theorem settled_step (j : Instr) (hs : Settled s.part) (hj : j ≠ .fullReset) :
    Completes j s fun t => Settled t.part := by
  have carried {f : Part → Part} (ha : ∀ {h b}, Agreed True h b s.part → Agreed True h b (f s.part))
      (hf : (f s.part).resetLow = s.part.resetLow ∧ (f s.part).resetWork = s.part.resetWork ∧
        (f s.part).partState = s.part.partState ∧ (f s.part).sp = s.part.sp ∧
        (f s.part).sl.inForce = s.part.sl.inForce) : Settled (s.on f).part := hs.carry ha hf
  cases j with
  | fullReset => exact absurd rfl hj
  | resetnRelease hcsLow => exact completes_gate (fun hl => absurd hl (by simp [hs.1])) hs
  | softReset => exact completes_gate (fun _ => settled_startAfterReset (low := false) (hp := Hp.reset) rfl) hs
  | resetWorkEnd =>
    simp only [Completes, exec, execResetWorkEnd]
    split
    · exact ⟨_, rfl, hs.workEnded _ ‹_›⟩
    · exact ⟨s, rfl, hs⟩
  | tbTick =>
    simp only [Completes, exec, execTbTick, hs.1]
    exact ⟨_, rfl, hs⟩
  | configurationStepEnd f g =>
    simp only [Completes, exec, execConfigurationStepEnd]
    split
    · exact ⟨_, rfl, hs.configEnded ‹_› _⟩
    · exact ⟨s, rfl, hs⟩
  | sampleArrival a r =>
    simp only [Completes, exec, execSampleArrival]
    split
    · exact ⟨_, rfl, hs.sampleEnded ‹_› _⟩
    · exact ⟨s, rfl, hs⟩
  | faultAttemptEnd f g a r =>
    simp only [Completes, exec, execFaultAttemptEnd]
    split
    · exact ⟨_, rfl, hs.attemptEnded ‹_› _⟩
    · exact ⟨s, rfl, hs⟩
  | sampleDue =>
    simp only [Completes, exec, execSampleDue]
    split
    · exact ⟨_, rfl, hs.sampleDue ‹_›⟩
    · exact ⟨s, rfl, hs⟩
  | faultAttemptDue =>
    simp only [Completes, exec, execFaultAttemptDue]
    split
    · exact ⟨_, rfl, hs.faultAttemptDue ‹_›⟩
    · exact ⟨s, rfl, hs⟩
  | filteredLevelChange k high =>
    simp only [Completes, exec, execFilteredLevelChange, hs.1]
    split
    · exact ⟨s, rfl, hs⟩
    · exact ⟨_, rfl, hs.levelChanged k high⟩
  | debounceExpiry k =>
    exact completes_gate (fun _ => carried (fun ha => (agreed_carried ..).debounceExpired k ha) (by simp)) hs
  | holdTimerExpiry =>
    exact completes_gate (fun _ => carried (f := fun p => settle (holdExpired p))
      (fun ha => (agreed_carried ..).settle ((agreed_carried ..).deliver _ ha)) (by simp)) hs
  | postureDwellExpiry =>
    exact completes_gate (fun _ => carried (fun ha => (agreed_carried ..).dwellExpired ha) (by simp)) hs
  | orientationDwellExpiry =>
    exact completes_gate (fun _ => carried (fun ha => (agreed_carried ..).rotationExpired ha) (by simp)) hs
  | lineBreakReceived n => exact ⟨_, rfl, carried (fun ha => (agreed_carried ..).countNoise n ha) (by simp)⟩
  | frameGapTimeout n =>
    exact ⟨_, rfl, carried (f := fun p => countDiscard .framing (countNoise n p))
      (fun ha => (agreed_carried ..).countDiscard _ ((agreed_carried ..).countNoise n ha)) (by simp)⟩
  | frameDiscard cs => exact ⟨_, rfl, carried (fun ha => (agreed_carried ..).discardFrame cs ha) (by simp)⟩
  | hello n seq cls revision accessory =>
    refine ⟨_, rfl, carried (fun ha => (agreed_carried ..).receive n
      (fun hq => (agreed_carried ..).settle ((agreed_carried ..).helloFrame _ hq)) ha) ?_⟩
    simp only [receive]
    split <;> simp
  | keys n seq es held =>
    refine ⟨_, rfl, carried (fun ha => (agreed_carried ..).receive n
      (fun hq => (agreed_carried ..).keysReception seq es _ hq) ha) ?_⟩
    simp only [receive]
    split <;> simp
  | motion n seq x y z c =>
    refine ⟨_, rfl, carried (fun ha => (agreed_carried ..).receive n
      (fun hq => (agreed_carried ..).motionFrame x y z c ((agreed_carried ..).seqCheck seq hq)) ha) ?_⟩
    simp only [receive]
    split <;> simp
  | status n seq mode flags draw held =>
    refine ⟨_, rfl, carried (fun ha => (agreed_carried ..).receive n
      (fun hq => (agreed_carried ..).statusReception seq _ held hq) ha) ?_⟩
    simp only [receive]
    split <;> simp
  | reply n seq id result value =>
    refine ⟨_, rfl, carried (fun ha => (agreed_carried ..).receive n
      (fun hq => (agreed_carried ..).settle ((agreed_carried ..).replyFrame id result value
        ((agreed_carried ..).seqCheck seq hq))) ha) ?_⟩
    simp only [receive]
    split <;> simp
  | exchangeSent => exact ⟨_, rfl, carried (fun ha => (agreed_carried ..).frameSent ha) (by simp)⟩
  | replyTimerExpiry =>
    exact completes_gate (fun _ => carried (fun ha => (agreed_carried ..).replyExpired ha) (by simp)) hs
  | powerGoodExpiry =>
    exact completes_gate (fun _ => carried (f := fun p => settle (enterResetting p))
      (fun ha => (agreed_carried ..).settle ((agreed_carried ..).enterResetting ha)) (by simp)) hs
  | lineResetEnd =>
    simp only [Completes, exec, execLineResetEnd]
    split
    · exact completes_gate (fun _ => carried (fun ha => (agreed_carried ..).lineResetEnded _ ha) (by simp)) hs
    · exact ⟨s, rfl, hs⟩
  | activateTimeExpiry =>
    exact completes_gate (fun _ => carried (fun ha => (agreed_carried ..).activateExpired ha) (by simp)) hs
  | helloTimerExpiry =>
    exact completes_gate (fun _ => carried (fun ha => (agreed_carried ..).helloExpired ha) (by simp)) hs
  | stallIdleExpiry =>
    exact completes_gate (fun _ => carried (f := fun p => settle (enterStall p))
      (fun ha => (agreed_carried ..).settle ((agreed_carried ..).enterStall ha)) (by simp)) hs
  | minimumHibernateExpiry =>
    exact completes_gate (fun _ => carried (fun ha => (agreed_carried ..).minHibernateExpired ha) (by simp)) hs
  | wakeBreakEnd =>
    simp only [Completes, exec, execWakeBreakEnd]
    split
    · exact ⟨_, rfl, carried (fun ha => (agreed_carried ..).wakeBreakEnded _ ha) (by simp)⟩
    · exact ⟨s, rfl, hs⟩
  | baseRetry =>
    simp only [Completes, exec, execBaseRetry]
    split
    · next r rs _ =>
      exact ⟨_, rfl, carried (f := fun p => retryBase r { p with rq := { p.rq with bl := rs } })
        (fun ha => (agreed_carried ..).retryBase r ((agreed_carried ..).queues _ _ ha)) (by simp)⟩
    · exact ⟨s, rfl, hs⟩
  | profileSnapshotEnd =>
    simp only [Completes, exec, execProfileSnapshotEnd]
    split
    · exact ⟨_, rfl, hs.carry (fun ha => (agreed_carried ..).settle ((agreed_carried ..).snapshotTaken _ ha))
        (by simp [finishSnapshot])⟩
    · exact ⟨s, rfl, hs⟩
  | profileResultWriteEnd =>
    simp only [Completes, exec, execProfileResultWriteEnd]
    split
    · exact ⟨_, rfl, hs.carry (fun ha => (agreed_carried ..).settle ((agreed_carried ..).resultsWritten _ ha))
        (by simp [finishResultWrite])⟩
    · exact ⟨s, rfl, hs⟩
  | baseAttribute | profileReload =>
    exact completes_gate (fun _ => carried (fun ha => (agreed_carried ..).takeProfileRequest ha) (by simp)) hs
  | settlingExpiry | prechargeExpiry =>
    exact completes_gate (fun _ => hs.moment (fun ha => (agreed_carried ..).enterWakingSession ha) (by simp)) hs
  | windowDue => exact completes_gate (fun _ => hs.moment (fun ha => (agreed_carried ..).startOrDue ha) (by simp)) hs
  | cooldownExpiry =>
    exact completes_gate (fun _ => hs.moment (fun ha => (agreed_carried ..).cooldownEnded ha) (by simp)) hs
  | quietEnd | breakEnd | pollSent | syncStart | reportStart =>
    refine ⟨_, rfl, ?_⟩
    unfold stepPhase
    split <;> exact hs
  | syncWaitExpiry | syncMeasureTimeout | reportWaitExpiry | reportGapTimeout => exact ⟨_, rfl, settled_failIn _ _ hs⟩
  | syncReceived =>
    simp only [Completes, exec, execSyncReceived]
    split
    · exact ⟨_, rfl, hs⟩
    · exact ⟨_, rfl, settled_failIn _ _ hs⟩
  | report =>
    simp only [Completes, exec, execReport]
    split
    · exact ⟨_, rfl, hs.moment (fun ha => (agreed_carried ..).acceptReport _ _ ha) (by simp)⟩
    · exact ⟨_, rfl, settled_failIn _ _ hs⟩
  | grantSent =>
    simp only [Completes, exec, execGrantSent]
    split
    · exact ⟨_, rfl, hs.moment (fun ha => (agreed_carried ..).endWindow _ ha) (by simp)⟩
    · exact ⟨_, rfl, carried (fun ha => (agreed_carried ..).endFaultWindow ha) (by simp)⟩
    · exact ⟨s, rfl, hs⟩
  | overcurrent m =>
    exact completes_gate (fun _ => carried (fun ha => (agreed_carried ..).takeOvercurrent _ ha) (by simp)) hs
  | faultHistoryExpiry => exact completes_gate (fun _ => hs) hs
  | penControlStop =>
    exact ⟨_, rfl, settled_takePenControl hs fun r _ hp =>
      hp.carry (fun ha => (agreed_carried ..).penStop r ha) (by simp)⟩
  | penControlResume =>
    exact ⟨_, rfl, settled_takePenControl hs fun r _ hp =>
      hp.carry (fun ha => (agreed_carried ..).penResume r ha) (by simp)⟩
  | penControlClearLockout =>
    exact ⟨_, rfl, settled_takePenControl hs fun r _ hp =>
      hp.carry (fun ha => (agreed_carried ..).penClearLockout r ha) (by simp)⟩
  | penControlBadArg => exact ⟨_, rfl, settled_takePenControl hs fun r _ hp => hp.complete _⟩
  | setHostState =>
    simp only [Completes, exec, execSetHostState]
    split
    · next r rs _ =>
      refine ⟨_, rfl, ?_⟩
      have taken : Settled { s.part with rq := { s.part.rq with sa := rs } } := hs
      simp only [State.on_part, setHost]
      split
      · exact taken.complete _
      · exact Settled.complete (holds_ite taken (taken.changeHostState _)) _
    · exact ⟨s, rfl, hs⟩
  | inactivityExpiry =>
    exact completes_gate (fun _ => carried (fun ha => (agreed_carried ..).inactivityExpired ha) (by simp)) hs
  | graceExpiry =>
    exact completes_gate (fun _ => carried (fun ha => (agreed_carried ..).graceExpired ha) (by simp)) hs
  | recordPublicationEnd c =>
    simp only [Completes, exec, execRecordPublicationEnd]
    split
    · exact completes_gate (fun _ => hs.publicationEnded c) hs
    · exact ⟨s, rfl, hs⟩
  | wakePulseEnd =>
    simp only [Completes, exec, execWakePulseEnd]
    split
    · exact completes_gate (fun _ => hs) hs
    · exact ⟨s, rfl, hs⟩
  | wakeRepeatExpiry => exact completes_gate (fun _ => hs.wakeRepeated) hs
  | acknowledge | read => exact ⟨_, rfl, settled_hostRead _ _ hs⟩
  | take | endService | attention | xmWordWrite | write => exact ⟨_, rfl, settled_hostWrite _ _ hs⟩
  | update => exact ⟨_, rfl, settled_hostUpdate _ _ _ hs⟩
  | portRead => exact ⟨_, rfl, settled_hostPortRead _ hs⟩
  | unknownCommand => exact ⟨_, rfl, settled_hostUnknown _ hs⟩
  | transactionEnd => exact ⟨_, rfl, hs.port (hostTransEnd_eq _)⟩
  | slotCompletionEnd =>
    simp only [Completes, exec, execSlotCompletionEnd]
    split
    · next c rest _ =>
      refine ⟨_, rfl, ?_⟩
      have begun (q : Part) (hq : Settled q) : Settled (offer (.content (.request (1#8 <<< c.slot))) q) :=
        hq.carry (fun ha => (agreed_carried ..).content _ _ ha) (by simp)
      refine begun _ ?_
      cases rest with
      | nil => exact hs
      | cons n _ =>
        refine Settled.beginHold ?_ _
        exact hs
    · exact ⟨s, rfl, hs⟩
  | applySettings =>
    exact ⟨_, rfl, settled_takeSettings hs fun r p hp =>
      Settled.beginHold (p := { p with sl := { p.sl with current := some r, op := .snapshot } }) hp _⟩
  | lockSettings =>
    exact ⟨_, rfl, settled_takeSettings hs fun _ p hp =>
      Settled.complete (p := { p with sl := { p.sl with lock := true } }) hp _⟩
  | settingsSnapshotEnd =>
    simp only [Completes, exec, execSettingsSnapshotEnd]
    split
    · exact ⟨_, rfl, hs.snapshotJudged _⟩
    · exact ⟨s, rfl, hs⟩
  | settingsWriteBackEnd =>
    simp only [Completes, exec, execSettingsWriteBackEnd]
    split
    · exact ⟨_, rfl, hs.applied _ _⟩
    · exact ⟨s, rfl, hs⟩
  | timeCapture | countersRead | countersBadArg | badKind => exact ⟨_, rfl, settled_takeOwn hs fun _ _ hp => hp.complete _⟩
  | countersReadAndClear =>
    exact ⟨_, rfl, settled_takeOwn hs fun _ p hp => Settled.complete (p := clearCounters p) hp _⟩
  | refresh =>
    simp only [Completes, exec, execRefresh]
    split
    · next r rs _ =>
      refine ⟨_, rfl, Settled.complete (p := refreshOffers { s.part with rq := { s.part.rq with nu := rs } }) ?_ _⟩
      exact hs.carry (fun ha => Agreed.refreshOffers ha) (by simp)
    · exact ⟨s, rfl, hs⟩

/-! ### A full reset in force (R160) -/

/-- A full reset in force with the pins' levels meets every rule at once. -/
theorem fullReset_inv {levels : PerInput Bool} (hp : p = Part.reset levels Settings.default ⟨[], false⟩ true) :
    ResetLineInv p ∧ AdvisorInv p ∧ AgreeInv p ∧ PartStateInv p := by
  subst hp
  refine ⟨fun _ => rfl, ?_, ?_, ?_⟩
  · simp [AdvisorInv, Part.reset, Sa.reset]
  · simp [AgreeInv, Part.reset, Sa.reset, Pc.reset, Ot.reset, Kt.reset, Bl.reset, Cc.reset, Nu.reset, Sp.reset, Sl.reset,
      budgetOf, rateOf]
  · simp [PartStateInv, Part.reset, Sp.reset]

/-- While RESETN is low a pin's level is followed, RESETN rises or a full reset begins again, and no other event occurs (R160,
log entry 30). -/
theorem occurs_in_fullReset {levels : PerInput Bool} {j : Instr}
    (hp : s.part = Part.reset levels Settings.default ⟨[], false⟩ true) (hj : Instr.occurs j s = true) :
    j = .fullReset ∨ (∃ hcsLow, j = .resetnRelease hcsLow) ∨ ∃ k high, j = .filteredLevelChange k high := by
  cases j with
  | fullReset => exact .inl rfl
  | resetnRelease hcsLow => exact .inr (.inl ⟨hcsLow, rfl⟩)
  | filteredLevelChange k high => exact .inr (.inr ⟨k, high, rfl⟩)
  | debounceExpiry k => cases k <;> simp [Instr.occurs, hp, Part.reset, PerInput.get, InputState.reset, timerDue] at hj
  | _ =>
    simp [Instr.occurs, hp, Part.reset, portFree, Sp.reset, sampleDueNow, attemptDueNow, timerDue, Ae.reset, Pc.reset,
      Ot.reset, Bl.reset, noiseCounts, Link.listens, headOf, Rq.reset, Pw.reset, profileRequestReady, stateDue, Cc.reset,
      Pn.reset, overcurrentSeen, monitorRuns, Sa.reset, Nu.reset, Sl.reset] at hj

/-- A pin's level followed during a full reset leaves the reset values (R160). -/
theorem setLevel_of_fullReset {levels : PerInput Bool} (k : Input) (high : Bool)
    (hp : p = Part.reset levels Settings.default ⟨[], false⟩ true) :
    setInput k { p.inp.get k with level := high } p =
      Part.reset (levels.set k high) Settings.default ⟨[], false⟩ true := by
  subst hp
  cases k <;> rfl

/-- Settles O57: outside a full reset each meaning is followed through what it carries; in one, three commands alone act. -/
theorem blocksAgreeAfterEveryStep : Obligations.BlocksAgreeAfterEveryStep := by
  intro j s hline ha hg hps
  by_cases hj : j = .fullReset
  · subst hj
    exact ⟨_, rfl, fullReset_inv rfl⟩
  by_cases hlow : s.part.resetLow = true
  · have reset := hline hlow
    by_cases ho : Instr.occurs j s = true
    · rcases occurs_in_fullReset reset ho with rfl | ⟨hcsLow, rfl⟩ | ⟨k, high, rfl⟩
      · exact absurd rfl hj
      · have released : Settled (releaseReset hcsLow s.part) :=
          settled_startAfterReset (low := true) (hp := { s.part.hp with blocked := hcsLow }) (by rw [← reset])
        obtain ⟨hhigh, released⟩ := released
        refine ⟨s.on (releaseReset hcsLow), by simp [exec, execResetnRelease, hlow], fun hl => ?_, released⟩
        exact absurd hl (by simp [hhigh])
      · simp only [Completes, exec, execFilteredLevelChange, hlow, if_true]
        split
        · exact ⟨s, rfl, hline, ha, hg, hps⟩
        · exact ⟨_, rfl, fullReset_inv (setLevel_of_fullReset k high reset)⟩
    · exact ⟨s, eventsThatCannotOccurChangeNothing j s (by simpa using ho), hline, ha, hg, hps⟩
  · obtain ⟨t, ht, hhigh, hinv⟩ := settled_step j ⟨by simpa using hlow, ha, hg, hps⟩ hj
    exact ⟨t, ht, fun hl => absurd hl (by simp [hhigh]), hinv⟩

end Sys2Proof.Machine

/-! The reset, the time base, and the due times of the sensor port (O5, O9). -/

namespace Sys2Proof.Machine

/-! ### FULL_RESET and RESETN (R1, R4, R16, R160) -/

/-- The control words under a full reset are those of R160's table. -/
theorem controlWord_fullReset (levels : PerInput Bool) {a : Nat} (ha : a < 0x20) :
    controlWord (Part.reset levels Settings.default ⟨[], false⟩ true) a = fullResetWord a := by
  have idle (c : NoticeClass) : classStateWord (Part.reset levels Settings.default ⟨[], false⟩ true) c = 0#16 := by
    have off : word 0 ||| (flagWord false <<< 2) ||| (flagWord false <<< 3) = 0#16 := by decide
    cases c <;> exact off
  interval_cases a
  iterate 8 rfl
  iterate 9 simp [controlWord, allClasses, idle, fullResetWord]
  iterate 15 rfl

/-- Above the control words the table of R160 is the content that no cell lists. -/
theorem resetWord_eq_fullResetWord {a : Nat} (ha : 0x20 ≤ a) : resetWord a = fullResetWord a := by
  unfold fullResetWord
  split
  iterate 4 omega
  · rfl

/-- Filtering resumes for each input by its own state (R16). -/
theorem resumeInputs_get (k : Input) (p : Part) :
    (resumeInputs p).inp.get k =
      (p.inp.get k).debounceFrom p.tb k (filteredActive p.sl.inForce k (p.inp.get k).level) := by
  cases k <;> rfl

theorem releaseReset_input (hcsLow : Bool) (k : Input) (p : Part) :
    (releaseReset hcsLow p).inp.get k =
      (p.inp.get k).debounceFrom p.tb k (filteredActive p.sl.inForce k (p.inp.get k).level) :=
  resumeInputs_get k _

/-- Settles O5: XM by the addresses below and above 0x20, RESETN rising by the blocks that it starts. -/
theorem fullResetAndTimeBase : Obligations.FullResetAndTimeBase := by
  refine ⟨fun s => ⟨_, rfl, rfl, fun a _ => ?_⟩, fun hcsLow s hlow => ?_, fun s hlow => ?_⟩
  · unfold peek
    split
    · exact controlWord_fullReset _ ‹_›
    · exact resetWord_eq_fullResetWord (Nat.not_lt.mp ‹_›)
  · refine ⟨s.on (releaseReset hcsLow), by simp [exec, execResetnRelease, hlow], ?_, ?_, ?_, ?_, fun k _ => ?_⟩
    · simp [releaseReset]
    · simp [releaseReset]
    · simp [releaseReset, startAfterReset_sp]
    · simp [releaseReset, startAfterReset_sa]
    · rw [State.on_part, releaseReset_input]
      exact ⟨rfl, rfl, rfl⟩
  · simp [exec, execTbTick, hlow, State.on, tick]

/-! ### Due times and FAULTED attempts (R6, R9, R11) -/

/-- A due time that is kept unless the schedule is stopped (R9). -/
theorem Rate.due_eq (r : Rate) (t : Time) : r.due t = if r = .stopped then none else some t := by
  cases r <;> rfl

theorem dueComes_eq (due : Time) (period : Nat) (what : Flight) (sp : Sp) :
    dueComes due period what sp =
      { sp with
        nextDue := some (due + BitVec.ofNat 32 period)
        flight := if sp.flight = .none then what else sp.flight } := by
  simp only [dueComes, later]
  split <;> rfl

theorem sampleDue_eq (due : Time) (sp : Sp) :
    sampleDue due sp =
      { sp with
        nextDue := some (due + BitVec.ofNat 32 sp.rate.period)
        flight := if sp.flight = .none then .sample due else sp.flight
        lastDue := if sp.flight = .none then some due else sp.lastDue } := by
  simp only [sampleDue, dueComes_eq]
  split <;> rfl

/-- An attempt that ends, by its outcome and the good run before it (R11). -/
theorem exec_faultAttemptEnd {due : Time} {s : State} (hf : s.part.sp.flight = .attempt due) (f g : ConfigTry)
    (a r : SampleTry) :
    exec (.faultAttemptEnd f g a r) s = .next (s.on (attemptEnded due (attemptGood f g a r))) := by
  simp [exec, execFaultAttemptEnd, hf]

/-- A SENSOR_FAULT that is cleared is not active, and the last code stands (R11, R178). -/
theorem clearSensorFault_inactive (due : Time) (p : Part) (h : p.resetWork = none) :
    (clearSensorFault due p).nu.faults &&& FaultName.sensorFault.set = 0#7 ∧
    (clearSensorFault due p).nu.lastFault = p.nu.lastFault :=
  clearFault_inactive .sensorFault _ h

/-- Settles O9: due times by what is in flight, attempts by their outcome and the good run. -/
theorem dueTimesAndFaultedAttempts : Obligations.DueTimesAndFaultedAttempts := by
  refine ⟨fun d s hh hd hr => ?_, fun d s hh hd hr => ?_, fun due f g a r s hf hbad => ?_,
    fun due f g a r s hf hgood hrun => ?_, fun due f g a r s hf hgood hrun => ?_⟩
  · have now : sampleDueNow s.part = some d := by simp [sampleDueNow, hh, hd, hr]
    simp [exec, execSampleDue, now, State.on, sampleDue_eq]
  · have now : attemptDueNow s.part = some d := by simp [attemptDueNow, hh, hd, hr]
    simp [exec, execFaultAttemptDue, now, State.on, dueComes_eq]
  · rw [exec_faultAttemptEnd hf, hbad]
    rfl
  · rw [exec_faultAttemptEnd hf, hgood]
    simp [State.on, attemptEnded, Nat.not_le.mpr hrun]
  · refine ⟨_, exec_faultAttemptEnd hf f g a r, ?_⟩
    have cleared : attemptEnded due true s.part =
        clearSensorFault due { s.part with sp := { s.part.sp with flight := .none } } := by
      simp [attemptEnded, hrun]
    simp only [State.on_part, hgood, cleared]
    refine ⟨?_, clearSensorFault_partState .., fun hw => ?_⟩
    · simp [clearSensorFault_sp, Rate.due_eq, later]
    · obtain ⟨inactive, last⟩ := clearSensorFault_inactive due { s.part with sp := { s.part.sp with flight := .none } } hw
      exact ⟨by simpa [FaultActive, hgood, cleared] using inactive, last⟩

end Sys2Proof.Machine

/-! The sensor port's outcomes (O8, O10): what the deliveries that follow them leave alone. -/

namespace Sys2Proof.Machine

/-! ### What no delivery and no change of link state disturbs -/

/-- P survives every change that a delivery or a change of link state can make of the blocks that it reaches: SA keeps the host
state and the lid sample, PC the delivery that it holds. -/
structure FreelyCarried (P : Part → Prop) : Prop where
  content : ∀ c p, P p → P (offer (.content c) p)
  line : ∀ p b, P p → P { p with bl := b }
  keys : ∀ p k, P p → P { p with kt := k }
  advisor : ∀ p a, a.hostState = p.sa.hostState → a.previous = p.sa.previous → P p → P { p with sa := a }
  rotation : ∀ p o, P p → P { p with ot := o }
  posture : ∀ p c, c.stored = p.pc.stored → P p → P { p with pc := c }
  walker : ∀ p w, P p → P { p with pw := w }
  queues : ∀ p q, P p → P { p with rq := q }
  port : ∀ p h, P p → P { p with hp := h }

namespace FreelyCarried

variable {P : Part → Prop} {p : Part}

theorem advisorCarried (hP : FreelyCarried P) : AdvisorCarried P where
  content := hP.content
  line p b _ _ h := hP.line p b h
  keys p k _ h := hP.keys p k h
  advisor p a hh _ hv _ h := hP.advisor p a hh hv h
  rotation p o _ h := hP.rotation p o h

theorem decideSuppression (hP : FreelyCarried P) (h : P p) : P (decideSuppression p) := by
  have told (on : Bool) : P (suppressionTold on { p with pc := { p.pc with suppression := on } }) :=
    holds_ite (hP.advisorCarried.offerIfQueued _ (hP.keys _ _ (hP.posture p _ rfl h))) (hP.keys _ _ (hP.posture p _ rfl h))
  exact holds_ite h (hP.line _ _ (told _))

theorem toldPosture (hP : FreelyCarried P) (q : Posture) (h : P p) : P (postureTold q (orientationTold q p)) := by
  have set := hP.advisor _ { (orientationTold q p).sa with posture := q } rfl rfl
    (hP.advisorCarried.rehold (hP.rotation p { p.ot with posture := q } h))
  unfold postureTold
  dsimp only
  split
  · exact hP.advisorCarried.postureRunning _ ‹_› set
  · exact holds_ite (hP.advisorCarried.wakeCause _ set) set

theorem tellPosture (hP : FreelyCarried P) (h : P p) : P (tellPosture p) :=
  holds_ite (hP.advisorCarried.orderTarget _ (hP.toldPosture _ h)) (hP.toldPosture _ h)

theorem handOn (hP : FreelyCarried P) (before : Posture) (h : P p) : P (handOn before p) := by
  have told := holds_ite (c := p.pc.published = before) h (hP.tellPosture h)
  exact holds_ite told (hP.content _ _ (hP.posture _ _ rfl told))

/-- What survives each change survives PC's evaluations, so all that follows a delivery or a change of link state. -/
theorem carried (hP : FreelyCarried P) : Carried P where
  toAdvisorCarried := hP.advisorCarried
  walker := hP.walker
  queues := hP.queues
  port := hP.port
  evaluate p h := hP.handOn _ (hP.decideSuppression (hP.posture p _ (by simp [dwellStep_told, classify_told]) h))
  expired p h := hP.handOn _ (hP.decideSuppression (hP.posture p _ rfl h))

end FreelyCarried

/-- The part holds what `before` held of the faults, the repeat of WAKE, the host state, the lid sample and the delivery. -/
def Undisturbed (before p : Part) : Prop :=
  (p.nu.faults = before.nu.faults ∧ p.nu.lastFault = before.nu.lastFault) ∧ p.nu.wakeTimer = before.nu.wakeTimer ∧
  (p.sa.hostState = before.sa.hostState ∧ p.nu.hostState = before.nu.hostState) ∧
  p.sa.previous = before.sa.previous ∧ p.pc.stored = before.pc.stored

theorem Undisturbed.refl (p : Part) : Undisturbed p p := ⟨⟨rfl, rfl⟩, rfl, ⟨rfl, rfl⟩, rfl, rfl⟩

/-- A delivery or a change of link state disturbs neither the faults nor what else `Undisturbed` names. -/
theorem undisturbed_carried (before : Part) : FreelyCarried (Undisturbed before) where
  content _ _ h := by simpa [Undisturbed] using h
  line _ _ h := h
  keys _ _ h := h
  advisor p a hh hv h := by simpa only [Undisturbed, hh, hv] using h
  rotation _ _ h := h
  posture p c hc h := by simpa only [Undisturbed, hc] using h
  walker _ _ h := h
  queues _ _ h := h
  port _ _ h := h

theorem settle_undisturbed (p : Part) : Undisturbed p (settle p) :=
  (undisturbed_carried p).carried.settle (.refl p)

/-! ### The configuration step (R4, R5, R9, R10, R31) -/

theorem loseAngle_ae (why : Reason) (p : Part) : (loseAngle why p).ae = p.ae.lose why := by
  unfold loseAngle
  dsimp only
  split
  · rfl
  · simp

/-- A delivery leaves the faults (R32). -/
theorem deliver_faults (lid : Option Reading) (p : Part) :
    (deliver lid p).nu.faults = p.nu.faults ∧ (deliver lid p).nu.lastFault = p.nu.lastFault :=
  ((undisturbed_carried { p with pc := { p.pc with stored := p.ae.delivery } }).carried.deliver lid (.refl _)).1

theorem loseAngle_faults (why : Reason) (p : Part) :
    (loseAngle why p).nu.faults = p.nu.faults ∧ (loseAngle why p).nu.lastFault = p.nu.lastFault := by
  unfold loseAngle
  dsimp only
  split
  · exact ⟨rfl, rfl⟩
  · exact deliver_faults ..

/-- AE becomes UNKNOWN as SENSOR_FAULT is raised (R31). -/
theorem raiseSensorFault_ae (due : Time) (p : Part) : (raiseSensorFault due p).ae = p.ae.lose .sensorFault := by
  simp [raiseSensorFault, loseAngle_ae]

/-- SP and PART_STATE as SENSOR_FAULT is raised (R10). -/
def sensorFaulted (due : Time) (p : Part) : Part :=
  { p with
    sp := { p.sp with health := .faulted, failureRun := 0, goodRun := 0, nextDue := p.sp.rate.due (later due 1000) }
    partState := if p.partState = .ready then .degraded else p.partState }

theorem raiseSensorFault_eq (due : Time) (p : Part) :
    raiseSensorFault due p = settle (loseAngle .sensorFault (raiseFault .sensorFault (sensorFaulted due p))) := rfl

/-- SENSOR_FAULT is active with its code once the reset's work has ended (R10, R178). -/
theorem raiseSensorFault_active (due : Time) (p : Part) (h : p.resetWork = none) :
    (raiseSensorFault due p).nu.faults &&& FaultName.sensorFault.set ≠ 0#7 ∧
    (raiseSensorFault due p).nu.lastFault = some .sensorFault := by
  obtain ⟨⟨hs, hl⟩, -⟩ := settle_undisturbed (loseAngle .sensorFault (raiseFault .sensorFault (sensorFaulted due p)))
  obtain ⟨ls, ll⟩ := loseAngle_faults .sensorFault (raiseFault .sensorFault (sensorFaulted due p))
  rw [raiseSensorFault_eq, hs, hl, ls, ll]
  exact raiseFault_active _ _ h

/-- The step that ends is the one in flight (R4). -/
theorem exec_configurationStepEnd {start : Time} {s : State} (hf : s.part.sp.flight = .config start) (f g : ConfigTry) :
    exec (.configurationStepEnd f g) s = .next (s.on (configEnded start (configOk f g))) := by
  simp [exec, execConfigurationStepEnd, hf]

theorem tryOk_iff (t : ConfigTry) : tryOk t = true ↔ t.identity = 0x5C#8 ∧ t.rangeHeld = true := by
  simp [tryOk, sensorIdentity]

theorem leaveStarting_frames (p : Part) : (leaveStarting p).ae = p.ae ∧ (leaveStarting p).nu = p.nu := by
  unfold leaveStarting
  split <;> exact ⟨rfl, rfl⟩

/-- A failed configuration step raises SENSOR_FAULT (R10). -/
theorem configEnded_failed (start : Time) (p : Part) :
    configEnded start false p = leaveStarting (raiseSensorFault start { p with sp := { p.sp with flight := .none } }) := rfl

/-- Settles O8: by whether one of the two tries succeeds. -/
theorem configurationStepEnds : Obligations.ConfigurationStepEnds := by
  refine ⟨fun start f g s hf hok => ?_, fun start f g s hf hbf hbg => ?_⟩
  · have ok : configOk f g = true := by simpa [configOk, tryOk_iff] using hok
    refine ⟨_, exec_configurationStepEnd hf f g, ?_, ?_⟩
    · simp [configEnded_sp, ok, Rate.due_eq]
    · simp [configEnded_partState, ok]
  · have bad : configOk f g = false := by
      rw [← Bool.not_eq_true]
      simp [configOk, tryOk_iff, hbf, hbg]
    refine ⟨_, exec_configurationStepEnd hf f g, ?_, ?_, fun hw => ?_, ?_⟩
    · simp [configEnded_sp, bad, Rate.due_eq, later]
    · simp [bad, configEnded_failed, raiseSensorFault_ae, Ae.lose]
    · have raised := raiseSensorFault_active start { s.part with sp := { s.part.sp with flight := .none } } hw
      simpa [FaultActive, bad, configEnded_failed, leaveStarting_frames] using raised
    · simp [configEnded_partState, bad]

/-! ### Samples (R7 to R10) -/

theorem attemptOk_iff (t : SampleTry) : attemptOk t = true ↔ t.identity = 0x5C#8 ∧ t.ready = true := by
  simp [attemptOk, sensorIdentity]

/-- A sample fails when neither its attempt nor its retry reads the identity with data ready (R7). -/
theorem sampleReading_none {a r : SampleTry} (ha : ¬ (a.identity = 0x5C#8 ∧ a.ready = true))
    (hr : ¬ (r.identity = 0x5C#8 ∧ r.ready = true)) : sampleReading a r = none := by
  rw [← attemptOk_iff] at ha hr
  simp [sampleReading, ha, hr]

theorem exec_sampleArrival {due : Time} {s : State} (hf : s.part.sp.flight = .sample due) (a r : SampleTry) :
    exec (.sampleArrival a r) s = .next (s.on (sampleEnded due (sampleReading a r))) := by
  simp [exec, execSampleArrival, hf]

/-- PC holds the delivery made at a lid sample (R32, R35). -/
theorem lidSampleAngle_stored (v : Reading) (p : Part) :
    (lidSampleAngle v p).pc.stored = (lidSampleAngle v p).ae.delivery := by
  have delivered (lid : Option Reading) (q : Part) : (deliver lid q).pc.stored = q.ae.delivery :=
    ((undisturbed_carried { q with pc := { q.pc with stored := q.ae.delivery } }).carried.deliver lid (.refl _)).2.2.2.2
  simp [lidSampleAngle, delivered]

/-- SA keeps the axes of a good sample, and PC the delivery that AE made of it (R8, R32, R141). -/
theorem deliverSample_kept (v : Reading) (p : Part) :
    (deliverSample v p).sa.previous = some v ∧ (deliverSample v p).pc.stored = (deliverSample v p).ae.delivery := by
  let q := lidSampleAngle v { p with sp := { p.sp with failureRun := 0, fresh := false } }
  have told := (undisturbed_carried { q with sa := { q.sa with previous := some v } }).carried.settle
    ((undisturbed_carried _).advisorCarried.lidSampleTold v.1 v.2.1 v.2.2 p.sp.fresh (p := q) (.refl _))
  obtain ⟨-, -, -, hprev, hstored⟩ := told
  refine ⟨hprev, hstored.trans ?_⟩
  simpa [deliverSample, q] using lidSampleAngle_stored v _

/-- Settles O10: by the outcome of the sample and the failure run before it. -/
theorem sampleOutcome : Obligations.SampleOutcome := by
  refine ⟨fun due v a r s hf hv => ?_, fun due a r s hf ha hr hrun => ?_, fun due a r s hf ha hr hrun => ?_⟩
  · refine ⟨_, exec_sampleArrival hf a r, ?_, ?_⟩
    · simp [hv, sampleEnded, deliverSample]
    · rw [State.on_part, hv]
      exact deliverSample_kept v _
  · rw [exec_sampleArrival hf, sampleReading_none ha hr]
    simp [State.on, sampleEnded, sampleFailed, Nat.not_le.mpr hrun]
  · have failed : sampleEnded due (sampleReading a r) s.part =
        raiseSensorFault due { s.part with sp := { s.part.sp with flight := .none } } := by
      simp [sampleReading_none ha hr, sampleEnded, sampleFailed, hrun]
    refine ⟨_, exec_sampleArrival hf a r, ?_, ?_, ?_, fun hw => ?_⟩
    · simp [failed, raiseSensorFault_sp, Rate.due_eq, later]
    · simp [failed, raiseSensorFault_ae, Ae.lose]
    · simp [failed, raiseSensorFault_partState]
    · have raised := raiseSensorFault_active due { s.part with sp := { s.part.sp with flight := .none } } hw
      simpa [FaultActive, failed] using raised

end Sys2Proof.Machine

/-! Filtered levels and the contact guard (O11). -/

namespace Sys2Proof.Machine

/-! ### Inputs -/

/-- A filtered level with the debounce timer that it starts or cancels (R13, R14). -/
def filtered (k : Input) (level : Bool) (p : Part) : InputState :=
  ⟨level, (p.inp.get k).debounced,
    if filteredActive p.sl.inForce k level = (p.inp.get k).debounced then none
    else some ⟨p.tb, debounceTime k (filteredActive p.sl.inForce k level)⟩⟩

/-- A level change sets its input, and between tells CC of a raw PENH event (R13, R14). -/
theorem levelChanged_eq (k : Input) (level : Bool) (p : Part) :
    levelChanged k level p =
      setInput k (filtered k level p)
        (rawChange k (filteredActive p.sl.inForce k level) (setInput k { p.inp.get k with level := level } p)) := by
  simp [levelChanged, filtered, InputState.debounceFrom, startTimer]

theorem levelChanged_inp (k : Input) (level : Bool) (p : Part) :
    (levelChanged k level p).inp = p.inp.set k (filtered k level p) := by
  simp [levelChanged_eq, PerInput.set_set]

/-- An input with no raw path changes nothing but the inputs. -/
theorem levelChanged_of_ne_penh {k : Input} (hk : k ≠ .penh) (level : Bool) (p : Part) :
    levelChanged k level p = { p with inp := (levelChanged k level p).inp } := by
  cases k with
  | penh => exact absurd rfl hk
  | lidh => rfl
  | foldh => rfl
  | bpres => rfl

/-- A level change of PENH leaves CC and PN as the raw event does. -/
theorem levelChanged_penh (level : Bool) (p : Part) :
    (levelChanged .penh level p).cc =
      (rawPenh (filteredActive p.sl.inForce .penh level) (setInput .penh { p.inp.penh with level := level } p)).cc ∧
    (levelChanged .penh level p).pn =
      (rawPenh (filteredActive p.sl.inForce .penh level) (setInput .penh { p.inp.penh with level := level } p)).pn :=
  ⟨rfl, rfl⟩

/-! ### Moments at CC (R120, R135) -/

/-- The offers of a moment change of CC the monitor's measurement alone. -/
theorem moment_cc (f : Part → Part) (p : Part) :
    ∃ m n, (moment f p).cc = { (f p).cc with measured := m, readings := n } := by
  have read (q : Part) (hq : q.cc = (f p).cc) :
      ∃ m n, (offerCharge q).cc = { (f p).cc with measured := m, readings := n } := by
    simp only [offerCharge, offer_frame, readCurrent, ← hq]
    split
    · exact ⟨_, _, rfl⟩
    · exact ⟨0, q.cc.readings, rfl⟩
  simp only [moment]
  split <;> split
  · exact read _ (by simp)
  · exact ⟨(f p).cc.measured, (f p).cc.readings, by simp⟩
  · exact read _ rfl
  · exact ⟨(f p).cc.measured, (f p).cc.readings, rfl⟩

/-- A moment that leaves what PEN and CHARGE name offers nothing. -/
theorem moment_of_keys {f : Part → Part} {p : Part} (hp : penKey (f p) = penKey p) (hc : chargeKey (f p) = chargeKey p) :
    moment f p = f p := by
  simp [moment, hp, hc]

/-! ### The contact guard (R116, R117) -/

theorem guardOn_fields (p : Part) :
    (guardOn p).cc.guard = some p.tb ∧ (guardOn p).cc.setpoint = 0 ∧ (guardOn p).pn.phase = .idle ∧
    (p.pn.phase ≠ .idle → (guardOn p).cc.windowDue = true) := by
  by_cases hw : p.pn.phase = .idle <;> simp [guardOn, abandonWindow, hw]

/-- The window at the guard's end (R117). -/
theorem guardWindow_fields (since : Time) (p : Part) :
    (guardWindow since p).cc.guard = p.cc.guard ∧
    (guardWindow since p).pn.phase = (if 2 ≤ (p.tb - since).toNat then .breaking else .quiet) ∧
    (guardWindow since p).cc.setpoint = 0 ∧
    (guardWindow since p).cc.windowDue = false ∧ (guardWindow since p).cc.windowTimer = none ∧
    (guardWindow since p).pn.restore = (if p.cc.session = .precharge then p.cc.prechargeGrant else 0) ∧
    (guardWindow since p).cc.wakingWindows =
      (if p.cc.session = .waking then p.cc.wakingWindows + 1 else p.cc.wakingWindows) := by
  simp [guardWindow, startWindow]

/-- In CHARGING and PRECHARGE, and with the window due flag in WAKING, TOPPED and PAUSED, the guard's end starts a window
(R117). -/
theorem guardEnd_window {p : Part} (since : Time)
    (h : (p.cc.session = .charging ∨ p.cc.session = .precharge) ∨
      (p.cc.session ∈ [.waking, .topped, .paused] ∧ p.cc.windowDue = true)) :
    guardEnd since p = guardWindow since { p with cc := { p.cc with guard := none } } := by
  simp only [List.mem_cons, List.not_mem_nil, or_false] at h
  rcases h with (h | h) | ⟨h | h | h, hd⟩ <;> simp [guardEnd, *]

theorem guardEnd_notDue {p : Part} (since : Time) (h : p.cc.session ∈ [.waking, .topped, .paused])
    (hd : p.cc.windowDue = false) : guardEnd since p = { p with cc := { p.cc with guard := none } } := by
  simp only [List.mem_cons, List.not_mem_nil, or_false] at h
  rcases h with h | h | h <;> simp [guardEnd, *]

theorem guardEnd_settling {p : Part} (since : Time) (h : p.cc.session = .settling) :
    (guardEnd since p).cc.stateTimer = some ⟨p.tb, 200⟩ := by
  simp [guardEnd, h, startTimer]

theorem guardEnd_guard (since : Time) (p : Part) : (guardEnd since p).cc.guard = none := by
  unfold guardEnd
  dsimp only
  split
  · exact (guardWindow_fields ..).1
  · exact (guardWindow_fields ..).1
  iterate 3
    split
    · exact (guardWindow_fields ..).1
    · rfl
  · rfl
  · rfl

/-! ### The command (R13, R14, R16) -/

/-- The part as CC sees a raw PENH event: the pin's level is the new one. -/
def penhRaised (level : Bool) (p : Part) : Part := setInput .penh { p.inp.penh with level := level } p

theorem exec_filteredLevelChange {k : Input} {high : Bool} {s : State} (hl : (s.part.inp.get k).level ≠ high)
    (hr : s.part.resetLow = false) : exec (.filteredLevelChange k high) s = .next (s.on (levelChanged k high)) := by
  simp [exec, execFilteredLevelChange, hl, hr]

/-- A raw PENH absence of a present pen with the guard off is the guard's moment (R116). -/
theorem levelChanged_absence {level : Bool} {p : Part} (hl : level ≠ p.sl.inForce.activeHigh.penh)
    (hd : p.inp.penh.debounced = true) (hg : p.cc.guard = none) :
    (levelChanged .penh level p).cc = (moment guardOn (penhRaised level p)).cc ∧
    (levelChanged .penh level p).pn = (moment guardOn (penhRaised level p)).pn := by
  have inactive : filteredActive p.sl.inForce .penh level = false := by
    simpa [filteredActive, PerInput.get] using hl
  obtain ⟨hcc, hpn⟩ := levelChanged_penh level p
  have raw : rawPenh false (penhRaised level p) = moment guardOn (penhRaised level p) := by
    simp [rawPenh, penhRaised, setInput, PerInput.set, hd, hg]
  rw [hcc, hpn, inactive]
  exact ⟨congrArg Part.cc raw, congrArg Part.pn raw⟩

/-- A raw PENH presence under the guard is the moment of its end (R117). -/
theorem levelChanged_presence {level : Bool} {since : Time} {p : Part} (hl : level = p.sl.inForce.activeHigh.penh)
    (hg : p.cc.guard = some since) :
    (levelChanged .penh level p).cc = (moment (guardEnd since) (penhRaised level p)).cc ∧
    (levelChanged .penh level p).pn = (moment (guardEnd since) (penhRaised level p)).pn := by
  have active : filteredActive p.sl.inForce .penh level = true := by
    simpa [filteredActive, PerInput.get] using hl
  obtain ⟨hcc, hpn⟩ := levelChanged_penh level p
  have raw : rawPenh true (penhRaised level p) = moment (guardEnd since) (penhRaised level p) := by
    simp [rawPenh, penhRaised, setInput, hg]
  rw [hcc, hpn, active]
  exact ⟨congrArg Part.cc raw, congrArg Part.pn raw⟩

/-- Settles O11: the input by the level change, and CC's guard by the raw PENH event between. -/
theorem filteredLevelsAndTheContactGuard : Obligations.FilteredLevelsAndTheContactGuard := by
  refine ⟨fun k high s hl hr => ?_, fun k high s hl hr => ?_, fun high s hl hr hh hd hg => ?_,
    fun high since s hl hr hh hg => ?_⟩
  · refine ⟨_, exec_filteredLevelChange hl hr, levelChanged_inp k high _, fun hk => ?_⟩
    rw [State.on, ← levelChanged_of_ne_penh hk]
  · simp [exec, execFilteredLevelChange, hl, hr, State.on, setInput]
  · refine ⟨_, exec_filteredLevelChange (k := .penh) hl hr, ?_⟩
    obtain ⟨hcc, hpn⟩ := levelChanged_absence hh hd hg
    obtain ⟨m, n, hm⟩ := moment_cc guardOn (penhRaised high s.part)
    simp only [State.on_part, hcc, hpn, hm, moment_frame]
    exact guardOn_fields (penhRaised high s.part)
  · refine ⟨_, exec_filteredLevelChange (k := .penh) hl hr, ?_⟩
    obtain ⟨hcc, hpn⟩ := levelChanged_presence hh hg
    have window (h : (s.part.cc.session = .charging ∨ s.part.cc.session = .precharge) ∨
        (s.part.cc.session ∈ [Session.waking, .topped, .paused] ∧ s.part.cc.windowDue = true)) :=
      guardEnd_window (p := penhRaised high s.part) since h
    have fields := guardWindow_fields since
      { penhRaised high s.part with cc := { (penhRaised high s.part).cc with guard := none } }
    obtain ⟨m, n, hm⟩ := moment_cc (guardEnd since) (penhRaised high s.part)
    rw [State.on_part, hcc, hpn]
    refine ⟨?_, fun h => ?_, fun h hw => ?_, fun h hw => ?_, fun h => ?_⟩
    · rw [hm]
      exact guardEnd_guard since _
    · obtain ⟨-, hphase, hset, -⟩ := fields
      rw [hm]
      simp only [moment_frame, window (.inl h)]
      exact ⟨hphase, hset⟩
    · obtain ⟨-, hphase, hset, hdue, htimer, hrestore, hwaking⟩ := fields
      rw [hm]
      simp only [moment_frame, window (.inr ⟨h, hw⟩)]
      have restore : (if s.part.cc.session = .precharge then s.part.cc.prechargeGrant else 0) = 0 := by
        rw [if_neg]
        rintro he
        simp [he] at h
      exact ⟨hphase, hset, hdue, htimer, hrestore.trans restore, hwaking⟩
    · have off := guardEnd_notDue (p := penhRaised high s.part) since h hw
      rw [moment_of_keys] <;> rw [off]
      exacts [⟨rfl, rfl⟩, rfl, rfl]
    · rw [hm]
      exact guardEnd_settling since h

end Sys2Proof.Machine

/-! Debounced changes (O12): PC's evaluation, the pen's session and the base's attach and detach, each followed by the link's own
moves. -/

namespace Sys2Proof.Machine

/-! ### What a debounced change leaves of the link (R62, R68, R140) -/

/-- A wake cause orders the target of a hibernating link alone (R147). -/
theorem wakeCause_bl (c : AdviceCause) {p : Part} (h : p.bl.link ≠ .hibernate) : (wakeCause c p).bl = p.bl := by
  simp only [wakeCause, adviseWake]
  split
  · simp [h]
  · rfl

theorem lidTold_bl (active : Bool) {p : Part} (h : p.bl.link ≠ .hibernate) : (lidTold active p).bl = p.bl := by
  simp only [lidTold]
  split
  · exact wakeCause_bl _ h
  · rfl

/-- A link in ACTIVE that no order takes to HIBERNATE makes no move of its own (R67 to R70). -/
theorem settle_of_active {p : Part} (hl : p.bl.link = .active) (ht : p.bl.target ≠ .hibernate) :
    settle p = pump false p := by
  simp [settle, settleWith, wakeIfPending, rouseIfQueued, hibernateIfDue, hl, ht]

/-- A link in none of ACTIVE, STALL and HIBERNATE makes no move of its own (R67 to R70). -/
theorem settle_of_not_attached {p : Part} (hl : p.bl.link.attached = false) : settle p = pump false p := by
  have : p.bl.link ≠ .hibernate ∧ p.bl.link ≠ .stall ∧ p.bl.link.live = false := by
    cases h : p.bl.link <;> simp_all [Link.attached, Link.live]
  obtain ⟨hh, hs, hv⟩ := this
  simp [settle, settleWith, wakeIfPending, rouseIfQueued, hibernateIfDue, hh, hs, hv]

/-! ### PC's evaluation (R35 to R45) -/

theorem decideSuppression_eq (p : Part) :
    (decideSuppression p).pc = { p.pc with
      suppression := suppressionAfter p.sl.inForce.suppressionMask p.pc.suppression p.pc.candidate p.pc.published } := by
  simp only [decideSuppression]
  split
  · next h => rw [h]
  · simp

/-- A change of suppression is told to KT and to BL (R44, R77). -/
theorem decideSuppression_told {p : Part} (h : (decideSuppression p).pc.suppression ≠ p.pc.suppression) :
    (decideSuppression p).kt.suppression = (decideSuppression p).pc.suppression ∧
    (decideSuppression p).bl.quiet = (decideSuppression p).pc.suppression := by
  simp only [decideSuppression_eq] at h
  simp only [decideSuppression, h, if_false]
  simp [suppressionTold_suppression, quietChanged_quiet]

theorem decideSuppression_target (p : Part) : (decideSuppression p).bl.target = p.bl.target := by
  simp only [decideSuppression]
  split
  · rfl
  · simp [quietChanged]

/-- Step 6 without a publication offers POSTURE at most (R45). -/
theorem handOn_of_published (p : Part) :
    (handOn p.pc.published p).pc = { p.pc with offered := (handOn p.pc.published p).pc.offered } ∧
    (handOn p.pc.published p).bl = p.bl ∧ (handOn p.pc.published p).kt = p.kt := by
  simp only [handOn, if_true]
  split <;> simp [offerPosture]

/-- An attached link's candidate is never DETACHED (R40). -/
theorem candidateOf_attached {l : Link} (hl : l.attached = true) (lidClosed folded : Bool) (c : Pc) :
    candidateOf l lidClosed folded c ≠ .detached := by
  have hall {other : Posture} (h : other ≠ .detached) : hallPosture lidClosed folded other ≠ .detached := by
    unfold hallPosture
    split
    · simp
    · split
      · simp
      · exact h
  have kept : keptPosture c.published ≠ .detached := by
    unfold keptPosture
    split
    · simp
    · assumption
  unfold candidateOf
  simp only [hl, Bool.not_true, Bool.false_eq_true, if_false]
  split
  · exact hall kept
  · split
    · exact hall (by split <;> simp)
    · simp
    · simp
    · unfold foldedPosture
      (repeat' split) <;> simp
    · exact hall kept

/-- Step 4 without a candidate of DETACHED publishes nothing (R42). -/
theorem dwellStep_eq (now : Time) (dwell : Nat) (before : Posture) {c : Pc} (h : c.candidate ≠ .detached) :
    c.dwellStep now dwell before =
      { c with dwell := if c.candidate = c.published then none else if c.candidate = before then c.dwell
        else some ⟨now, dwell⟩ } := by
  simp only [Pc.dwellStep, h, if_false]
  (repeat' split) <;> rfl

/-- PC after steps 1 to 5 of an evaluation, before what they decide is handed on (R35 to R44). -/
def decided (p : Part) : Part :=
  decideSuppression { p with
    pc := (p.pc.classify p.sl.inForce p.bl.link p.inp.lidh.debounced p.inp.foldh.debounced).dwellStep p.tb
      p.sl.inForce.postureDwell p.pc.candidate }

theorem evaluatePosture_eq (p : Part) : evaluatePosture p = handOn p.pc.published (decided p) := rfl

/-- With an attached link the steps publish nothing (R42). -/
theorem decided_published {p : Part} (hl : p.bl.link.attached = true) : (decided p).pc.published = p.pc.published := by
  have cand : (p.pc.classify p.sl.inForce p.bl.link p.inp.lidh.debounced p.inp.foldh.debounced).candidate ≠ .detached := by
    simp only [Pc.classify]
    exact candidateOf_attached hl _ _ _
  rw [decided, (decideSuppression_pc _).1, dwellStep_eq _ _ _ cand]
  simp [classify_told]

/-- In ACTIVE dwell and suppression follow the candidate (R42, R44). -/
theorem decided_active {p : Part} (hl : p.bl.link = .active) :
    (decided p).pc =
      { p.pc.classify p.sl.inForce .active p.inp.lidh.debounced p.inp.foldh.debounced with
        dwell :=
          if (decided p).pc.candidate = p.pc.published then none
          else if (decided p).pc.candidate = p.pc.candidate then p.pc.dwell
          else some ⟨p.tb, p.sl.inForce.postureDwell⟩
        suppression := suppressionAfter p.sl.inForce.suppressionMask p.pc.suppression (decided p).pc.candidate
          p.pc.published } := by
  have cand : (p.pc.classify p.sl.inForce .active p.inp.lidh.debounced p.inp.foldh.debounced).candidate ≠ .detached := by
    simp only [Pc.classify]
    exact candidateOf_attached rfl _ _ _
  simp only [decided, decideSuppression_eq, hl, dwellStep_eq _ _ _ cand]
  simp [Pc.classify]

/-- An evaluation with an attached link hands on what the steps decided (R45): nothing is published, so POSTURE is offered at
most. -/
theorem evaluatePosture_attached {p : Part} (hl : p.bl.link.attached = true) :
    (∃ o, (evaluatePosture p).pc = { (decided p).pc with offered := o }) ∧
    (evaluatePosture p).bl = (decided p).bl ∧ (evaluatePosture p).kt = (decided p).kt := by
  rw [evaluatePosture_eq, ← decided_published hl]
  obtain ⟨hpc, hrest⟩ := handOn_of_published (decided p)
  exact ⟨⟨_, hpc⟩, hrest⟩

/-- What the steps decide in ACTIVE, field by field (R35 to R44). -/
theorem decided_fields {p : Part} (hl : p.bl.link = .active) :
    (decided p).pc.stored = p.pc.stored ∧
    (decided p).pc.zone = nextZone p.sl.inForce p.pc.stored p.pc.zone ∧
    (decided p).pc.seam = nextSeam (p.pc.stored.validity == .unknown) p.inp.lidh.debounced p.inp.foldh.debounced
      p.pc.zone (decided p).pc.zone p.pc.seam ∧
    (decided p).pc.candidate = candidateOf .active p.inp.lidh.debounced p.inp.foldh.debounced (decided p).pc ∧
    (decided p).pc.published = p.pc.published ∧
    (decided p).pc.dwell =
      (if (decided p).pc.candidate = (decided p).pc.published then none
       else if (decided p).pc.candidate = p.pc.candidate then p.pc.dwell
       else some ⟨p.tb, p.sl.inForce.postureDwell⟩) ∧
    (decided p).pc.suppression = suppressionAfter p.sl.inForce.suppressionMask p.pc.suppression
      (decided p).pc.candidate (decided p).pc.published := by
  have hpc := decided_active hl
  have published : (decided p).pc.published = p.pc.published := decided_published (by rw [hl]; rfl)
  refine ⟨?_, ?_, ?_, ?_, published, ?_, ?_⟩
  iterate 4
    rw [hpc]
    rfl
  · rw [published]
    exact congrArg Pc.dwell hpc
  · rw [published]
    exact congrArg Pc.suppression hpc

theorem decided_told {p : Part} (h : (decided p).pc.suppression ≠ p.pc.suppression) :
    (decided p).kt.suppression = (decided p).pc.suppression ∧ (decided p).bl.quiet = (decided p).pc.suppression := by
  refine decideSuppression_told ?_
  simpa [decided, dwellStep_told, classify_told] using h

/-- A debounced change of LIDH or FOLDH is an evaluation of PC; SA is told of LIDH (R14, R35, R147). -/
theorem debouncedChange_hall {k : Input} (hk : k ∈ [.lidh, .foldh]) (active : Bool) {p : Part} (hl : p.bl.link = .active) :
    (debouncedChange k active p).pc = (evaluatePosture p).pc ∧ (debouncedChange k active p).kt = (evaluatePosture p).kt ∧
    (debouncedChange k active p).bl = (evaluatePosture p).bl := by
  have lid : (lidTold active (evaluatePosture p)).bl = (evaluatePosture p).bl := lidTold_bl _ (by simp [hl])
  simp only [List.mem_cons, List.not_mem_nil, or_false] at hk
  rcases hk with rfl | rfl <;> simp [debouncedChange, lid]

/-- The part as the input's debounced state takes its filtered state (R14). -/
def debouncedTaken (k : Input) (p : Part) : Part :=
  setInput k ⟨(p.inp.get k).level, filteredActive p.sl.inForce k (p.inp.get k).level, none⟩ p

theorem debounceExpired_eq (k : Input) (p : Part) :
    debounceExpired k p =
      settle (debouncedChange k (filteredActive p.sl.inForce k (p.inp.get k).level) (debouncedTaken k p)) := rfl

theorem debouncedTaken_frame (k : Input) (p : Part) :
    (debouncedTaken k p).pc = p.pc ∧ (debouncedTaken k p).bl = p.bl ∧ (debouncedTaken k p).sl = p.sl ∧
    (debouncedTaken k p).tb = p.tb ∧ (debouncedTaken k p).cc = p.cc ∧ (debouncedTaken k p).resetWork = p.resetWork :=
  ⟨rfl, rfl, rfl, rfl, rfl, rfl⟩

theorem debounceExpired_inp (k : Input) (p : Part) : (debounceExpired k p).inp = (debouncedTaken k p).inp := by
  simp [debounceExpired_eq]

/-- After a debounced change of a Hall in ACTIVE PC stands as its evaluation left it, and the link makes no move (R67 to R70). -/
theorem debounceExpired_hall {k : Input} (hk : k ∈ [.lidh, .foldh]) {p : Part} (hl : p.bl.link = .active)
    (ht : p.bl.target ≠ .hibernate) :
    (debounceExpired k p).pc = (evaluatePosture (debouncedTaken k p)).pc ∧
    (debounceExpired k p).kt = (decided (debouncedTaken k p)).kt ∧
    (debounceExpired k p).bl.quiet = (decided (debouncedTaken k p)).bl.quiet := by
  have hl' : (debouncedTaken k p).bl.link = .active := hl
  obtain ⟨hpc, hkt, hbl⟩ := debouncedChange_hall hk (filteredActive p.sl.inForce k (p.inp.get k).level) hl'
  obtain ⟨-, hebl, hekt⟩ := evaluatePosture_attached (p := debouncedTaken _ _) (by rw [hl']; rfl)
  have target : (decided (debouncedTaken k p)).bl.target = p.bl.target := decideSuppression_target _
  have link : (decided (debouncedTaken k p)).bl.link = .active := by simp [decided, hl']
  rw [debounceExpired_eq, settle_of_active (by rw [hbl, hebl, link]) (by rwa [hbl, hebl, target])]
  simp [pump_quiet, hpc, hkt, hbl, hebl, hekt]

/-! ### The pen's session (R110, R118) -/

/-- A debounced change of PENH leaves CC and PN as its moment does (R14, R62). -/
theorem debounceExpired_penh (p : Part) :
    (debounceExpired .penh p).pn =
      (debouncedPenh (filteredActive p.sl.inForce .penh p.inp.penh.level) (debouncedTaken .penh p)).pn ∧
    (debounceExpired .penh p).cc =
      (debouncedPenh (filteredActive p.sl.inForce .penh p.inp.penh.level) (debouncedTaken .penh p)).cc := by
  simp [debounceExpired_eq, debouncedChange, PerInput.get]

theorem penDocked_absent {p : Part} (h : p.cc.session = .absent) :
    (penDocked p).cc = { p.cc with
      session := .settling, stateTimer := some ⟨p.tb, 200⟩, causes := ⟨false, false, false⟩, prechargeRounds := 0 } ∧
    (penDocked p).pn = { p.pn with failures := 0 } := by
  simp [penDocked, h, startTimer]

theorem penGone_fields (p : Part) :
    (penGone p).cc = { p.cc with
      session := .absent, causes := ⟨false, false, false⟩, setpoint := 0, wakingWindows := 0, prechargeRounds := 0
      windowTimer := none, stateTimer := none, windowDue := false, guard := none
      thermalLimit := none, grant := 0, history := none } ∧
    (penGone p).pn = { p.pn with
      phase := .idle, outcome := none, granted := 0, failures := 0, penId := none, report := none, bitTime := none } := by
  simp only [penGone]
  split <;> simp [abandonWindow]

/-- The fault that the session held is not active once the pen is gone (R118, R178). -/
theorem penGone_inactive {p : Part} {f : FaultName} (hf : f ∈ (sessionFault p.cc.session).toList)
    (hw : p.resetWork = none) : (penGone p).nu.faults &&& f.set = 0#7 := by
  rw [Option.mem_toList] at hf
  simp only [penGone, hf]
  refine (clearFault_inactive f _ ?_).1
  exact hw

theorem moment_faults (f : Part → Part) (p : Part) : (moment f p).nu.faults = (f p).nu.faults := by
  have charge (q : Part) : (offerCharge q).nu.faults = q.nu.faults := by simp [offerCharge]
  simp only [moment]
  split <;> split <;> simp [charge, offerPen]

/-- What follows the moment of a debounced PENH leaves the faults (R62). -/
theorem debounceExpired_penh_faults (p : Part) :
    (debounceExpired .penh p).nu.faults =
      (debouncedPenh (filteredActive p.sl.inForce .penh p.inp.penh.level) (debouncedTaken .penh p)).nu.faults := by
  have carried := undisturbed_carried
    (debouncedPenh (filteredActive p.sl.inForce .penh p.inp.penh.level) (debouncedTaken .penh p))
  exact (carried.carried.settle (carried.advisorCarried.penTold _ (.refl _))).1.1

/-! ### The transmitter (R55, R59) -/

/-- The exchange taken leaves the rest of the line but its queue entry (R59). -/
theorem nextExchange_eq {b b' : Bl} {x : Exchange} (h : b.nextExchange = some (x, b')) :
    b' = { b with qMode := b'.qMode, qQuery := b'.qQuery, qAttr := b'.qAttr } := by
  unfold Bl.nextExchange at h
  (repeat' split at h) <;> simp_all <;> obtain ⟨-, rfl⟩ := h <;> rfl

/-- The transmitter changes the line, its queue and its exchange alone (R55, R59, R60). -/
theorem Bl.pump_eq (d : Nat) (now : Time) (b : Bl) :
    b.pump d now = { b with
      tx := (b.pump d now).tx, lineOrder := (b.pump d now).lineOrder, txSeq := (b.pump d now).txSeq
      exch := (b.pump d now).exch, attempts := (b.pump d now).attempts, replyTimer := (b.pump d now).replyTimer
      qMode := (b.pump d now).qMode, qQuery := (b.pump d now).qQuery, qAttr := (b.pump d now).qAttr } := by
  unfold Bl.pump
  split
  · rfl
  · split
    · rfl
    · rfl
    · split
      · rfl
      · rfl
      · split
        · next hx =>
          rw [nextExchange_eq hx]
          rfl
        · rfl

/-- A link state that sends no MODE sends no exchange (R59). -/
theorem nextExchange_of_silent {b : Bl} (h : b.link.sendsMode = false) : b.nextExchange = none := by
  have query : b.link.sendsQuery = false := by cases hl : b.link <;> simp_all [Link.sendsMode, Link.sendsQuery]
  have attr : b.link.sendsAttr = false := by cases hl : b.link <;> simp_all [Link.sendsMode, Link.sendsAttr]
  simp [Bl.nextExchange, h, query, attr]

theorem Bl.pump_silent (d : Nat) (now : Time) {b : Bl} (h : b.link.sendsMode = false) (hx : b.exch = none) :
    b.pump d now = { b with tx := (b.pump d now).tx, lineOrder := (b.pump d now).lineOrder } := by
  unfold Bl.pump
  split
  · rfl
  · split
    · rfl
    · rfl
    · simp only [hx, nextExchange_of_silent h]
      rw [← hx]

/-- In a link state that sends nothing, `settle` is the transmitter and the stall idle timer's end (R59, R67). -/
theorem settle_silent {p : Part} (h : p.bl.link.sendsMode = false) :
    settle p = { p with bl := { p.bl.pump p.sl.inForce.lineReset p.tb with stallTimer := none } } := by
  have idle : p.bl.link.attached = false := by cases hl : p.bl.link <;> simp_all [Link.sendsMode, Link.attached]
  have inactive : p.bl.link ≠ .active := by rintro hl; simp [hl, Link.sendsMode] at h
  rw [settle_of_not_attached idle]
  simp [pump, stallSync, inactive]

/-- A base gone or powering leaves all but the line, its queue and its exchange (R59, R67). -/
theorem settle_silent_eq {p : Part} (h : p.bl.link.sendsMode = false) :
    (settle p).bl = { p.bl with
      tx := (settle p).bl.tx, lineOrder := (settle p).bl.lineOrder, txSeq := (settle p).bl.txSeq
      exch := (settle p).bl.exch, attempts := (settle p).bl.attempts, replyTimer := (settle p).bl.replyTimer
      qMode := (settle p).bl.qMode, qQuery := (settle p).bl.qQuery, qAttr := (settle p).bl.qAttr
      stallTimer := none } := by
  rw [settle_silent h]
  conv_lhs => rw [Bl.pump_eq]

/-- With no exchange it sends nothing (R59, R61). -/
theorem settle_silent_bl {p : Part} (h : p.bl.link.sendsMode = false) (hx : p.bl.exch = none) :
    (settle p).bl = { p.bl with
      tx := (settle p).bl.tx, lineOrder := (settle p).bl.lineOrder, stallTimer := none } := by
  rw [settle_silent h]
  conv_lhs => rw [Bl.pump_silent _ _ h hx]

/-! ### Attach and detach (R64, R73) -/

theorem setReservation_bl (r : Nat) (p : Part) : (setReservation r p).bl = { p.bl with reservation := r } := by
  unfold setReservation
  split
  · next h => rw [h]
  · simp [chargeReservation]

/-- POWERING is entered with its timer and its reservation (R64, R76). -/
theorem enterPowering_bl (e : BaseEvent) (p : Part) :
    (enterPowering e p).bl.link = .powering ∧ (enterPowering e p).bl.powerTimer = some ⟨p.tb, 5⟩ ∧
    (enterPowering e p).bl.reservation = 1200 ∧ (enterPowering e p).bl.expSeq = none ∧
    (enterPowering e p).bl.helloAttempts = 0 ∧ (enterPowering e p).bl.txSeq = 0#4 ∧
    (p.bl.exch = none → (enterPowering e p).bl.exch = none) := by
  simp only [enterPowering, offerBase_frame, enterLink_bl_frame, setReservation_bl, clearLinkFault_frame, startTimer,
    true_and]
  intro hx
  simp [hx]

/-- What the transmitter leaves in POWERING. -/
theorem settle_powering {p : Part} (h : p.bl.link = .powering) :
    (settle p).bl.link = .powering ∧ (settle p).bl.powerTimer = p.bl.powerTimer ∧
    (settle p).bl.reservation = p.bl.reservation ∧ (settle p).bl.expSeq = p.bl.expSeq ∧
    (settle p).bl.helloAttempts = p.bl.helloAttempts ∧
    (p.bl.exch = none → (settle p).bl.txSeq = p.bl.txSeq ∧ (settle p).bl.exch = none) := by
  have silent : p.bl.link.sendsMode = false := by rw [h]; rfl
  have kept := settle_silent_eq silent
  refine ⟨(congrArg Bl.link kept).trans h, (congrArg Bl.powerTimer kept :), (congrArg Bl.reservation kept :),
    (congrArg Bl.expSeq kept :), (congrArg Bl.helloAttempts kept :), fun hx => ?_⟩
  have sent := settle_silent_bl silent hx
  exact ⟨(congrArg Bl.txSeq sent :), (congrArg Bl.exch sent).trans hx⟩

/-- Where no MODE follows a change of suppression, it leaves of BL all but the quiet flag (R77). -/
theorem decided_bl {p : Part} (h : p.bl.link.live = false) : ∃ on, (decided p).bl = { p.bl with quiet := on } := by
  have queue (on : Bool) (q : Part) (hq : q.bl.link.live = false) : (quietChanged on q).bl = { q.bl with quiet := on } := by
    cases hl : q.bl.link <;> simp_all [Link.live, quietChanged]
  simp only [decided, decideSuppression]
  split
  · exact ⟨p.bl.quiet, rfl⟩
  · exact ⟨_, (queue _ _ (by simpa using h)).trans (by simp; rfl)⟩

/-- In DETACHED an evaluation leaves of BL all but the quiet flag and the target (R77, R140). -/
theorem evaluatePosture_bl_detached {p : Part} (h : p.bl.link = .detached) :
    ∃ on m, (evaluatePosture p).bl = { p.bl with quiet := on, target := m } := by
  have told (q : Part) (hq : q.bl.link = .detached) : ∃ m, (tellPosture q).bl = { q.bl with target := m } := by
    have posture : (postureTold q.pc.published (orientationTold q.pc.published q)).bl = q.bl := by
      simp only [postureTold]
      split
      · simp
      · split
        · rw [wakeCause_bl _ (by simp [hq])]
          simp
        · simp
    simp only [tellPosture]
    split
    · exact ⟨_, by simp [orderTarget, posture, hq]; rfl⟩
    · exact ⟨q.bl.target, posture⟩
  have handed (q : Part) (hq : q.bl.link = .detached) : ∃ m, (handOn p.pc.published q).bl = { q.bl with target := m } := by
    have offered (q : Part) : (offerPosture q).bl = q.bl := by simp [offerPosture]
    simp only [handOn, apply_ite Part.bl, offered, ite_self]
    split
    · exact ⟨q.bl.target, rfl⟩
    · exact told q hq
  obtain ⟨on, hon⟩ := decided_bl (p := p) (by rw [h]; rfl)
  obtain ⟨m, hm⟩ := handed (decided p) (by rw [hon]; exact h)
  exact ⟨on, m, by rw [evaluatePosture_eq, hm, hon]⟩

/-- With no base to be had a request of PW fails, and none reaches the line (R86). -/
theorem takeRequests_bl_dead (rs : List Request) {p : Part} (h : p.bl.link.dead = true) : (takeRequests rs p).bl = p.bl := by
  induction rs generalizing p with
  | nil => rfl
  | cons r rs ih =>
    have failed (code : Word) : (takeRequests rs (completeFailed r code p)).bl = p.bl := by
      rw [ih (by simpa using h)]
      simp
    unfold takeRequests
    split
    · exact failed _
    · exact failed _

theorem failRequest_bl_dead {p : Part} (h : p.bl.link.dead = true) : (failRequest p).bl = p.bl := by
  have next {q : Part} (hq : q.bl = p.bl) : (takeNext q).bl = p.bl := by
    unfold takeNext
    split
    · exact hq
    · rw [takeRequests_bl_dead _ (by rwa [hq]), hq]
  unfold failRequest finishRequest
  split
  · exact next (by simp)
  · split
    · exact next (by simp)
    · rfl
  · exact next rfl

/-- Entering DETACHED leaves of BL's queue what it found (R61, R62). -/
theorem enterLink_detached_bl (p : Part) :
    ∃ on m, (enterLink .detached p).bl = { p.bl.changeLink .detached with quiet := on, target := m } := by
  let q := linkToldKeys p.bl.link .detached { p with bl := p.bl.changeLink .detached }
  have hq : q.bl = p.bl.changeLink .detached := by simp [q]
  have same : (enterLink .detached p).bl = (evaluatePosture q).bl := by
    have ended : (endWalk (if p.bl.link = .hibernate then
        { evaluatePosture q with pw := { (evaluatePosture q).pw with wakeAsked := false } }
        else evaluatePosture q)).bl = (evaluatePosture q).bl := by split <;> simp
    simp only [enterLink, linkTold, linkToldProfile, activity_frame]
    rw [failRequest_bl_dead]
    · exact ended
    · rw [ended]
      simp [hq, Bl.changeLink, Link.dead]
  rw [same, ← hq]
  exact evaluatePosture_bl_detached (by rw [hq]; rfl)

/-- The line's queue emptied, with every timer of BL cancelled (R61, R73). -/
theorem emptyQueue_bl (gone : Bool) (p : Part) :
    (emptyQueue gone p).bl = { p.bl with
      tx := p.bl.tx.map Tx.orphan, lineOrder := none
      qMode := none, qQuery := false, qAttr := none, exch := none, attempts := 0, replyTimer := none } := by
  refine holds_ite (P := fun q => q.bl = _) ?_ rfl
  simp

/-- What BL holds of a base that is gone: nothing of the exchange, the timers, the identity and the reservation (R73, R76). -/
def Bl.Gone (b : Bl) : Prop :=
  (b.link = .detached ∧ b.reservation = 0 ∧ b.vbaseEn = false ∧ b.ident = none ∧ b.status = none ∧ b.ovReply = none ∧
    b.ovStall = none) ∧
  (b.exch = none ∧ b.quietQueue = true ∧ b.replyTimer = none ∧ b.helloTimer = none ∧ b.stallTimer = none ∧
    b.powerTimer = none ∧ b.activateTimer = none ∧ b.minHibTimer = none ∧ b.pendingWake = false ∧ b.heldHello = none)

theorem enterDetached_gone (p : Part) : (enterDetached p).bl.Gone := by
  obtain ⟨on, m, hbl⟩ := enterLink_detached_bl (setReservation 0
    { emptyQueue true (clearLinkFault p) with bl := { (emptyQueue true (clearLinkFault p)).bl.cancelTimers with
        expSeq := none, ovReply := none, ovStall := none, ident := none, status := none } })
  dsimp only at hbl
  simp only [enterDetached, offerBase_frame]
  rw [hbl, setReservation_bl, emptyQueue_bl]
  simp [Bl.Gone, Bl.changeLink, Bl.cancelTimers, Bl.vbaseEn, Bl.quietQueue]

/-- The transmitter finds nothing to send for a base that is gone (R59). -/
theorem settle_gone {p : Part} (h : p.bl.Gone) : (settle p).bl.Gone := by
  have link := h.1.1
  have exch := h.2.1
  rw [settle_silent_bl (by rw [link]; rfl) exch]
  simp_all [Bl.Gone, Bl.vbaseEn, Bl.quietQueue]

/-- Without an attached link DETACHED is published at once (R42). -/
theorem decided_unattached {p : Part} (hl : p.bl.link.attached = false) : (decided p).pc.published = .detached := by
  rw [decided, (decideSuppression_pc _).1]
  simp only [Pc.dwellStep, Pc.classify, candidateOf, hl, Bool.not_false, if_true]
  split
  · next h => exact h.symm
  · rfl

/-- Entering DETACHED publishes DETACHED (R42, R73). -/
theorem enterLink_detached_published (p : Part) : (enterLink .detached p).pc.published = .detached := by
  have evaluated {q : Part} (hq : q.bl.link = .detached) : (evaluatePosture q).pc.published = .detached := by
    rw [evaluatePosture_eq, handOn_published, decided_unattached (by rw [hq]; rfl)]
  simp [enterLink, evaluated, Bl.changeLink]

/-! ### The command (R14) -/

theorem exec_debounceExpiry {k : Input} {s : State} (h : timerDue (s.part.inp.get k).timer s.part.tb = true) :
    exec (.debounceExpiry k) s = .next (s.on (debounceExpired k)) := by
  simp [exec, execDebounceExpiry, h]

/-- Settles O12: by the input, and by what its filtered state says. -/
theorem debouncedChangesReachTheirBlocks : Obligations.DebouncedChangesReachTheirBlocks := by
  refine ⟨fun k s hd => ?_, fun k s hd hk hl ht _ => ?_, fun s hd ha hs => ?_, fun s hd ha => ?_,
    fun s hd ha hl => ?_, fun s hd ha hl => ?_⟩
  · exact ⟨_, exec_debounceExpiry hd, debounceExpired_inp k _⟩
  · refine ⟨_, exec_debounceExpiry hd, ?_⟩
    have hl' : (debouncedTaken k s.part).bl.link = .active := hl
    obtain ⟨hpc, hkt, hquiet⟩ := debounceExpired_hall hk hl ht
    obtain ⟨⟨o, hoffered⟩, -⟩ := evaluatePosture_attached (p := debouncedTaken _ _) (by rw [hl']; rfl)
    obtain ⟨hstored, hzone, hseam, hcand, hpub, hdwell, hsupp⟩ := decided_fields hl'
    simp only [State.on_part, debounceExpired_inp, hpc, hoffered, hkt, hquiet]
    exact ⟨hstored, hzone, hseam, hcand, hpub, hdwell, hsupp, decided_told⟩
  · refine ⟨_, exec_debounceExpiry (k := .penh) hd, ?_⟩
    obtain ⟨hpn, hcc⟩ := debounceExpired_penh s.part
    obtain ⟨hdc, hdn⟩ := penDocked_absent (p := debouncedTaken .penh s.part) hs
    obtain ⟨m, n, hm⟩ := moment_cc penDocked (debouncedTaken .penh s.part)
    simp only [State.on_part, hpn, hcc, ha, debouncedPenh, if_true, hm, moment_frame, hdc, hdn, true_and, and_true]
    rfl
  · refine ⟨_, exec_debounceExpiry (k := .penh) hd, ?_⟩
    obtain ⟨hpn, hcc⟩ := debounceExpired_penh s.part
    obtain ⟨hgc, hgn⟩ := penGone_fields (debouncedTaken .penh s.part)
    refine ⟨?_, ?_, fun f hf hw => ?_⟩
    · obtain ⟨m, n, hm⟩ := moment_cc penGone (debouncedTaken .penh s.part)
      simp [hcc, ha, debouncedPenh, hm, hgc]
    · simp [hpn, ha, debouncedPenh, hgn]
    · have inactive := penGone_inactive (p := debouncedTaken .penh s.part) hf hw
      simpa [FaultActive, debounceExpired_penh_faults, ha, debouncedPenh, moment_faults] using inactive
  · refine ⟨_, exec_debounceExpiry (k := .bpres) hd, ?_⟩
    have powering : debounceExpired .bpres s.part =
        settle (settle (enterPowering .attached (debouncedTaken .bpres s.part))) := by
      simp [debounceExpired_eq, debouncedChange, presenceTold, PerInput.get, ha, debouncedTaken_frame, hl]
    obtain ⟨hlink, htimer, hres, hexp, hatt, hseq, hexch⟩ := enterPowering_bl .attached (debouncedTaken .bpres s.part)
    obtain ⟨hlink₁, htimer₁, hres₁, hexp₁, hatt₁, hseq₁⟩ := settle_powering hlink
    obtain ⟨hlink₂, htimer₂, hres₂, hexp₂, hatt₂, hseq₂⟩ := settle_powering hlink₁
    simp only [State.on_part, powering]
    refine ⟨hlink₂, htimer₂.trans (htimer₁.trans htimer), hres₂.trans (hres₁.trans hres),
      hexp₂.trans (hexp₁.trans hexp), hatt₂.trans (hatt₁.trans hatt), by simp [Bl.vbaseEn, hlink₂], fun hx => ?_⟩
    obtain ⟨sent₁, exch₁⟩ := hseq₁ (hexch hx)
    exact (hseq₂ exch₁).1.trans (sent₁.trans hseq)
  · refine ⟨_, exec_debounceExpiry (k := .bpres) hd, ?_⟩
    have gone : debounceExpired .bpres s.part = settle (settle (enterDetached (debouncedTaken .bpres s.part))) := by
      simp [debounceExpired_eq, debouncedChange, presenceTold, PerInput.get, ha, debouncedTaken_frame, hl]
    simp only [State.on_part, gone]
    have left := settle_gone (enterDetached_gone (debouncedTaken .bpres s.part))
    obtain ⟨hheld, hidle⟩ := settle_gone left
    refine ⟨hheld, hidle, ?_⟩
    rw [settle_silent (by rw [left.1.1]; rfl), settle_silent (by rw [(enterDetached_gone _).1.1]; rfl)]
    simp [enterDetached, enterLink_detached_published]

end Sys2Proof.Machine

/-! The end of the reset's work (O7): the offers that waited are taken in order, and their fault changes with them. -/

namespace Sys2Proof.Machine

/-! ### The active fault set by its bits (R178) -/

/-- A fault is active in the set. -/
def holdsFault (f : FaultName) (x : FaultSet) : Bool := x.getLsbD f.bit

theorem and_set_ne_zero_iff (f : FaultName) (x : FaultSet) : x &&& f.set ≠ 0#7 ↔ holdsFault f x = true := by
  cases f <;> revert x <;> decide

theorem and_set_eq_zero_iff (f : FaultName) (x : FaultSet) : x &&& f.set = 0#7 ↔ holdsFault f x = false := by
  rw [← not_iff_not, ← ne_eq, and_set_ne_zero_iff, Bool.not_eq_false]

theorem holdsFault_set (f g : FaultName) : holdsFault f g.set = decide (g = f) := by
  cases f <;> cases g <;> rfl

theorem FaultName.bit_lt (f : FaultName) : f.bit < 7 := by cases f <;> decide

/-! ### An offer taken (R175, R178) -/

variable {p : Part}

/-- A fault is active after an offer that has it join, and when it was active and the offer does not have it leave (R178). -/
theorem takeOffer_holdsFault (o : Offer) (f : FaultName) (p : Part) :
    holdsFault f (takeOffer o p).nu.faults =
      (decide (o.joins = some f) || (holdsFault f p.nu.faults && !holdsFault f o.leaves)) := by
  have lt := f.bit_lt
  cases o with
  | content c => simp [takeOffer, Offer.joins, Offer.leaves, holdsFault]
  | faults join leave =>
    have joined (g : FaultName) : g.set.getLsbD f.bit = decide (g = f) := holdsFault_set f g
    cases join <;>
      simp only [takeOffer, absorb_nu, changeFaults, Offer.joins, Offer.leaves, holdsFault, BitVec.getLsbD_or,
        BitVec.getLsbD_and, BitVec.getLsbD_not, joined] <;>
      cases p.nu.faults.getLsbD f.bit <;> cases leave.getLsbD f.bit <;> simp [lt]

/-- The last code is that of the fault that joins, and stands otherwise (R178). -/
theorem takeOffer_lastFault (o : Offer) (p : Part) :
    (takeOffer o p).nu.lastFault = if o.joins = none then p.nu.lastFault else o.joins := by
  cases o with
  | content c => simp [takeOffer, Offer.joins]
  | faults join leave => cases join <;> simp [takeOffer, changeFaults, Offer.joins]

/-- The class's record is under way (R175, R177); KEYS out of IDLE keeps its content in the key queue (R174). -/
def ClassWaits (d : NoticeClass) (p : Part) : Prop :=
  if d = .keys then (p.nu.classes.keys.publishing ≠ none ∨ p.nu.classes.keys.state ≠ .idle)
  else (p.nu.classes.get d).publishing ≠ none ∨ (p.nu.classes.get d).shadow ≠ none

theorem absorb_keys_publishing (c : Content) (h : p.nu.classes.keys.publishing ≠ none) :
    (absorb c p).nu.classes.keys.publishing ≠ none := by
  by_cases hc : NoticeClass.keys = c.cls
  · have same : (p.nu.classes.get c.cls).publishing ≠ none := by rw [← hc]; exact h
    have kept : ((absorb c p).nu.classes.get c.cls).publishing ≠ none := by
      rw [absorb_busy c p (fun hi => same hi.2)]
      simpa [setCell] using same
    rw [← hc] at kept
    exact kept
  · have other := absorb_other c p hc
    exact fun he => h ((congrArg ClassCell.publishing other).symm.trans he)

theorem absorb_keeps_waits (c : Content) {d : NoticeClass} (h : ClassWaits d p) : ClassWaits d (absorb c p) := by
  have state := absorb_state c p .keys
  unfold ClassWaits at *
  split at h
  · rw [if_pos ‹_›]
    rcases h with h | h
    · exact .inl (absorb_keys_publishing c h)
    · exact .inr (fun he => h (state.symm.trans he))
  · rw [if_neg ‹_›]
    exact absorb_keeps_underWay c p d h ‹_›

/-- The class offered is under way after its offer (R175). -/
theorem absorb_waits (c : Content) (p : Part) : ClassWaits c.cls (absorb c p) := by
  unfold ClassWaits
  split
  · next hk =>
    by_cases hs : p.nu.classes.keys.state = .idle
    · left
      by_cases hp : p.nu.classes.keys.publishing = none
      · rw [absorb_idle c p (by rw [hk]; exact hs) (by rw [hk]; exact hp), publish_nu, hk]
        simp [PerClass.set, recordWords]
      · exact absorb_keys_publishing c hp
    · right
      have state := absorb_state c p .keys
      exact fun he => hs (state.symm.trans he)
  · next hk =>
    refine absorb_underWay c p ?_
    rintro rfl
    exact hk rfl

theorem takeOffer_keeps_waits (o : Offer) {d : NoticeClass} (h : ClassWaits d p) : ClassWaits d (takeOffer o p) := by
  cases o with
  | content c => exact absorb_keeps_waits c h
  | faults join leave => exact absorb_keeps_waits _ (p := { p with nu := (changeFaults join leave p.nu).1 }) h

theorem takeOffer_waits (o : Offer) (p : Part) : ClassWaits o.cls (takeOffer o p) := by
  cases o with
  | content c => exact absorb_waits c p
  | faults join leave => exact absorb_waits (.fault _) _

/-! ### The offers that waited (R174) -/

/-- Offers taken in order. -/
def takeOffers (os : List Offer) (p : Part) : Part := os.foldl (fun q o => takeOffer o q) p

theorem takeOffers_cons (o : Offer) (os : List Offer) (p : Part) :
    takeOffers (o :: os) p = takeOffers os (takeOffer o p) := rfl

theorem takeOffers_keeps_waits (os : List Offer) {d : NoticeClass} (h : ClassWaits d p) : ClassWaits d (takeOffers os p) := by
  induction os generalizing p with
  | nil => exact h
  | cons o os ih => exact ih (takeOffer_keeps_waits o h)

theorem takeOffers_waits {os : List Offer} {o : Offer} (ho : o ∈ os) (p : Part) : ClassWaits o.cls (takeOffers os p) := by
  induction os generalizing p with
  | nil => simp at ho
  | cons o' os ih =>
    rcases List.mem_cons.mp ho with rfl | ho
    · exact takeOffers_keeps_waits os (takeOffer_waits _ p)
    · exact ih ho _

/-- A fault that no offer has leave stays active. -/
theorem takeOffers_active {os : List Offer} {f : FaultName} (h : holdsFault f p.nu.faults = true)
    (hos : ∀ o ∈ os, holdsFault f o.leaves = false) : holdsFault f (takeOffers os p).nu.faults = true := by
  induction os generalizing p with
  | nil => exact h
  | cons o os ih =>
    refine ih ?_ (fun o ho => hos o (List.mem_cons_of_mem _ ho))
    simp [takeOffer_holdsFault, h, hos o (List.mem_cons_self ..)]

/-- A fault that no offer has join stays inactive. -/
theorem takeOffers_inactive {os : List Offer} {f : FaultName} (h : holdsFault f p.nu.faults = false)
    (hos : ∀ o ∈ os, o.joins ≠ some f) : holdsFault f (takeOffers os p).nu.faults = false := by
  induction os generalizing p with
  | nil => exact h
  | cons o os ih =>
    refine ih ?_ (fun o ho => hos o (List.mem_cons_of_mem _ ho))
    simp [takeOffer_holdsFault, h, hos o (List.mem_cons_self ..)]

theorem takeOffers_lastFault {os : List Offer} (hos : ∀ o ∈ os, o.joins = none) (p : Part) :
    (takeOffers os p).nu.lastFault = p.nu.lastFault := by
  induction os generalizing p with
  | nil => rfl
  | cons o os ih =>
    rw [takeOffers_cons, ih (fun o ho => hos o (List.mem_cons_of_mem _ ho)), takeOffer_lastFault,
      if_pos (hos o (List.mem_cons_self ..))]

theorem takeOffers_deferred (os : List Offer) (p : Part) : (takeOffers os p).nu.deferred = p.nu.deferred := by
  induction os generalizing p with
  | nil => rfl
  | cons o os ih => rw [takeOffers_cons, ih]; simp

theorem takeOffers_keys_state (os : List Offer) (p : Part) :
    (takeOffers os p).nu.classes.keys.state = p.nu.classes.keys.state := by
  induction os generalizing p with
  | nil => rfl
  | cons o os ih => exact (ih _).trans (takeOffer_state o p .keys)

/-- The offers of a list by the one at a place (R174). -/
theorem takeOffers_at {os : List Offer} {k : Nat} (hk : k < os.length) (p : Part) :
    takeOffers os p = takeOffers (os.drop (k + 1)) (takeOffer os[k] (takeOffers (os.take k) p)) := by
  have parts : os = os.take k ++ os[k] :: os.drop (k + 1) := by
    rw [← List.drop_eq_getElem_cons hk, List.take_append_drop]
  conv_lhs => rw [parts, takeOffers, List.foldl_append, List.foldl_cons]
  rfl

/-! ### The end of the reset's work (R5, R174) -/

/-- The part as the waiting offers are taken: the reset's work has ended, and a refused area has been reported (log entry 42). -/
def workDone (w : ResetWork) (p : Part) : Part :=
  let q := { p with resetWork := none }
  let q := if w.rejected then takeOffer (.faults (some .settingsRejected) 0#7) q else q
  { q with nu := { q.nu with deferred := [] } }

theorem workEnded_nu (w : ResetWork) (p : Part) :
    (workEnded w p).nu = (takeOffers p.nu.deferred (workDone w p)).nu := by
  have deferred : (if w.rejected then takeOffer (.faults (some .settingsRejected) 0#7) { p with resetWork := none }
      else { p with resetWork := none }).nu.deferred = p.nu.deferred := by split <;> simp
  simp only [workEnded, (leaveStarting_frames _).2, beginDueHold_frame, takeDeferred, raiseFault, offer]
  rw [deferred]
  rfl

theorem exec_resetWorkEnd {w : ResetWork} {s : State} (hw : s.part.resetWork = some w) (hr : s.part.resetLow = false) :
    exec .resetWorkEnd s = .next (finishWork w s) := by
  simp [exec, execResetWorkEnd, hw, hr]

/-- A refused area is reported before the offers that waited (R173, log entry 42). -/
theorem workDone_rejected {w : ResetWork} (hw : w.rejected = true) (p : Part) :
    holdsFault .settingsRejected (workDone w p).nu.faults = true ∧
    (workDone w p).nu.lastFault = some .settingsRejected := by
  simp [workDone, hw, takeOffer_holdsFault, takeOffer_lastFault, Offer.joins]

theorem workDone_keys_state (w : ResetWork) (p : Part) :
    (workDone w p).nu.classes.keys.state = p.nu.classes.keys.state := by
  have taken := takeOffer_state (.faults (some .settingsRejected) 0#7) { p with resetWork := none } .keys
  simp only [workDone]
  split
  · exact taken
  · rfl

/-- After the offers that waited a class offered is under way, or KEYS keeps it in the key queue (R174, R175). -/
theorem workEnded_underWay (w : ResetWork) {o : Offer} (ho : o ∈ p.nu.deferred) :
    ((workEnded w p).nu.classes.get o.cls).publishing ≠ none ∨ ((workEnded w p).nu.classes.get o.cls).shadow ≠ none ∨
    (o.cls = .keys ∧ p.nu.classes.keys.state ≠ .idle) := by
  have waits := takeOffers_waits ho (workDone w p)
  rw [workEnded_nu]
  unfold ClassWaits at waits
  split at waits
  · next hk =>
    rw [takeOffers_keys_state, workDone_keys_state] at waits
    rcases waits with h | h
    · left
      rw [hk]
      exact h
    · exact .inr (.inr ⟨hk, h⟩)
  · rcases waits with h | h
    · exact .inl h
    · exact .inr (.inl h)

/-- Settles O7: the words by the memory's writes, and the fault changes by the place of the offer that makes them. -/
theorem resetWorkEnds : Obligations.ResetWorkEnds := by
  intro w s hw hr hoff hnodup hmem
  have cells : ∀ r ∈ w.writes, cellAddress (settingsBase + r.1) = true := by
    intro r hrm
    have lt := hoff r hrm
    simp [cellAddress, settingsBase]
    exact decide_eq_true (by omega)
  have active (f : FaultName) : FaultActive f (finishWork w s) ↔
      holdsFault f (takeOffers s.part.nu.deferred (workDone w s.part)).nu.faults = true := by
    rw [← workEnded_nu]
    exact and_set_ne_zero_iff f _
  refine ⟨_, exec_resetWorkEnd hw hr, workEnded_resetWork w _, ?_, fun r hrm => Memory.read_writeAt hmem _ hnodup cells hrm,
    fun a ha => Memory.read_writeAt_other _ _ _ ha, workEnded_partState w _, fun hrej => ⟨fun h => ?_, fun h => ?_⟩,
    fun o ho => ?_, fun f _ k hk => ⟨fun hj => ?_, fun hl hnj => ?_⟩⟩
  · show (workEnded w s.part).nu.deferred = []
    rw [workEnded_nu, takeOffers_deferred]
    rfl
  · rw [active]
    exact takeOffers_active (workDone_rejected hrej _).1 (fun o ho => (and_set_eq_zero_iff _ _).mp (h o ho))
  · show (workEnded w s.part).nu.lastFault = _
    rw [workEnded_nu, takeOffers_lastFault h]
    exact (workDone_rejected hrej _).2
  · rcases workEnded_underWay w ho with h | h | h
    · exact .inl (.inl h)
    · exact .inl (.inr h)
    · exact .inr h
  · simp only [List.getElem?_eq_getElem hk, Option.bind_some] at hj
    refine ⟨fun h => ?_, fun h => ?_⟩
    · rw [active, takeOffers_at hk]
      refine takeOffers_active ?_ (fun o ho => (and_set_eq_zero_iff _ _).mp (h o ho))
      simp [takeOffer_holdsFault, hj]
    · show (workEnded w s.part).nu.lastFault = _
      rw [workEnded_nu, takeOffers_at hk, takeOffers_lastFault h, takeOffer_lastFault, hj]
      rfl
  · simp only [List.getElem?_eq_getElem hk, Option.map_some, Option.getD_some, and_set_ne_zero_iff] at hl
    rw [List.drop_eq_getElem_cons hk] at hnj
    rw [active, takeOffers_at hk, Bool.not_eq_true]
    refine takeOffers_inactive ?_ (fun o ho => hnj o (List.mem_cons_of_mem _ ho))
    simp [takeOffer_holdsFault, hl, hnj _ (List.mem_cons_self ..)]

end Sys2Proof.Machine

/-! A change of host state (O38): what it sets, and the link's hibernation that its order brings. -/

namespace Sys2Proof.Machine

variable {p : Part}

/-! ### The target mode (R68, R139, R140) -/

@[simp] theorem orderWake_target (p : Part) : (orderWake p).bl.target = p.bl.target := by
  unfold orderWake
  split <;> rfl

@[simp] theorem askWake_target (p : Part) : (askWake p).bl.target = p.bl.target := by
  unfold askWake
  split <;> simp

@[simp] theorem submit_target (o : Origin) (op : AttrOp) (p : Part) : (submit o op p).bl.target = p.bl.target := by
  simp [submit]

@[simp] theorem runWaiting_target (p : Part) : (runWaiting p).bl.target = p.bl.target := by
  have run (r : Request) : (runRequest r p).bl.target = p.bl.target := by
    unfold runRequest
    dsimp only
    split <;> simp
  unfold runWaiting
  split
  · split
    · exact run _
    · rfl
  · rfl

/-- An attached link that enters another state keeps its target and PW's requests: nothing is published (R42, R62). -/
theorem enterLink_attached {new : Link} (h : new.attached = true) (p : Part) :
    (enterLink new p).bl.target = p.bl.target ∧ (enterLink new p).rq = p.rq := by
  let q := linkToldKeys p.bl.link new { p with bl := p.bl.changeLink new }
  have link : q.bl.link.attached = true := by simpa [q, Bl.changeLink] using h
  have target : (evaluatePosture q).bl.target = p.bl.target := by
    rw [(evaluatePosture_attached link).2.1]
    exact (decideSuppression_target _).trans (by simp [q, Bl.changeLink])
  have rq : (evaluatePosture q).rq = p.rq := by simp [q]
  have woken (c : Prop) [Decidable c] : (if c then { evaluatePosture q with
      pw := { (evaluatePosture q).pw with wakeAsked := false } } else evaluatePosture q).bl.target = p.bl.target ∧
      (if c then { evaluatePosture q with
        pw := { (evaluatePosture q).pw with wakeAsked := false } } else evaluatePosture q).rq = p.rq := by
    split <;> exact ⟨target, rq⟩
  cases new with
  | active => simpa only [enterLink, linkTold, linkToldProfile, runWaiting_target, runWaiting_frame] using woken _
  | stall => exact woken _
  | hibernate => simpa only [enterLink, linkTold, linkToldProfile, askWake_target, askWake_frame] using woken _
  | _ => simp [Link.attached] at h

/-- Without an attached link the target stays but for the order of a sleeping host, STALL (R45, R139, R140). -/
theorem evaluatePosture_target {p : Part} (hl : p.bl.link.attached = false) :
    (evaluatePosture p).bl.target = p.bl.target ∨
    (p.sa.hostState = .sleeping ∧ (evaluatePosture p).bl.target = .stall) := by
  have link : (decided p).bl.link ≠ .hibernate := by
    intro h
    simp [decided] at h
    simp [h, Link.attached] at hl
  have host : (decided p).sa.hostState = p.sa.hostState := by simp [decided]
  have target : (decided p).bl.target = p.bl.target := decideSuppression_target _
  have published := decided_unattached hl
  have offered (q : Part) : (offerPosture q).bl = q.bl := by simp [offerPosture]
  have told : (postureTold .detached (orientationTold .detached (decided p))).bl = (decided p).bl := by
    simp only [postureTold]
    split
    · simp
    · simp
  have hostTold : (postureTold .detached (orientationTold .detached (decided p))).sa.hostState = p.sa.hostState :=
    ((undisturbed_carried (decided p)).toldPosture .detached (.refl _)).2.2.1.1.trans host
  rw [evaluatePosture_eq]
  simp only [handOn, apply_ite Part.bl, offered, ite_self, tellPosture, published]
  split
  · exact .inl target
  · rw [hostTold]
    split
    · exact .inr ⟨‹_›, rfl⟩
    · exact .inl (by rw [told, target])

/-- The wake break keeps the target, or finds it STALL (R70, R140). -/
theorem enterWaking_order (p : Part) :
    ((enterWaking p).bl.target = p.bl.target ∨ (p.sa.hostState = .sleeping ∧ (enterWaking p).bl.target = .stall)) ∧
    (enterWaking p).rq = p.rq := by
  let r : Part := { p with bl := { p.bl.abandonMode with
    pendingWake := false, minHibTimer := none, lineOrder := some .wakeBreak } }
  let q := linkToldKeys r.bl.link .waking { r with bl := r.bl.changeLink .waking }
  have abandoned : p.bl.abandonMode.target = p.bl.target := by
    unfold Bl.abandonMode
    split <;> rfl
  have target : q.bl.target = p.bl.target := by simp [q, r, Bl.changeLink, abandoned]
  have host : q.sa.hostState = p.sa.hostState := by simp [q, r]
  have evaluated := evaluatePosture_target (p := q) (by simp [q, r, Bl.changeLink, Link.attached])
  rw [target, host] at evaluated
  have woken (c : Prop) [Decidable c] : (if c then { evaluatePosture q with
      pw := { (evaluatePosture q).pw with wakeAsked := false } } else evaluatePosture q).bl = (evaluatePosture q).bl := by
    split <;> rfl
  have link : (enterWaking p).bl = (evaluatePosture q).bl := by
    simp only [enterWaking, offerBase_frame]
    exact woken _
  refine ⟨by rwa [link], ?_⟩
  simp only [enterWaking, offerBase_frame, enterLink, linkTold, linkToldProfile]
  split <;> simp

theorem pump_target (r : Bool) (p : Part) : (pump r p).bl.target = p.bl.target :=
  (congrArg Bl.target (Bl.pump_eq p.sl.inForce.lineReset p.tb p.bl) :)

/-- What follows a mode order leaves the target, given that a sleeping host orders a link that is to wake to STALL (R68 to R70,
R139), and PW's requests. -/
theorem modeOrder_order (m : LinkMode) {p : Part} (h : p.sa.hostState = .sleeping → m ≠ .hibernate → m = .stall) :
    (modeOrder m p).bl.target = m ∧ (modeOrder m p).rq = p.rq := by
  let q := stallIfOrdered m (orderTarget m p)
  have ordered : q.bl.target = m ∧ q.rq = p.rq := by
    have stalled := enterLink_attached (new := .stall) rfl { orderTarget m p with
      bl := { (orderTarget m p).bl with qMode := some .stall, stallTimer := none } }
    simp only [q, stallIfOrdered]
    split
    · exact ⟨stalled.1, stalled.2⟩
    · exact ⟨rfl, rfl⟩
  have pending : q.bl.link = .hibernate → q.bl.pendingWake = true → m ≠ .hibernate := by
    intro hl hw
    simp only [q, stallIfOrdered] at hl hw
    split at hl
    · simp [enterStall] at hl
    · rw [if_neg ‹_›] at hw
      simp only [orderTarget_bl_frame] at hl
      simpa [orderTarget, hl] using hw
  have host : q.sa.hostState = p.sa.hostState :=
    ((undisturbed_carried p).carried.stallIfOrdered m ((undisturbed_carried p).advisorCarried.orderTarget m (.refl p))).2.2.1.1
  have waked : (wakeIfPending q).bl.target = m ∧ (wakeIfPending q).rq = p.rq := by
    unfold wakeIfPending
    split
    · next hw =>
      obtain ⟨hl, hp, -⟩ := hw
      obtain ⟨order, rq⟩ := enterWaking_order q
      refine ⟨?_, rq.trans ordered.2⟩
      rcases order with ho | ⟨hs, ho⟩
      · exact ho.trans ordered.1
      · exact ho.trans (h (host.symm.trans hs) (pending hl hp)).symm
    · exact ordered
  have roused : (rouseIfQueued (wakeIfPending q)).bl.target = m ∧ (rouseIfQueued (wakeIfPending q)).rq = p.rq := by
    unfold rouseIfQueued
    split
    · obtain ⟨ht, hrq⟩ := enterLink_attached (new := .active) rfl { wakeIfPending q with
        bl := { (wakeIfPending q).bl with qMode := some .active } }
      exact ⟨ht.trans waked.1, hrq.trans waked.2⟩
    · exact waked
  have hibernated : (hibernateIfDue (rouseIfQueued (wakeIfPending q))).bl.target = m ∧
      (hibernateIfDue (rouseIfQueued (wakeIfPending q))).rq = p.rq := by
    unfold hibernateIfDue
    split
    · obtain ⟨ht, hrq⟩ := enterLink_attached (new := .hibernate) rfl { rouseIfQueued (wakeIfPending q) with
        bl := { (rouseIfQueued (wakeIfPending q)).bl with
          qMode := some .hibernate, stallTimer := none, pendingWake := false
          minHibTimer := startTimer (rouseIfQueued (wakeIfPending q)).tb
            (rouseIfQueued (wakeIfPending q)).sl.inForce.minHibernate } }
      simp only [enterHibernate, offerBase_frame]
      exact ⟨ht.trans roused.1, hrq.trans roused.2⟩
    · exact roused
  have pumped : modeOrder m p = pump false (hibernateIfDue (rouseIfQueued (wakeIfPending q))) := rfl
  rw [pumped]
  exact ⟨(pump_target ..).trans hibernated.1, by simpa using hibernated.2⟩

/-! ### The request (R138, R165) -/

/-- The part as SA takes the request at the head of its queue. -/
def saTaken (rs : List Request) (p : Part) : Part := { p with rq := { p.rq with sa := rs } }

theorem exec_setHostState {r : Request} {rs : List Request} {s : State} (hq : s.part.rq.sa = r :: rs) (hk : r.kind = 3#16) :
    exec .setHostState s = .next { s with part := setHost r (saTaken rs s.part) } := by
  simp [exec, execSetHostState, headOf, hq, Request.is, hk, State.on, saTaken]

/-- A completion changes the line of completions and the held range alone (R158, R165). -/
theorem complete_eq (c : Completion) (p : Part) :
    complete c p = { p with
      rq := { p.rq with completions := p.rq.completions ++ [c] }, hp := (complete c p).hp } := by
  unfold complete
  dsimp only
  split
  · unfold beginHold
    dsimp only
    split <;> rfl
  · rfl

/-! ### What a new host state sets (R122, R138, R139) -/

theorem chargeHostState_budget (h : HostState) (p : Part) :
    (chargeHostState h p).cc.budget = budgetOf p.sl.inForce h := by
  have carried (b : Nat) : PenCarried fun q => q.cc.budget = b :=
    { content := fun _ _ hq => by simpa using hq
      line := fun _ _ _ _ hq => hq
      keys := fun _ _ _ hq => hq
      advisor := fun _ _ _ _ _ _ hq => hq
      rotation := fun _ _ _ hq => hq
      faults := fun _ _ _ hq => by simpa using hq
      charge := fun _ _ hb _ hq => hb.trans hq
      penLink := fun _ _ hq => hq }
  unfold chargeHostState
  dsimp only
  split
  · next he => exact he.symm
  · exact (carried _).moment ((carried _).relimit _ rfl)

/-- The part as the link takes the order of a new host state: SP, CC and NU have been told (R139). -/
def hostTold (h : HostState) (p : Part) : Part :=
  nuHostState h (chargeHostState h { p with sa := { p.sa with hostState := h }, sp := sensorHostState h p.tb p.sp })

theorem changeHostState_eq (h : HostState) (p : Part) :
    changeHostState h p = advisorHostState h (modeOrder (orderFor h (hostTold h p).sa.posture) (hostTold h p)) := rfl

theorem hostTold_frame (h : HostState) (p : Part) :
    (hostTold h p).sa = { p.sa with hostState := h } ∧ (hostTold h p).bl = p.bl ∧ (hostTold h p).rq = p.rq ∧
    (hostTold h p).sl = p.sl ∧ (hostTold h p).tb = p.tb ∧ (hostTold h p).resetWork = p.resetWork := by
  simp [hostTold]

/-- The order of a new host state by the posture last told to SA (R139). -/
theorem changeHostState_order (h : HostState) (p : Part) :
    (changeHostState h p).bl.target = orderFor h p.sa.posture ∧ (changeHostState h p).rq = p.rq := by
  obtain ⟨hsa, -, hrq, -⟩ := hostTold_frame h p
  have posture : (hostTold h p).sa.posture = p.sa.posture := by rw [hsa]
  have sleeping : (hostTold h p).sa.hostState = .sleeping → orderFor h p.sa.posture ≠ .hibernate →
      orderFor h p.sa.posture = .stall := by
    intro hs
    have : h = .sleeping := by rw [hsa] at hs; exact hs
    subst this
    simp only [orderFor]
    split <;> simp
  obtain ⟨ht, hr⟩ := modeOrder_order _ sleeping
  rw [changeHostState_eq, posture]
  simp [ht, hr, hrq]

theorem changeHostState_told (h : HostState) (p : Part) :
    (changeHostState h p).sa.hostState = h ∧ (changeHostState h p).nu.hostState = h ∧
    (changeHostState h p).sp.rate = rateOf h ∧ (changeHostState h p).cc.budget = budgetOf p.sl.inForce h ∧
    (h = .running → (changeHostState h p).nu.wakeTimer = none) := by
  have kept := (undisturbed_carried (hostTold h p)).carried.modeOrder (orderFor h (hostTold h p).sa.posture) (.refl _)
  obtain ⟨-, hwake, ⟨hsa, hnu⟩, -⟩ := kept
  have told : (hostTold h p).sa.hostState = h := by rw [(hostTold_frame h p).1]
  have advisor (q : Part) : (advisorHostState h q).sa.hostState = q.sa.hostState := by
    cases h
    · rw [advisorHostState_running]
    · rfl
    · rfl
  refine ⟨?_, ?_, ?_, ?_, fun hr => ?_⟩
  · rw [changeHostState_eq, advisor, hsa, told]
  · rw [changeHostState_eq]
    simpa [nuHostState_hostState] using hnu.trans (nuHostState_hostState h _)
  · rw [changeHostState_sp]
    exact (sensorHostState_kept ..).2.2
  · rw [changeHostState_eq]
    simp [hostTold, nuHostState, chargeHostState_budget]
  · subst hr
    rw [changeHostState_eq]
    have cancelled : (hostTold .running p).nu.wakeTimer = none := rfl
    simpa [cancelled] using hwake

/-- SA where the host comes to run, or not to run (R139). -/
theorem changeHostState_advisor (h : HostState) (p : Part) :
    (h ≠ .running → (changeHostState h p).sa.advisor = .watching ∧ (changeHostState h p).sa.inactivity = none ∧
      (changeHostState h p).sa.grace = none) ∧
    (h = .running → (changeHostState h p).sa.dimmed = false ∧
      (changeHostState h p).sa.advisor =
        (if (changeHostState h p).sa.posture = .closed ∧ closeSleeps p.sl.inForce = true then .closePending
         else .active) ∧
      (changeHostState h p).sa.grace =
        (if (changeHostState h p).sa.posture = .closed ∧ closeSleeps p.sl.inForce = true
         then some ⟨p.tb, p.sl.inForce.closeGrace⟩ else none) ∧
      (changeHostState h p).sa.inactivity =
        (if p.sl.inForce.inactivityTime = 0 ∨ p.sl.inForce.keepAwake = true then none
         else some ⟨p.tb, p.sl.inForce.inactivityTime * 1000⟩)) := by
  obtain ⟨-, -, -, hsl, htb, -⟩ := hostTold_frame h p
  rw [changeHostState_eq]
  refine ⟨fun hr => ?_, fun hr => ?_⟩
  · rw [advisorHostState_notRunning hr]
    exact ⟨rfl, rfl, rfl⟩
  · subst hr
    simp only [advisorHostState_running, modeOrder_frame, hsl, htb, true_and]

/-! ### The link hibernates (R69, R78) -/

/-- An offer leaves every other class's record as it was. -/
theorem offer_other_class (c : Content) (p : Part) {d : NoticeClass} (h : d ≠ c.cls) :
    (offer (.content c) p).nu.classes.get d = p.nu.classes.get d := by
  unfold offer
  split
  · rfl
  · exact absorb_other c p h

/-- PC's evaluation with an attached link offers KEYS and POSTURE at most (R44, R45). -/
theorem evaluatePosture_other_class (hl : p.bl.link.attached = true) {d : NoticeClass} (hk : d ≠ .keys) (hp : d ≠ .posture) :
    (evaluatePosture p).nu.classes.get d = p.nu.classes.get d := by
  have suppressed (on : Bool) (q : Part) : (suppressionTold on q).nu.classes.get d = q.nu.classes.get d := by
    unfold suppressionTold offerIfQueued offerKeys
    split
    · split
      · exact offer_other_class .keys _ hk
      · rfl
    · rfl
  have steps : (decided p).nu.classes.get d = p.nu.classes.get d := by
    simp only [decided, decideSuppression]
    split
    · rfl
    · exact suppressed _ _
  rw [evaluatePosture_eq, ← decided_published hl]
  simp only [handOn, if_true]
  split
  · exact steps
  · exact (offer_other_class (.posture _) _ hp).trans steps

/-- Entering HIBERNATE leaves BASE's record and of BL all but the quiet flag and a pending wake (R62, R77, R90). -/
theorem enterLink_hibernate (p : Part) :
    (∃ on w, (enterLink .hibernate p).bl = { p.bl.changeLink .hibernate with quiet := on, pendingWake := w }) ∧
    (enterLink .hibernate p).nu.classes.get .base = p.nu.classes.get .base := by
  let q := linkToldKeys p.bl.link .hibernate { p with bl := p.bl.changeLink .hibernate }
  have hq : q.bl = p.bl.changeLink .hibernate := by simp [q]
  have link : q.bl.link = .hibernate := by rw [hq]; rfl
  have attached : q.bl.link.attached = true := by rw [link]; rfl
  have keys : q.nu.classes.get .base = p.nu.classes.get .base := by
    simp only [q, linkToldKeys, offerIfQueued, offerKeys]
    split
    · split
      · exact offer_other_class .keys _ (by simp [Content.cls])
      · rfl
    · rfl
  have asked (r : Part) : ∃ w, (askWake r).bl = { r.bl with pendingWake := w } := by
    unfold askWake orderWake
    split
    · split
      · exact ⟨true, rfl⟩
      · exact ⟨r.bl.pendingWake, rfl⟩
    · exact ⟨r.bl.pendingWake, rfl⟩
  have woken (c : Prop) [Decidable c] : (if c then { evaluatePosture q with
      pw := { (evaluatePosture q).pw with wakeAsked := false } } else evaluatePosture q).bl = (evaluatePosture q).bl := by
    split <;> rfl
  constructor
  · obtain ⟨on, hon⟩ := decided_bl (p := q) (by rw [link]; rfl)
    obtain ⟨w, hw⟩ := asked (if p.bl.link = .hibernate then { evaluatePosture q with
      pw := { (evaluatePosture q).pw with wakeAsked := false } } else evaluatePosture q)
    refine ⟨on, w, ?_⟩
    rw [woken, (evaluatePosture_attached attached).2.1, hon, hq] at hw
    exact hw
  · have evaluated := evaluatePosture_other_class attached (d := .base) (by simp) (by simp)
    simp only [enterLink, linkTold, linkToldProfile, askWake_frame]
    split <;> exact evaluated.trans keys

/-- BL as HIBERNATE is entered on an order (R69): MODE HIBERNATE waits for the line. -/
def hibernated (on w : Bool) (p : Part) : Bl :=
  { p.bl with
    link := .hibernate, tx := p.bl.tx.map Tx.orphan, exch := if p.bl.sendsFirst then none else p.bl.exch
    target := .hibernate, qMode := some .hibernate, stallTimer := none, pendingWake := w, quiet := on
    minHibTimer := some ⟨p.tb, p.sl.inForce.minHibernate⟩ }

/-- The order HIBERNATE on a live link with no QUERY or ATTR queued or outstanding (R69). -/
theorem modeOrder_hibernate (hl : p.bl.link = .active ∨ p.bl.link = .stall) (hq : p.bl.attrOrQuery = false) :
    modeOrder .hibernate p = pump false (enterHibernate (orderTarget .hibernate p)) := by
  have live : p.bl.link.live = true := by rcases hl with h | h <;> simp [h, Link.live]
  have awake : p.bl.link ≠ .hibernate := by rcases hl with h | h <;> simp [h]
  have queue : (orderTarget .hibernate p).bl.attrOrQuery = false := hq
  have quiet : p.bl.qQuery = false ∧ p.bl.qAttr.isSome = false := by
    simp only [Bl.attrOrQuery, Bool.or_eq_false_iff] at hq
    exact hq.1
  have query : (orderTarget .hibernate p).bl.qQuery = false := quiet.1
  have attr : (orderTarget .hibernate p).bl.qAttr.isSome = false := quiet.2
  have target : (orderTarget .hibernate p).bl.target = .hibernate := rfl
  simp [modeOrder, stallIfOrdered, settle, settleWith, wakeIfPending, rouseIfQueued, hibernateIfDue, awake, live, queue,
    query, attr, target]

theorem enterHibernate_bl (p : Part) : ∃ on w, (enterHibernate (orderTarget .hibernate p)).bl = hibernated on w p := by
  obtain ⟨on, w, h⟩ := (enterLink_hibernate { orderTarget .hibernate p with bl := { (orderTarget .hibernate p).bl with
    qMode := some .hibernate, stallTimer := none, pendingWake := false
    minHibTimer := startTimer (orderTarget .hibernate p).tb (orderTarget .hibernate p).sl.inForce.minHibernate } }).1
  refine ⟨on, w, ?_⟩
  simp only [enterHibernate, offerBase_frame]
  exact h

/-- MODE HIBERNATE goes out on a free line, or waits behind what stands (R59, R69). -/
theorem pump_hibernated (on w : Bool) (d : Nat) (now : Time) (p : Part) :
    (p.bl.tx = none → p.bl.lineOrder = none → p.bl.exch = none →
      ((hibernated on w p).pump d now).exch = some (.mode .hibernate on) ∧
      ((hibernated on w p).pump d now).qMode = none ∧
      ((hibernated on w p).pump d now).tx = some (.frame ((Exchange.mode .hibernate on).bytes p.bl.txSeq) true)) ∧
    (p.bl.tx ≠ none →
      ((hibernated on w p).pump d now).tx = p.bl.tx.map Tx.orphan ∧
      ((hibernated on w p).pump d now).qMode = some .hibernate) ∧
    (p.bl.replyTimer ≠ none → p.bl.exch ≠ none → p.bl.tx = none → p.bl.lineOrder = none →
      ((hibernated on w p).pump d now).exch = p.bl.exch ∧ ((hibernated on w p).pump d now).qMode = some .hibernate) := by
  refine ⟨fun ht ho hx => ?_, fun ht => ?_, fun hr hx ht ho => ?_⟩
  · simp [hibernated, Bl.pump, ht, ho, hx, Bl.nextExchange, Link.sendsMode, Bl.transmit]
  · obtain ⟨x, hx⟩ := Option.ne_none_iff_exists'.mp ht
    simp [hibernated, Bl.pump, hx]
  · obtain ⟨x, hx⟩ := Option.ne_none_iff_exists'.mp hx
    obtain ⟨r, hr⟩ := Option.ne_none_iff_exists'.mp hr
    simp [hibernated, Bl.pump, ht, ho, hx, hr, Bl.sendsFirst]

/-- BASE's record when HIBERNATED is offered (R78): published with the state and the event, or merged into the shadow. -/
theorem offerBase_record (e : BaseEvent) (q : Part) (hw : q.resetWork = none) :
    ((q.nu.classes.get .base).state = .idle ∧ (q.nu.classes.get .base).publishing = none →
      ∃ ws, ((offerBase e q).nu.classes.get .base).publishing = some ws ∧ ws[5]? = some (word q.bl.link.code) ∧
        ws[6]? = some ((1#12 <<< e.bit).setWidth 16)) ∧
    (¬ ((q.nu.classes.get .base).state = .idle ∧ (q.nu.classes.get .base).publishing = none) →
      ∃ c, ((offerBase e q).nu.classes.get .base).shadow = some (.base c) ∧
        c.events.getLsbD e.bit = true) := by
  have event : (1#12 <<< e.bit).getLsbD e.bit = true := by cases e <;> rfl
  have taken : offerBase e q = absorb (.base (baseContent (1#12 <<< e.bit) q)) q := offer_taken _ q hw
  rw [taken]
  refine ⟨fun hfree => ?_, fun hbusy => ?_⟩
  · rw [absorb_idle (.base _) q hfree.1 hfree.2, publish_nu]
    simp [Content.cls, recordWords, Content.words, BaseContent.words, baseContent]
  · rw [absorb_busy (.base _) q hbusy]
    simp only [Content.cls, setCell, PerClass.get_set_same, mergeShadow]
    split
    · next h _ => cases h <;> simp [Content.merge, baseContent, event]
    · simp [baseContent, event]

/-- What a change of host state leaves of BASE's record before the link moves (R122, R139): CC offers PEN and CHARGE alone. -/
theorem hostTold_base (h : HostState) (p : Part) :
    (hostTold h p).nu.classes.get .base = p.nu.classes.get .base := by
  have moment (f : Part → Part) (q : Part) (hf : (f q).nu = q.nu) :
      (moment f q).nu.classes.get .base = q.nu.classes.get .base := by
    have pen (r : Part) : (offerPen r).nu.classes.get .base = r.nu.classes.get .base :=
      offer_other_class _ _ (by simp [Content.cls])
    have charge (r : Part) : (offerCharge r).nu.classes.get .base = r.nu.classes.get .base := by
      unfold offerCharge
      exact (offer_other_class _ _ (by simp [Content.cls])).trans (by simp)
    simp only [Machine.moment]
    split <;> split <;> simp [pen, charge, hf]
  simp only [hostTold, nuHostState, chargeHostState]
  split
  · rfl
  · exact moment _ _ (by simp)

/-- A change of host state whose order is HIBERNATE, on a live link with no QUERY or ATTR queued or outstanding (R69). -/
theorem changeHostState_hibernate {h : HostState} (ho : orderFor h p.sa.posture = .hibernate)
    (hl : p.bl.link = .active ∨ p.bl.link = .stall) (hq : p.bl.attrOrQuery = false) :
    changeHostState h p = advisorHostState h (pump false (enterHibernate (orderTarget .hibernate (hostTold h p)))) := by
  obtain ⟨hsa, hbl, -⟩ := hostTold_frame h p
  have posture : (hostTold h p).sa.posture = p.sa.posture := by rw [hsa]
  rw [changeHostState_eq, posture, ho, modeOrder_hibernate (by rwa [hbl]) (by rwa [hbl])]

/-- BL after that order: HIBERNATE is entered, and the transmitter goes on (R59, R67, R69). -/
theorem changeHostState_hibernate_bl {h : HostState} (ho : orderFor h p.sa.posture = .hibernate)
    (hl : p.bl.link = .active ∨ p.bl.link = .stall) (hq : p.bl.attrOrQuery = false) :
    ∃ on w, (changeHostState h p).bl =
      { (hibernated on w p).pump p.sl.inForce.lineReset p.tb with stallTimer := none } := by
  obtain ⟨-, hbl, -, hsl, htb, -⟩ := hostTold_frame h p
  obtain ⟨on, w, hb⟩ := enterHibernate_bl (hostTold h p)
  have same : hibernated on w (hostTold h p) = hibernated on w p := by simp only [hibernated, hbl, hsl, htb]
  have link : (hibernated on w p).link = .hibernate := rfl
  refine ⟨on, w, ?_⟩
  rw [changeHostState_hibernate ho hl hq]
  simp [pump, stallSync, enterHibernate_frame, orderTarget_frame, hb, same, hsl, htb, link]

/-- BASE's record after that order (R78). -/
theorem changeHostState_hibernate_base {h : HostState} (ho : orderFor h p.sa.posture = .hibernate)
    (hl : p.bl.link = .active ∨ p.bl.link = .stall) (hq : p.bl.attrOrQuery = false) (hw : p.resetWork = none) :
    ((p.nu.classes.get .base).state = .idle ∧ (p.nu.classes.get .base).publishing = none →
      ∃ ws, ((changeHostState h p).nu.classes.get .base).publishing = some ws ∧ ws[5]? = some 9#16 ∧
        ws[6]? = some 8#16) ∧
    (¬ ((p.nu.classes.get .base).state = .idle ∧ (p.nu.classes.get .base).publishing = none) →
      ∃ c, ((changeHostState h p).nu.classes.get .base).shadow = some (.base c) ∧ c.events.getLsbD 3 = true) := by
  obtain ⟨-, -, -, -, -, hwork⟩ := hostTold_frame h p
  let r := orderTarget .hibernate (hostTold h p)
  let q := enterLink .hibernate { r with bl := { r.bl with
    qMode := some .hibernate, stallTimer := none, pendingWake := false
    minHibTimer := startTimer r.tb r.sl.inForce.minHibernate } }
  have base : q.nu.classes.get .base = p.nu.classes.get .base :=
    (enterLink_hibernate _).2.trans (hostTold_base h p)
  have link : q.bl.link = .hibernate := by simp [q]
  have work : q.resetWork = none := by
    simp only [q, enterLink_frame]
    exact hwork.trans hw
  have record := offerBase_record .hibernated q work
  have last : (changeHostState h p).nu = (offerBase .hibernated q).nu := by
    rw [changeHostState_hibernate ho hl hq]
    simp [enterHibernate, q, r]
  rw [base, link] at record
  rw [last]
  exact record

/-! ### The obligation -/

/-- A SET_HOST_STATE that names a new host state (R138). -/
theorem exec_setHostState_changed {r : Request} {rs : List Request} {h : HostState} {s : State}
    (hq : s.part.rq.sa = r :: rs) (hk : r.kind = 3#16) (hr : hostStateOf (r.arg 0) = some h)
    (hne : h ≠ s.part.sa.hostState) :
    exec .setHostState s =
      .next { s with part := complete ⟨r.slot, true, rcOk, resultData []⟩ (changeHostState h (saTaken rs s.part)) } := by
  have ne : h ≠ (saTaken rs s.part).sa.hostState := hne
  rw [exec_setHostState hq hk]
  simp [setHost, hr, ne, completeDone]

/-- A SET_HOST_STATE that names none, or the present one (R138). -/
theorem exec_setHostState_kept {r : Request} {rs : List Request} {s : State} (hq : s.part.rq.sa = r :: rs)
    (hk : r.kind = 3#16) (hr : hostStateOf (r.arg 0) = none ∨ hostStateOf (r.arg 0) = some s.part.sa.hostState) :
    exec .setHostState s =
      .next { s with part := complete ⟨r.slot, (hostStateOf (r.arg 0)).isSome,
        if (hostStateOf (r.arg 0)).isSome then rcOk else rcBadArg, resultData []⟩ (saTaken rs s.part) } := by
  have present : (saTaken rs s.part).sa.hostState = s.part.sa.hostState := rfl
  rw [exec_setHostState hq hk]
  rcases hr with hr | hr <;> simp [setHost, hr, present, completeDone, completeFailed]

theorem orderFor_hibernate {h : HostState} {q : Posture} (hh : h = .off ∨ (h = .sleeping ∧ q = .closed)) :
    orderFor h q = .hibernate := by
  rcases hh with rfl | ⟨rfl, rfl⟩ <;> rfl

/-- Settles O38: by the argument, and for a new host state by what each block is told. -/
theorem setHostState : Obligations.SetHostState := by
  refine ⟨fun r rs s hq hk hr => ?_, fun r rs h s hq hk hr hne => ?_, fun r rs h s hq hk hr hne hh hl haq => ?_,
    ⟨rfl, rfl, rfl, rfl⟩, fun n hn => ?_⟩
  · refine ⟨_, exec_setHostState_kept hq hk hr, ?_, fun hn => ?_, fun hn => ?_⟩
    · rw [complete_eq]
      rfl
    · simp [TakenWith, hn, saTaken]
    · have named : (hostStateOf (r.arg 0)).isSome = true := Option.isSome_iff_ne_none.mpr hn
      simp [TakenWith, named, saTaken]
  · obtain ⟨hsa, hnu, hsp, hcc, hwake⟩ := changeHostState_told h (saTaken rs s.part)
    obtain ⟨htarget, hrq⟩ := changeHostState_order h (saTaken rs s.part)
    obtain ⟨hother, hrun⟩ := changeHostState_advisor h (saTaken rs s.part)
    refine ⟨_, exec_setHostState_changed hq hk hr hne, ?_⟩
    simp only [complete_frame]
    refine ⟨⟨?_, ?_⟩, ⟨hsa, hnu, hsp⟩, hcc, htarget, hother, fun h => ⟨hwake h, hrun h⟩⟩
    · simp only [complete_rq, hrq]
      rfl
    · simp [CompletedWith]
  · have order : orderFor h (saTaken rs s.part).sa.posture = .hibernate := orderFor_hibernate hh
    obtain ⟨on, w, hbl⟩ := changeHostState_hibernate_bl order hl haq
    have kept (d : Nat) (now : Time) := Bl.pump_eq d now (hibernated on w (saTaken rs s.part))
    have quiet (d : Nat) (now : Time) : ((hibernated on w (saTaken rs s.part)).pump d now).quiet = on :=
      (congrArg Bl.quiet (kept d now) :)
    obtain ⟨hfree, hbusy, hwaits⟩ := pump_hibernated on w s.part.sl.inForce.lineReset s.part.tb (saTaken rs s.part)
    refine ⟨_, exec_setHostState_changed hq hk hr hne, ?_⟩
    simp only [complete_frame, hbl]
    refine ⟨⟨(congrArg Bl.link (kept ..) :), (congrArg Bl.target (kept ..) :), trivial⟩, (congrArg Bl.minHibTimer (kept ..) :),
      ?_, hbusy, hwaits, fun hp => ?_, fun hw hp => ?_⟩
    · simp only [quiet]
      exact hfree
    · exact (changeHostState_hibernate_base order hl haq hp.1).1 hp.2
    · exact (changeHostState_hibernate_base order hl haq hw).2 (fun hc => hp ⟨hw, hc⟩)
  · match n, hn with
    | _ + 4, _ => rfl

end Sys2Proof.Machine

/-! The host port's transactions and HMISO (O45): what a transaction keeps while its accesses are carried out. -/

namespace Sys2Proof.Machine

variable {k : TransKind} {p q : Part} {s : State}

/-! ### Transactions that change nothing but the port (R150, R154, R155) -/

/-- A transaction begins anew, with the status of the one before it (log entries 12, 16). -/
theorem beginTrans_begun (k : TransKind) (a : Nat) (p : Part) :
    beginTrans k a p = { p with hp := ⟨p.hp.blocked, some ⟨k, a, .ok, []⟩, (endTrans p).hp.status, []⟩ } := by
  simp only [beginTrans, endTrans]
  split <;> rfl

theorem portFree_iff (p : Part) : portFree p = true ↔ p.resetLow = false ∧ p.hp.blocked = false := by
  simp [portFree]

/-- The word that a PORT READ returns (R155, 13.7). -/
def portWord (index : Byte) (p : Part) : Word :=
  if index = 0#8 then 0xCF42#16
  else if index = 1#8 then
    word (endTrans p).hp.status.code ||| (if p.partState = .starting then 0#16 else 0x8000#16)
  else 0#16

theorem portStatus_beginTrans (k : TransKind) (a : Nat) (p : Part) :
    portStatus (beginTrans k a p) =
      word (endTrans p).hp.status.code ||| (if p.partState = .starting then 0#16 else 0x8000#16) := by
  have ready : flagWord p.partState.isReady <<< 15 = if p.partState = .starting then 0#16 else 0x8000#16 := by
    cases p.partState <;> rfl
  rw [portStatus, beginTrans_begun, ← ready]

/-- A PORT READ returns its word, with status RANGE past index 1 (R155). -/
theorem hostPortRead_eq (index : Byte) (h : portFree s.part = true) :
    hostPortRead index s = { s with part := { s.part with
      hp := ⟨s.part.hp.blocked, some ⟨.other, 0, if index.toNat < 2 then .ok else .range, []⟩,
        (endTrans s.part).hp.status, [portWord index s.part]⟩ } } := by
  simp only [hostPortRead, h, if_true, portWord]
  split
  · next h0 => simp [h0, returnWord, identWord, State.on, beginTrans_begun]
  · split
    · next h1 =>
      simp only [State.on_part, portStatus_beginTrans]
      simp [h1, returnWord, State.on, beginTrans_begun]
    · next h0 h1 =>
      have past : ¬ index.toNat < 2 := by bv_omega
      simp [past, returnWord, noteAccess, State.on, beginTrans_begun, Access.worse, Access.code]

/-- A command byte that names no transaction has status RANGE (R150). -/
theorem hostUnknown_eq {b : Byte} (h : portFree s.part = true) (hb : namesTransaction b = false) :
    hostUnknown b s = { s with part := { s.part with
      hp := ⟨s.part.hp.blocked, some ⟨.other, 0, .range, []⟩, (endTrans s.part).hp.status, []⟩ } } := by
  simp [hostUnknown, h, hb, noteAccess, State.on, beginTrans_begun, Access.worse, Access.code]

/-! ### What the accesses of a transaction keep (R150 to R153) -/

/-- A transaction of this kind is in progress, with RESETN high. -/
def InTrans (k : TransKind) (p : Part) : Prop := p.resetLow = false ∧ ∃ t, p.hp.trans = some t ∧ t.kind = k

theorem InTrans.congr (h : InTrans k p) (hr : q.resetLow = p.resetLow) (hh : q.hp = p.hp) : InTrans k q := by
  unfold InTrans
  rw [hr, hh]
  exact h

/-- A hold that begins is the transaction's too, and leaves its kind (R158). -/
theorem InTrans.beginHold (h : InTrans k p) (r : Range) : InTrans k (beginHold r p) := by
  obtain ⟨hr, t, ht, hk⟩ := h
  exact ⟨by simpa using hr, { t with held := r :: t.held }, by simp [Machine.beginHold, ht], hk⟩

theorem InTrans.publish (h : InTrans k p) (c : Content) (n : Nat) : InTrans k (publish c n p) := by
  have lined {q : Part} (hq : InTrans k q) (d : NoticeClass) : InTrans k (lineUp d q) := by
    unfold lineUp beginRecord
    dsimp only
    split
    · split
      · exact InTrans.beginHold (p := { q with nu := { q.nu with writing := q.nu.writing ++ [d] } }) hq _
      · exact hq
    · exact hq
  unfold Machine.publish
  dsimp only
  refine lined ?_ _
  split <;> exact h.congr (by simp) (by simp)

theorem InTrans.endServiceOf (h : InTrans k p) (w : Word) : InTrans k (endServiceOf w p) := by
  have idle (c : NoticeClass) (x : ClassCell) : InTrans k (judge (setCell c x p)) := h.congr (by simp) (by simp)
  unfold Machine.endServiceOf
  split
  · split
    · unfold releaseClass
      dsimp only
      split
      · exact (idle _ _).publish _ _
      · exact idle _ _
    · exact h
  · exact h

theorem inTrans_noteAccess (h : InTrans k s.part) (o : Access) (a : Nat) : InTrans k (noteAccess o a s).part := by
  obtain ⟨hr, t, ht, hk⟩ := h
  simp only [noteAccess, State.on_part, ht]
  exact ⟨hr, _, rfl, hk⟩

theorem inTrans_fetch (h : InTrans k s.part) (a : Nat) : InTrans k (fetch a s).2.part := by
  unfold fetch
  split
  · unfold claim
    split
    · exact h.congr (by simp [State.withPart]) (by simp [State.withPart])
    · exact h
  · exact h

theorem inTrans_writeAttention (h : InTrans k s.part) (w : Word) : InTrans k (writeAttention w s).part := by
  have examined (n : Nat) {s : State} (hs : InTrans k s.part) : InTrans k (examineBit n s).part := by
    unfold examineBit
    split
    · dsimp only
      split <;> exact hs
    · exact hs
  unfold writeAttention
  dsimp only
  split
  · exact h
  · simp only [examineAll, List.foldl]
    iterate 8 refine examined _ ?_
    exact h

theorem inTrans_carryOut (h : InTrans k s.part) (a : Nat) (w : Word) : InTrans k (carryOut a w s).part := by
  unfold carryOut
  split
  · exact inTrans_writeAttention h w
  · exact h.congr (by simp) (by simp)
  · exact h.endServiceOf w
  · exact h

/-- The words returned are those before and one more, so the last is the last returned (R151). -/
theorem noteAccess_returnWord_out (o : Access) (a : Nat) (w : Word) (s : State) :
    (noteAccess o a (returnWord w s)).part.hp.out.getLast? = some w := by
  simp only [noteAccess, returnWord, State.on_part]
  split <;> simp

/-- A word returned stands on HMISO in a READ and in a transaction without direction (R150). -/
def Carries (p : Part) : Prop := p.hp.out.getLast?.map Hmiso.data = some (hmiso p)

theorem carries_returned (hk : k = .read ∨ k = .other) (h : InTrans k s.part) (o : Access) (a : Nat) (w : Word) :
    Carries (noteAccess o a (returnWord w s)).part := by
  have returned : InTrans k (returnWord w s).part := h
  obtain ⟨hr, t, ht, hkind⟩ := inTrans_noteAccess returned o a
  rw [Carries, hmiso_of_returning hr ht (by rwa [hkind]), noteAccess_returnWord_out]
  rfl

/-- Each access of a READ returns a word (R151, R154). -/
theorem readWord_returns (h : InTrans .read s.part) (a : Nat) :
    InTrans .read (readWord a s).part ∧ Carries (readWord a s).part := by
  have returned {s : State} (hs : InTrans .read s.part) (o : Access) (w : Word) :
      InTrans .read (noteAccess o (a + 1) (returnWord w s)).part ∧ Carries (noteAccess o (a + 1) (returnWord w s)).part :=
    ⟨inTrans_noteAccess (s := returnWord w s) hs _ _, carries_returned (.inl rfl) hs _ _ _⟩
  unfold readWord
  dsimp only
  split
  · exact returned (inTrans_fetch h a) _ _
  · exact returned h _ _
  · exact returned h _ _
  · exact returned h _ _

theorem readWords_returns (n a : Nat) (h : InTrans .read s.part) : Carries (readWords a (n + 1) s).part := by
  induction n generalizing a s with
  | zero => exact (readWord_returns h a).2
  | succ n ih => exact ih (a + 1) (readWord_returns h a).1

theorem writeWords_inTrans (ws : List Word) (a : Nat) (h : InTrans .write s.part) :
    InTrans .write (writeWords a ws s).part := by
  induction ws generalizing a s with
  | nil => exact h
  | cons w ws ih =>
    refine ih (a + 1) ?_
    unfold writeWord
    dsimp only
    split
    · exact inTrans_noteAccess (inTrans_carryOut h a w) _ _
    · exact inTrans_noteAccess h _ _
    · exact inTrans_noteAccess h _ _
    · exact inTrans_noteAccess h _ _

theorem updateWord_returns (h : InTrans .other s.part) (a : Nat) (e w : Word) : Carries (updateWord a e w s).part := by
  have returned {s : State} (hs : InTrans .other s.part) (o : Access) (v : Word) :
      Carries (noteAccess o (a + 1) (returnWord v s)).part := carries_returned (.inr rfl) hs _ _ _
  unfold updateWord
  dsimp only
  split
  · refine returned ?_ _ _
    split
    · exact inTrans_carryOut h a w
    · exact h
  · exact returned h _ _
  · exact returned h _ _
  · exact returned h _ _

/-! ### The transactions opened (R151 to R153) -/

theorem inTrans_beginTrans (hr : p.resetLow = false) (k : TransKind) (a : Nat) : InTrans k (beginTrans k a p) := by
  rw [beginTrans_begun]
  exact ⟨hr, _, rfl, rfl⟩

theorem inTrans_openTrans (hr : p.resetLow = false) (k : TransKind) (a : Nat) : InTrans k (openTrans k a p) := by
  unfold openTrans
  split
  · next t ht =>
    split
    · next hgo => exact ⟨hr, t, ht, hgo.1⟩
    · exact inTrans_beginTrans hr k a
  · exact inTrans_beginTrans hr k a

theorem inTrans_openUpdate (hr : p.resetLow = false) (e : Word) (a : Nat) : InTrans .other (openUpdate e a p) := by
  unfold openUpdate
  split
  · split
    · exact ⟨hr, _, rfl, rfl⟩
    · exact inTrans_beginTrans hr _ a
  · exact inTrans_beginTrans hr _ a

theorem InTrans.hmiso_high (h : InTrans k p) (hk : k = .write ∨ ∃ e, k = .update e) : hmiso p = .high := by
  obtain ⟨hr, t, ht, hkind⟩ := h
  exact hmiso_of_taking hr ht (by rwa [hkind])

/-! ### HCS high and the resets (R154, R160) -/

/-- HCS rises: HMISO is high-impedance once the port waits for nothing (R150, R154). -/
theorem hmiso_hostTransEnd (h : p.hp.blocked = true → p.hp.trans = none) : hmiso (hostTransEnd p) = .highImpedance := by
  unfold hostTransEnd
  split
  · exact hmiso_of_resetLow ‹_›
  · split
    · exact hmiso_of_hcsHigh (h ‹_›) rfl
    · next hb =>
      refine hmiso_of_hcsHigh ?_ ?_ <;> unfold endTrans <;> split <;> simp_all

/-- Settles O45: by the transaction, and HMISO by the kind of the one in progress. -/
theorem portTransactions : Obligations.PortTransactions := by
  refine ⟨fun i s h => ?_, fun b s h hb => ?_, fun tr s hr hb ht => ?_, fun s hr hb => ?_, fun a n s h => ?_,
    fun a ws s h => ?_, fun a e w s h => ⟨?_, ?_⟩, fun b s h => ⟨?_, ?_⟩, fun s h => ?_, fun s => ⟨?_, fun hr => ?_,
    fun hr ht => ?_, fun h => ?_⟩⟩
  · exact ⟨_, congrArg Host.Outcome.next (hostPortRead_eq i h), rfl, rfl, rfl⟩
  · exact ⟨_, congrArg Host.Outcome.next (hostUnknown_eq h hb), rfl, rfl, rfl⟩
  · simp [exec, execTransactionEnd, hostTransEnd, State.on, endTrans, hr, hb, ht]
  · simp [exec, execTransactionEnd, hostTransEnd, State.on, hr, hb]
  · refine ⟨_, rfl, ?_⟩
    simp only [hostRead, h, if_true]
    exact readWords_returns n _ (inTrans_openTrans ((portFree_iff _).mp h).1 _ _)
  · refine ⟨_, rfl, ?_⟩
    simp only [hostWrite, h, if_true]
    exact (writeWords_inTrans ws _ (inTrans_openTrans ((portFree_iff _).mp h).1 _ _)).hmiso_high (.inl rfl)
  · refine ⟨_, rfl, ?_⟩
    simp only [hostUpdate, h, if_true]
    exact (inTrans_beginTrans ((portFree_iff _).mp h).1 _ _).hmiso_high (.inr ⟨e, rfl⟩)
  · refine ⟨_, rfl, ?_⟩
    simp only [hostUpdate, h, if_true]
    exact updateWord_returns (inTrans_openUpdate ((portFree_iff _).mp h).1 _ _) _ _ _
  · refine ⟨_, congrArg Host.Outcome.next (hostPortRead_eq b h), ?_⟩
    simp [hmiso, ((portFree_iff _).mp h).1]
  · refine ⟨_, rfl, ?_⟩
    simp only [hostUnknown, h, if_true]
    split <;> simp [noteAccess, State.on, beginTrans_begun, hmiso, ((portFree_iff _).mp h).1]
  · exact ⟨_, rfl, hmiso_hostTransEnd h⟩
  · exact ⟨_, rfl, hmiso_of_resetLow rfl⟩
  · refine ⟨_, rfl, hmiso_of_resetLow ?_⟩
    simp [hostTransEnd, hr]
  · refine ⟨s.on (releaseReset false), by simp [exec, execResetnRelease, hr], hmiso_of_hcsHigh ?_ ?_⟩
    · simpa [releaseReset] using ht
    · simp [releaseReset]
  · refine ⟨softReset s, by simp [exec, execSoftReset, h], hmiso_of_hcsHigh ?_ ?_⟩ <;>
      simp [softReset, Part.reset, Hp.reset]

end Sys2Proof.Machine

/-! The validity checks and the filter of a lid sample (O14, O15). -/

namespace Sys2Proof.Machine

/-! ### The validity checks (R20 to R23) -/

/-- With a base sample, no absence mark and a live link NO_BASE does not apply, and the other checks follow (R21 to R23). -/
theorem failedCheck_of_base (c : Settings) {link : Link} (h : HostState) (now : Time) (b : BaseSample) (v : Reading)
    (hl : link.live = true) :
    failedCheck c link h now false (some b) v =
      if (if h = .running then 40 else 200) < (now - b.time).toNat then some .staleBase
      else if saturatedReading v = true ∨ saturatedReading b.reading = true ∨
          inMotionWindow c.motionTolerance (c.lidMap.apply v) = false ∨
          inMotionWindow c.motionTolerance (c.baseMap.apply b.reading) = false then some .motion
      else if projectionSquare (c.baseMap.apply b.reading) < (c.projectionFloor : Int) * c.projectionFloor ∨
          projectionSquare (c.lidMap.apply v) < (c.projectionFloor : Int) * c.projectionFloor then some .projection
      else none := by
  have limit : staleLimit h = if h = .running then 40 else 200 := by cases h <;> rfl
  simp [failedCheck, hl, limit, or_assoc]

theorem failedCheck_noBase_iff (c : Settings) (link : Link) (h : HostState) (now : Time) (absent : Bool)
    (base : Option BaseSample) (v : Reading) :
    failedCheck c link h now absent base v = some .noBase ↔ base = none ∨ absent = true ∨ link.live = false := by
  cases base with
  | none => simp [failedCheck]
  | some b =>
    cases hl : link.live with
    | false => simp [failedCheck, hl]
    | true =>
      cases absent with
      | true => simp [failedCheck]
      | false =>
        rw [failedCheck_of_base c h now b v hl]
        (repeat' split) <;> simp

/-- Settles O14: the checks in the order in which the model tests them. -/
theorem validityChecksComeInOrder : Obligations.ValidityChecksComeInOrder := by
  refine ⟨failedCheck_noBase_iff, fun c link h now b v hl => ?_, fun c link h now b v hl hage => ?_,
    fun c link h now b v hl hage hv hb hlid hbase => ?_⟩
  · rw [failedCheck_of_base c h now b v hl]
    generalize (if h = .running then 40 else 200) = limit
    (repeat' split) <;> simp_all
  · rw [failedCheck_of_base c h now b v hl, if_neg (Nat.not_lt.mpr hage)]
    (repeat' split) <;> simp_all
  · rw [failedCheck_of_base c h now b v hl, if_neg (Nat.not_lt.mpr hage)]
    simp [hv, hb, hlid, hbase]

/-! ### The filter (R26, R27) -/

/-- The difference is the shortest way round the circle, and is that of the two positions on it (R26). -/
theorem circleDiff_spec {v f : Nat} (hv : v < 46080) (hf : f < 46080) :
    -23040 ≤ circleDiff v f ∧ circleDiff v f ≤ 23039 ∧ (circleDiff v f - ((v : Int) - f)) % 46080 = 0 := by
  simp only [circleDiff]
  split
  · omega
  · split <;> omega

/-- The size of the step (R27): that of d / 2^k with halves up, and at least one unit. -/
def stepSize (k n : Nat) : Nat := if 2 * n < 2 ^ k ∧ n ≠ 0 then 1 else (2 * n + 2 ^ k) / 2 ^ (k + 1)

theorem filterStep_eq (k : Nat) (d : Int) :
    filterStep k d = if d < 0 then -(stepSize k d.natAbs : Int) else stepSize k d.natAbs := by
  have zero : (2 * d.natAbs + 2 ^ k) / 2 ^ (k + 1) = 0 ↔ 2 * d.natAbs < 2 ^ k := by
    rw [Nat.div_eq_zero_iff_lt (by positivity), pow_succ]
    omega
  have size : (if (((2 * d.natAbs + 2 ^ k) / 2 ^ (k + 1) : Nat) : Int) = 0 ∧ d ≠ 0 then 1
      else (((2 * d.natAbs + 2 ^ k) / 2 ^ (k + 1) : Nat) : Int)) = stepSize k d.natAbs := by
    simp only [stepSize, Int.natCast_eq_zero, zero, Int.natAbs_ne_zero]
    split <;> simp
  simp only [filterStep, size]


/-- From half a unit on, 2^k steps lie within half of 2^k of the size, above it at a tie (R27). -/
theorem stepSize_nearest {k n : Nat} (h : 2 ^ k ≤ 2 * n) :
    2 * (2 ^ k * stepSize k n) ≤ 2 * n + 2 ^ k ∧ 2 * n < 2 * (2 ^ k * stepSize k n) + 2 ^ k := by
  have size : stepSize k n = (2 * n + 2 ^ k) / (2 ^ k * 2) := by simp [stepSize, Nat.not_lt.mpr h, pow_succ]
  have below := Nat.mul_div_le (2 * n + 2 ^ k) (2 ^ k * 2)
  have above := Nat.lt_mul_div_succ (2 * n + 2 ^ k) (b := 2 ^ k * 2) (by positivity)
  rw [← size] at below above
  constructor <;> linarith

/-- The step for a difference of at least half of 2^k (R27). -/
theorem filterStep_nearest {k : Nat} {d : Int} (h : 2 ^ k ≤ 2 * d.natAbs) :
    2 * (2 ^ k * filterStep k d - d).natAbs ≤ 2 ^ k ∧
    (2 * (2 ^ k * filterStep k d - d).natAbs = 2 ^ k → d.natAbs < (2 ^ k * filterStep k d).natAbs) := by
  have scaled : 2 ^ k * filterStep k d =
      if d < 0 then -((2 ^ k * stepSize k d.natAbs : Nat) : Int) else (2 ^ k * stepSize k d.natAbs : Nat) := by
    rw [filterStep_eq]
    split <;> push_cast <;> ring
  obtain ⟨below, above⟩ := stepSize_nearest h
  have unit : 0 < 2 ^ k := by positivity
  rw [scaled]
  generalize 2 ^ k * stepSize k d.natAbs = q at *
  generalize 2 ^ k = u at *
  split <;> omega

/-- The step of one unit for a smaller difference (R27). -/
theorem filterStep_unit {k : Nat} {d : Int} (h : 2 * d.natAbs < 2 ^ k) : filterStep k d = d.sign := by
  rw [filterStep_eq, stepSize]
  rcases lt_trichotomy d 0 with hd | rfl | hd
  · rw [if_pos hd, if_pos ⟨h, by omega⟩, Int.sign_eq_neg_one_of_neg hd]
    rfl
  · have size : 2 ^ k / 2 ^ (k + 1) = 0 := Nat.div_eq_of_lt (Nat.pow_lt_pow_succ (by decide))
    simp [size]
  · rw [if_neg (by omega), if_pos ⟨h, by omega⟩, Int.sign_eq_one_of_pos hd]
    rfl

theorem filterStep_zero (d : Int) : filterStep 0 d = d := by
  have size : stepSize 0 d.natAbs = d.natAbs := by
    simp only [stepSize]
    split <;> omega
  rw [filterStep_eq, size]
  split <;> omega

/-- A difference within the threshold moves F by the step (R26). -/
theorem filterAngle_within {c : Settings} {v f : Nat} (snap : Nat) (h : (circleDiff v f).natAbs ≤ 128 * c.snapThreshold) :
    filterAngle c v f snap = ((((f : Int) + filterStep c.smoothingShift (circleDiff v f)) % 46080).toNat, 0) := by
  simp [filterAngle, Nat.not_lt.mpr h]

/-- A greater one counts a jump, until the snap count is reached (R26). -/
theorem filterAngle_jump {c : Settings} {v f : Nat} (snap : Nat) (h : 128 * c.snapThreshold < (circleDiff v f).natAbs) :
    filterAngle c v f snap = if c.snapCount ≤ snap + 1 then (v, 0) else (f, snap + 1) := by
  simp [filterAngle, h]

theorem filterAngle_lt (c : Settings) {v f : Nat} (snap : Nat) (hv : v < 46080) (hf : f < 46080) :
    (filterAngle c v f snap).1 < 46080 := by
  rcases le_or_gt (circleDiff v f).natAbs (128 * c.snapThreshold) with h | h
  · rw [filterAngle_within snap h]
    dsimp only
    omega
  · rw [filterAngle_jump snap h]
    split
    · exact hv
    · exact hf

/-- Settles O15: the rounding by the size of the difference against half of 2^k, the rest by the filter within the threshold. -/
theorem filterStepRoundsHalvesAwayFromZero : Obligations.FilterStepRoundsHalvesAwayFromZero := by
  refine ⟨fun k d => ⟨filterStep_nearest, filterStep_unit, filterStep_zero d⟩, fun c v f snap hv hf h => ?_, by decide⟩
  refine ⟨filterAngle_within snap h, filterAngle_lt c snap hv hf, fun hk => ?_⟩
  obtain ⟨-, -, hmod⟩ := circleDiff_spec hv hf
  rw [filterAngle_within snap h, hk, filterStep_zero]
  dsimp only
  omega

end Sys2Proof.Machine

/-! The raw angle and the published angle (O16): the greedy count of turns follows the direction of its vector. -/

namespace Sys2Proof.Machine

/-! ### The raw angle (R24) -/

/-- A vector lies above the x axis, or on its positive half: its angle is at least 0 and below a half turn. -/
def Upper (v : Int × Int) : Prop := 0 < v.2 ∨ v.2 = 0 ∧ 0 < v.1

/-- Twice the signed area between two vectors: not negative where the second lies, within a half turn, no nearer to the x axis. -/
def spread (v w : Int × Int) : Int := v.1 * w.2 - v.2 * w.1

/-- Rotations within the first quadrant, each by at least as many eighths as all that follow it. -/
def Refining : List (Nat × Turn) → Prop
  | [] => True
  | (n, t) :: ts => (ts.map Prod.fst).sum ≤ n ∧ 0 < t.1 ∧ 0 < t.2 ∧ Refining ts

theorem refining_turns : Refining turns := by
  simp [Refining, turns]

theorem countEighths_le (ts : List (Nat × Turn)) (v : Int × Int) : countEighths ts v ≤ (ts.map Prod.fst).sum := by
  induction ts generalizing v with
  | nil => exact le_rfl
  | cons r ts ih =>
    simp only [countEighths, List.map_cons, List.sum_cons]
    split
    · exact Nat.add_le_add_left (ih _) _
    · exact (ih v).trans (Nat.le_add_left ..)

/-- A vector of the upper half plane turned back keeps to it, where it does not pass the x axis. -/
theorem upper_turnBack {t : Turn} {v : Int × Int} (hc : 0 < t.1) (hs : 0 < t.2) (hv : Upper v) (h : 0 ≤ (turnBack t v).2) :
    Upper (turnBack t v) := by
  rcases h.lt_or_eq with h | h
  · exact .inl h
  · refine .inr ⟨h.symm, ?_⟩
    simp only [turnBack] at h ⊢
    rcases hv with hv | ⟨hy, hx⟩
    · have : 0 < v.1 * t.2 := by nlinarith [mul_pos hv hc]
      have : 0 < v.1 := (mul_pos_iff_of_pos_right hs).mp this
      positivity
    · have := mul_pos hx hs
      simp [hy] at h
      omega

theorem spread_turnBack (t : Turn) (v w : Int × Int) :
    spread (turnBack t v) (turnBack t w) = (t.1 * t.1 + t.2 * t.2) * spread v w := by
  simp only [spread, turnBack]
  ring

/-- A turn that fits into the angle of a vector fits into that of one farther from the x axis. -/
theorem turn_fits {t : Turn} {v w : Int × Int} (hc : 0 < t.1) (hs : 0 < t.2) (hv : Upper v) (hw : Upper w)
    (hvw : 0 ≤ spread v w) (h : 0 ≤ (turnBack t v).2) : 0 ≤ (turnBack t w).2 := by
  simp only [turnBack, spread] at *
  have hwy : 0 ≤ w.2 := hw.elim le_of_lt (fun hw => hw.1.ge)
  rcases le_or_gt w.1 0 with hx | hx
  · nlinarith [mul_nonneg hwy hc.le, mul_nonneg (neg_nonneg.mpr hx) hs.le]
  · have right : 0 < v.1 := by
      by_contra left
      have : 0 ≤ -v.1 * w.2 := mul_nonneg (by omega) hwy
      rcases hv with hv | hv
      · nlinarith [mul_pos hv hx]
      · exact left hv.2
    refine (mul_nonneg_iff_of_pos_left right).mp ?_
    calc 0 ≤ t.1 * (v.1 * w.2 - v.2 * w.1) + w.1 * (v.2 * t.1 - v.1 * t.2) :=
          add_nonneg (mul_nonneg hc.le hvw) (mul_nonneg hx.le h)
      _ = v.1 * (w.2 * t.1 - w.1 * t.2) := by ring

/-- The count rises with the angle over the upper half plane: a first turn that fits the farther vector alone outweighs the turns
that follow it. -/
theorem countEighths_mono {ts : List (Nat × Turn)} (hts : Refining ts) {v w : Int × Int} (hv : Upper v) (hw : Upper w)
    (hvw : 0 ≤ spread v w) : countEighths ts v ≤ countEighths ts w := by
  induction ts generalizing v w with
  | nil => exact le_rfl
  | cons r ts ih =>
    obtain ⟨n, t⟩ := r
    obtain ⟨hn, hc, hs, hts⟩ := hts
    simp only [countEighths]
    by_cases fv : 0 ≤ (turnBack t v).2
    · have fw := turn_fits hc hs hv hw hvw fv
      rw [if_pos fv, if_pos fw]
      refine Nat.add_le_add_left (ih hts (upper_turnBack hc hs hv fv) (upper_turnBack hc hs hw fw) ?_) n
      rw [spread_turnBack]
      positivity
    · rw [if_neg fv]
      split
      · exact (countEighths_le ts v).trans (hn.trans (Nat.le_add_right ..))
      · exact ih hts hv hw hvw

/-- The count is that of the direction: a longer vector has the same. -/
theorem countEighths_scale (ts : List (Nat × Turn)) {k : Int} (hk : 0 < k) (v : Int × Int) :
    countEighths ts (k * v.1, k * v.2) = countEighths ts v := by
  induction ts generalizing v with
  | nil => rfl
  | cons r ts ih =>
    have turned : turnBack r.2 (k * v.1, k * v.2) = (k * (turnBack r.2 v).1, k * (turnBack r.2 v).2) := by
      simp only [turnBack]
      ext <;> ring
    simp only [countEighths, turned, mul_nonneg_iff_of_pos_left hk, ih]

theorem quarter_scale {k : Int} (hk : 0 < k) (x y : Int) :
    quarter (k * x) (k * y) = ((quarter x y).1, k * (quarter x y).2.1, k * (quarter x y).2.2) := by
  have nonpos (a : Int) : k * a ≤ 0 ↔ a ≤ 0 := by rw [← not_lt, mul_pos_iff_of_pos_left hk, not_lt]
  have neg (a : Int) : k * a < 0 ↔ a < 0 := by rw [← not_le, mul_nonneg_iff_of_pos_left hk, not_le]
  simp only [quarter, mul_pos_iff_of_pos_left hk, mul_nonneg_iff_of_pos_left hk, nonpos, neg]
  (repeat' split) <;> simp

theorem turnForward_scale (t : Turn) (k : Int) (v : Int × Int) :
    turnForward t (k * v.1, k * v.2) = (k * (turnForward t v).1, k * (turnForward t v).2) := by
  simp only [turnForward]
  ext <;> ring

theorem rawAngle_scale {k : Int} (hk : 0 < k) (x y : Int) : rawAngle (k * y) (k * x) = rawAngle y x := by
  simp only [rawAngle, quarter_scale hk, turnForward_scale, countEighths_scale _ hk]

theorem rawAngle_lt (x y : Int) : rawAngle y x < 2880 := Nat.mod_lt _ (by decide)

/-- A quarter turn moves a vector on to the next quarter, and leaves what is over of its angle (R24). -/
theorem quarter_turned {x y : Int} (h : x ≠ 0 ∨ y ≠ 0) :
    quarter (-y) x = (((quarter x y).1 + 1) % 4, (quarter x y).2) := by
  unfold quarter
  grind

theorem rawAngle_turned {x y : Int} (h : x ≠ 0 ∨ y ≠ 0) : rawAngle x (-y) = (rawAngle y x + 720) % 2880 := by
  simp only [rawAngle, quarter_turned h]
  omega

/-- In the first quadrant the angle is the count over the vector turned forward by half an eighth (R24). -/
theorem rawAngle_first {x y : Int} (hx : 0 < x) (hy : 0 ≤ y) :
    rawAngle y x = countEighths turns (turnForward halfTurn (x, y)) := by
  have bounded : countEighths turns (turnForward halfTurn (x, y)) ≤ 1023 := countEighths_le ..
  simp only [rawAngle, quarter, hx, hy, and_self, if_true]
  omega

theorem upper_turnForward {x y : Int} (hx : 0 < x) (hy : 0 ≤ y) : Upper (turnForward halfTurn (x, y)) := by
  left
  simp only [turnForward, halfTurn]
  omega

theorem spread_turnForward (t : Turn) (v w : Int × Int) :
    spread (turnForward t v) (turnForward t w) = (t.1 * t.1 + t.2 * t.2) * spread v w := by
  simp only [spread, turnForward]
  ring

theorem rawAngle_mono {x y x1 y1 : Int} (hx : 0 < x) (hy : 0 ≤ y) (hx1 : 0 < x1) (hy1 : 0 ≤ y1) (h : y * x1 ≤ y1 * x) :
    rawAngle y x ≤ rawAngle y1 x1 := by
  rw [rawAngle_first hx hy, rawAngle_first hx1 hy1]
  refine countEighths_mono refining_turns (upper_turnForward hx hy) (upper_turnForward hx1 hy1) ?_
  rw [spread_turnForward]
  refine mul_nonneg (add_nonneg (mul_self_nonneg _) (mul_self_nonneg _)) ?_
  simp only [spread]
  linarith

/-- The half axes (R24): each is a multiple of its unit vector. -/
theorem rawAngle_axes {n : Nat} (h : 0 < n) :
    rawAngle 0 n = 0 ∧ rawAngle n 0 = 720 ∧ rawAngle 0 (-n) = 1440 ∧ rawAngle (-n) 0 = 2160 := by
  have unit (x y : Int) : rawAngle (n * y) (n * x) = rawAngle y x := rawAngle_scale (by omega) x y
  refine ⟨?_, ?_, ?_, ?_⟩
  · simpa using (unit 1 0).trans (by decide : rawAngle 0 1 = 0)
  · simpa using (unit 0 1).trans (by decide : rawAngle 1 0 = 720)
  · simpa using (unit (-1) 0).trans (by decide : rawAngle 0 (-1) = 1440)
  · simpa using (unit 0 (-1)).trans (by decide : rawAngle (-1) 0 = 2160)

/-- The clamp at the seam (R28). -/
theorem publishedAngle_clamp (c : Settings) (f : Nat) :
    (8 * c.b4 ≤ (f + 8) / 16 % 2880 → publishedAngle c .near f = 0) ∧
    ((f + 8) / 16 % 2880 < 8 * c.b4 → publishedAngle c .near f = (f + 8) / 16 % 2880) ∧
    ((f + 8) / 16 % 2880 < 8 * c.b1 → publishedAngle c .far f = 2880) ∧
    (8 * c.b1 ≤ (f + 8) / 16 % 2880 → publishedAngle c .far f = (f + 8) / 16 % 2880) := by
  simp only [publishedAngle]
  refine ⟨fun h => if_pos h, fun h => if_neg (Nat.not_le.mpr h), fun h => if_pos h, fun h => if_neg (Nat.not_lt.mpr h)⟩

theorem publishedAngle_near_lt (c : Settings) (f : Nat) : publishedAngle c .near f < 2880 := by
  simp only [publishedAngle]
  split <;> omega

theorem publishedAngle_le (c : Settings) (side : SeamSide) (f : Nat) : publishedAngle c side f ≤ 2880 := by
  cases side with
  | near => exact (publishedAngle_near_lt c f).le
  | far =>
    simp only [publishedAngle]
    split <;> omega

/-- Settles O16: the direction's laws, the table by evaluation, and the clamp by the side. -/
theorem rawAngleAndPublishedAngle : Obligations.RawAngleAndPublishedAngle := by
  refine ⟨fun k x y hk => ⟨rawAngle_scale (by omega) x y, rawAngle_lt x y⟩, fun n hn => rawAngle_axes hn,
    fun x y h => rawAngle_turned h, fun x y x1 y1 hx hy hx1 hy1 h => rawAngle_mono hx hy hx1 hy1 h, by decide, fun c f => ?_⟩
  obtain ⟨near0, near, far0, far⟩ := publishedAngle_clamp c f
  exact ⟨near0, near, far0, far, publishedAngle_near_lt c f, publishedAngle_le c .far f⟩

end Sys2Proof.Machine

/-! The receiver's counters and MOTION (O21). -/

namespace Sys2Proof.Machine

/-! ### The receiver's counters (R53, R54) -/

theorem countNoise_link (n : NoiseCount) (p : Part) : (countNoise n p).bl.link = p.bl.link := by
  rw [countNoise_bl]

/-- While the receiver listens every noisy character of a frame counts (R53). -/
theorem countNoise_of_listens (n : NoiseCount) {p : Part} (h : p.bl.link.listens = true) :
    countNoise n p =
      { p with bl := { p.bl with noise := min (p.bl.noise + (n.earlier + n.present)) 65535 } } := by
  simp [countNoise, noiseCounts, countedNoise, h, bump_eq]

/-- Where it does not, those count that were complete while it did (R53). -/
theorem countNoise_of_not_listens {n : NoiseCount} {p : Part} (hr : p.resetLow = false)
    (h : p.bl.link.listens = false) (hn : 0 < n.earlier) :
    countNoise n p = { p with bl := { p.bl with noise := min (p.bl.noise + n.earlier) 65535 } } := by
  simp [countNoise, noiseCounts, countedNoise, h, hr, hn, bump_eq]

theorem countDiscard_of_listens (d : Discard) {p : Part} (h : p.bl.link.listens = true) :
    countDiscard d p = { p with bl := { p.bl with
      framing := if d = .framing then min (p.bl.framing + 1) 65535 else p.bl.framing
      check := if d = .check then min (p.bl.check + 1) 65535 else p.bl.check } } := by
  cases d <;> simp [countDiscard, h, bump_eq]

/-- A frame as received counts its noise, and its first offence (R54). -/
theorem discardFrame_of_listens (cs : List RxChar) {p : Part} (h : p.bl.link.listens = true) :
    discardFrame cs p = { p with bl := { p.bl with
      noise := min (p.bl.noise + ((noisyChars cs).earlier + (noisyChars cs).present)) 65535
      framing := if judgeFrame cs = some .framing then min (p.bl.framing + 1) 65535 else p.bl.framing
      check := if judgeFrame cs = some .check then min (p.bl.check + 1) 65535 else p.bl.check } } := by
  have heard : (countNoise (noisyChars cs) p).bl.link.listens = true := by rwa [countNoise_link]
  simp only [discardFrame]
  cases judgeFrame cs with
  | none => simp [countNoise_of_listens _ h]
  | some d =>
    dsimp only
    rw [countDiscard_of_listens d heard, countNoise_of_listens _ h]
    simp

/-- A frame that the receiver does not hear counts the noise complete while it listened, and has no other effect (R53). -/
theorem receive_of_not_listens {n : NoiseCount} (f : Part → Part) {p : Part} (hr : p.resetLow = false)
    (h : p.bl.link.listens = false) (hn : 0 < n.earlier) :
    receive n f p = { p with bl := { p.bl with noise := min (p.bl.noise + n.earlier) 65535 } } := by
  simp [receive, h, countNoise_of_not_listens hr h hn]

theorem discardFrame_of_not_listens {cs : List RxChar} {p : Part} (hr : p.resetLow = false)
    (h : p.bl.link.listens = false) (hn : 0 < (noisyChars cs).earlier) :
    discardFrame cs p = { p with bl := { p.bl with noise := min (p.bl.noise + (noisyChars cs).earlier) 65535 } } := by
  simp only [discardFrame, countNoise_of_not_listens hr h hn]
  cases judgeFrame cs with
  | none => rfl
  | some d => exact countDiscard_of_not_listens d h

/-! ### The sequence check and MOTION (R58, R66) -/

theorem seqCheck_eq (seq : BitVec 4) (p : Part) :
    seqCheck seq p = { p with bl := { p.bl with
      expSeq := p.bl.expSeq.map (fun _ => seq + 1#4)
      lost := if p.bl.expSeq = none then p.bl.lost else min (p.bl.lost + seqGap p.bl seq) 65535 } } := by
  cases he : p.bl.expSeq with
  | none =>
    have same : { p with bl := { p.bl with expSeq := none } } = p := by rw [← he]
    simp [seqCheck, he, same]
  | some e => simp [seqCheck, he, bump_eq]

theorem live_iff (l : Link) : l.live = true ↔ l = .active ∨ l = .stall := by cases l <;> decide

theorem motionFrame_eq (x y z : Word) (counter : Byte) (p : Part) :
    motionFrame x y z counter p = { p with bl := { p.bl with
      sample := if p.bl.link = .active ∨ p.bl.link = .stall then some ⟨x, y, z, counter, p.tb⟩ else p.bl.sample
      absent := if p.bl.link = .active ∨ p.bl.link = .stall then false else p.bl.absent } } := by
  simp only [motionFrame, live_iff]
  split <;> rfl

/-- The gap is how far the frame's number lies ahead of the expected one (R58). -/
theorem seqGap_spec {b : Bl} {seq e : BitVec 4} (h : b.expSeq = some e) :
    seqGap b seq < 16 ∧ e + BitVec.ofNat 4 (seqGap b seq) = seq := by
  simp only [seqGap, h]
  refine ⟨(seq - e).isLt, ?_⟩
  rw [BitVec.ofNat_toNat, BitVec.setWidth_eq, add_sub_cancel]

/-! ### The frame's judgement (R53, R54) -/

theorem judgeFrame_framing {c : RxChar} (cs : List RxChar) (h : c.framingError = true) :
    judgeFrame (c :: cs) = some .framing := by
  simp [judgeFrame, judgeFrom, h]

/-- A LEN above 24 is the offence of its character (R54). -/
theorem judgeFrame_len {c len : RxChar} (cs : List RxChar) (hc : c.framingError = false) (hl : len.framingError = false)
    (h : 24 < len.byte.toNat) : judgeFrame (c :: len :: cs) = some .check := by
  simp [judgeFrame, judgeFrom, hc, hl, h]

theorem noisyChars_cons (c : RxChar) (cs : List RxChar) :
    (noisyChars (c :: cs)).earlier = (noisyChars cs).earlier + (if c.noise = true ∧ c.earlier = true then 1 else 0) ∧
    (noisyChars (c :: cs)).present = (noisyChars cs).present + (if c.noise = true ∧ c.earlier = false then 1 else 0) := by
  simp only [noisyChars, List.filter_cons]
  cases c.noise <;> cases c.earlier <;> simp

/-- Settles O21: by the command, and by whether the receiver listens. -/
theorem receiverCountsAndMotion : Obligations.ReceiverCountsAndMotion := by
  refine ⟨fun n s h => ?_, fun n s h => ?_, fun cs s h => ?_, fun c cs len => ⟨judgeFrame_framing cs, judgeFrame_len cs⟩,
    fun n seq x y z counter s h => ?_, fun b seq e h => seqGap_spec h, ?_, noisyChars_cons⟩
  · simp [exec, execLineBreakReceived, State.on, countNoise_of_listens n h]
  · have heard : (countNoise n s.part).bl.link.listens = true := by rwa [countNoise_link]
    simp only [exec, execFrameGapTimeout, State.on]
    rw [countDiscard_of_listens .framing heard, countNoise_of_listens n h]
    simp
  · simp [exec, execFrameDiscard, State.on, discardFrame_of_listens cs h]
  · simp only [exec, execMotion, State.on, receive, h, if_true, countNoise_of_listens n h, seqCheck_eq, motionFrame_eq]
    rfl
  · intro n cs seq cls rev mode flags counter heldCount result value acc es x y z draw id held s hr h hn hcs i hi
    subst hcs
    simp only [List.mem_cons, List.not_mem_nil, or_false] at hi
    have counted := countNoise_of_not_listens hr h hn
    have unheard := fun f => receive_of_not_listens f hr h hn
    rcases hi with rfl | rfl | rfl | hi
    · simp only [exec, execLineBreakReceived, State.on, counted]
    · have deaf : (countNoise (noisyChars cs) s.part).bl.link.listens = false := by rwa [countNoise_link]
      simp only [exec, execFrameGapTimeout, State.on]
      rw [countDiscard_of_not_listens _ deaf, counted]
    · simp only [exec, execFrameDiscard, State.on, discardFrame_of_not_listens hr h hn]
    · rcases hi with rfl | rfl | rfl | rfl | rfl <;>
        simp only [exec, execHello, execKeys, execMotion, execStatus, execReply, State.on, unheard]

end Sys2Proof.Machine

/-! What the host's accesses carry along: a predicate of the part that survives the elementary changes of an access survives every
access. -/

namespace Sys2Proof.Machine

/-! ### What the host's accesses carry along (R150 to R163) -/

/-- P survives the elementary changes that a host's access makes: of the port, the attention bits and the queues, a class
served or released, and a bad service counted. -/
structure PortCarried (P : Part → Prop) : Prop where
  port : ∀ p h, P p → P { p with hp := h }
  queues : ∀ p q, P p → P { p with rq := q }
  serve : ∀ c p, P p → P (serve c p)
  release : ∀ c p, P p → P (releaseClass c p)
  badService : ∀ p, P p → P (countBadService p)

namespace PortCarried

variable {P : Part → Prop} {s : State}

theorem noteAccess (hP : PortCarried P) (o : Access) (next : Nat) (h : P s.part) : P (noteAccess o next s).part := by
  simp only [Machine.noteAccess, State.on_part]
  split
  · exact hP.port _ _ h
  · exact h

theorem returnWord (hP : PortCarried P) (w : Word) (h : P s.part) : P (returnWord w s).part := hP.port _ _ h

theorem fetch (hP : PortCarried P) (a : Nat) (h : P s.part) : P (fetch a s).2.part := by
  unfold Machine.fetch claim
  split
  · dsimp only [State.withPart_part]
    split
    · exact hP.serve _ _ h
    · exact h
  · exact h

theorem readWord (hP : PortCarried P) (a : Nat) (h : P s.part) : P (readWord a s).part := by
  unfold Machine.readWord
  dsimp only
  split
  · exact hP.noteAccess _ _ (hP.returnWord _ (hP.fetch a h))
  · exact hP.noteAccess _ _ (hP.returnWord _ h)
  · exact hP.noteAccess _ _ (hP.returnWord _ h)
  · exact hP.noteAccess _ _ (hP.returnWord _ h)

theorem examineBit (hP : PortCarried P) (n : Nat) (h : P s.part) : P (examineBit n s).part := by
  unfold Machine.examineBit
  dsimp only
  split
  · split
    · exact hP.queues _ _ (hP.queues _ _ h)
    · exact hP.queues _ _ (hP.queues _ _ h)
  · exact h

theorem writeAttention (hP : PortCarried P) (w : Word) (h : P s.part) : P (writeAttention w s).part := by
  have examined (ns : List Nat) {s : State} (h : P s.part) : P (ns.foldl (fun s n => Machine.examineBit n s) s).part := by
    induction ns generalizing s with
    | nil => exact h
    | cons n ns ih => exact ih (hP.examineBit n h)
  unfold Machine.writeAttention
  dsimp only
  split
  · exact hP.queues _ _ h
  · exact examined _ (hP.queues _ _ h)

theorem takeClass (hP : PortCarried P) (w : Word) {p : Part} (h : P p) : P (takeClass w p) := by
  unfold Machine.takeClass
  split
  · exact holds_ite (hP.serve _ _ h) (hP.badService _ h)
  · exact hP.badService _ h

theorem endServiceOf (hP : PortCarried P) (w : Word) {p : Part} (h : P p) : P (endServiceOf w p) := by
  unfold Machine.endServiceOf
  split
  · exact holds_ite (hP.release _ _ h) (hP.badService _ h)
  · exact hP.badService _ h

theorem carryOut (hP : PortCarried P) (a : Nat) (w : Word) (h : P s.part) : P (carryOut a w s).part := by
  unfold Machine.carryOut
  split
  · exact hP.writeAttention w h
  · exact hP.takeClass w h
  · exact hP.endServiceOf w h
  · exact h

theorem writeWord (hP : PortCarried P) (a : Nat) (w : Word) (h : P s.part) : P (writeWord a w s).part := by
  unfold Machine.writeWord
  dsimp only
  split
  · exact hP.noteAccess _ _ (hP.carryOut a w h)
  · exact hP.noteAccess _ _ h
  · exact hP.noteAccess _ _ h
  · exact hP.noteAccess _ _ h

theorem updateWord (hP : PortCarried P) (a : Nat) (e w : Word) (h : P s.part) : P (updateWord a e w s).part := by
  have returned (o : Access) (v : Word) {r : State} (h : P r.part) :
      P (Machine.noteAccess o (a + 1) (Machine.returnWord v r)).part :=
    hP.noteAccess _ _ (hP.returnWord _ h)
  unfold Machine.updateWord
  dsimp only
  split
  · refine returned _ _ ?_
    split
    · exact hP.carryOut a w h
    · exact h
  · exact returned _ _ h
  · exact returned _ _ h
  · exact returned _ _ h

/-- What changes the port alone is carried. -/
theorem portOnly (hP : PortCarried P) {p q : Part} (hq : q = { p with hp := q.hp }) (h : P p) : P q := by
  rw [hq]
  exact hP.port _ _ h

theorem hostRead (hP : PortCarried P) (a n : Nat) (h : P s.part) : P (hostRead a n s).part := by
  have reads (n a : Nat) {s : State} (h : P s.part) : P (readWords a n s).part := by
    induction n generalizing a s with
    | zero => exact h
    | succ n ih => exact ih (a + 1) (hP.readWord a h)
  unfold Machine.hostRead
  split
  · exact reads _ _ (hP.portOnly (openTrans_eq ..) h)
  · exact h

theorem hostWrite (hP : PortCarried P) (a : Nat) (ws : List Word) (h : P s.part) : P (hostWrite a ws s).part := by
  have writes (ws : List Word) (a : Nat) {s : State} (h : P s.part) : P (writeWords a ws s).part := by
    induction ws generalizing a s with
    | nil => exact h
    | cons w ws ih => exact ih (a + 1) (hP.writeWord a w h)
  unfold Machine.hostWrite
  split
  · exact writes _ _ (hP.portOnly (openTrans_eq ..) h)
  · exact h

theorem hostUpdate (hP : PortCarried P) (a : Nat) (e : Word) (w : Option Word) (h : P s.part) :
    P (hostUpdate a e w s).part := by
  unfold Machine.hostUpdate
  split
  · cases w with
    | some w => exact hP.updateWord a e w (hP.portOnly (openUpdate_eq ..) h)
    | none => exact hP.portOnly (beginTrans_eq ..) h
  · exact h

theorem hostPortRead (hP : PortCarried P) (index : Byte) (h : P s.part) : P (hostPortRead index s).part := by
  have begun : P (s.on (beginTrans .other 0)).part := hP.portOnly (beginTrans_eq ..) h
  unfold Machine.hostPortRead
  dsimp only
  (repeat' split)
  · exact hP.returnWord _ begun
  · exact hP.returnWord _ begun
  · exact hP.noteAccess _ _ (hP.returnWord _ begun)
  · exact h

theorem hostUnknown (hP : PortCarried P) (byte : Byte) (h : P s.part) : P (hostUnknown byte s).part := by
  have begun : P (s.on (beginTrans .other 0)).part := hP.portOnly (beginTrans_eq ..) h
  unfold Machine.hostUnknown
  dsimp only
  (repeat' split)
  · exact begun
  · exact hP.noteAccess _ _ begun
  · exact h

/-- A host's access carries P on, whatever it reads, writes or updates. -/
theorem hostAccess (hP : PortCarried P) {i : Instr} (hi : Instr.isHostAccess i = true) (h : P s.part) :
    Completes i s fun t => P t.part := by
  cases i with
  | acknowledge | read => exact ⟨_, rfl, hP.hostRead _ _ h⟩
  | take | endService | attention | xmWordWrite | write => exact ⟨_, rfl, hP.hostWrite _ _ h⟩
  | update => exact ⟨_, rfl, hP.hostUpdate _ _ _ h⟩
  | portRead => exact ⟨_, rfl, hP.hostPortRead _ h⟩
  | unknownCommand => exact ⟨_, rfl, hP.hostUnknown _ h⟩
  | transactionEnd => exact ⟨_, rfl, hP.portOnly (hostTransEnd_eq _) h⟩
  | _ => exact absurd hi (by simp [Instr.isHostAccess])

end PortCarried
end Sys2Proof.Machine

/-! The angle engine's rules (O55): each command leaves AE, or makes of it one of four things. -/

namespace Sys2Proof.Machine

variable {p q : Part} {s : State}

/-! ### AE after a lid sample (R20, R25, R29) -/

theorem deliverSample_ae (v : Reading) (p : Part) :
    (deliverSample v p).ae = (lidSampleAngle v { p with sp := { p.sp with failureRun := 0, fresh := false } }).ae := by
  simp [deliverSample]

/-- The check that a lid sample with these axes fails at this moment (R20). -/
def sampleCheck (v : Reading) (p : Part) : Option Reason :=
  failedCheck p.sl.inForce p.bl.link p.sa.hostState p.tb p.bl.absent p.bl.sample v

/-- The value of a lid sample beside this base sample: 16 times the raw angle (R24, R25). -/
def sampleValue (v : Reading) (b : BaseSample) (c : Settings) : Nat :=
  16 * rawAngleOf (c.lidMap.apply v) (c.baseMap.apply b.reading)

theorem sampleValue_lt (v : Reading) (b : BaseSample) (c : Settings) : sampleValue v b c < 46080 := by
  have raw : rawAngleOf (c.lidMap.apply v) (c.baseMap.apply b.reading) < 2880 := rawAngle_lt ..
  simp only [sampleValue]
  omega

/-- A sample that fails a check (R29). -/
theorem deliverSample_ae_invalid {v : Reading} {why : Reason} (h : sampleCheck v p = some why) :
    (deliverSample v p).ae = p.ae.invalid why := by
  rw [sampleCheck] at h
  simp [deliverSample_ae, lidSampleAngle, h]

/-- A sample that passes every check (R25, R26). -/
theorem deliverSample_ae_valid {v : Reading} {b : BaseSample} (h : sampleCheck v p = none) (hb : p.bl.sample = some b) :
    (deliverSample v p).ae =
      p.ae.valid p.sl.inForce p.pc.seam p.tb (sampleValue v b p.sl.inForce) (p.sl.inForce.baseMap.apply b.reading).2 := by
  rw [sampleCheck, hb] at h
  simp [deliverSample_ae, lidSampleAngle, h, hb, sampleValue]

/-- A sample that passes every check has a base sample (R21). -/
theorem sample_of_sampleCheck_none {v : Reading} (h : sampleCheck v p = none) : ∃ b, p.bl.sample = some b := by
  cases hb : p.bl.sample with
  | some b => exact ⟨b, rfl⟩
  | none => simp [sampleCheck, failedCheck, hb] at h

/-! ### What a command can do to AE -/

/-- What one command can make of AE: it stays, loses its angle (R18, R30, R31), takes an invalid or a valid lid sample (R29,
R25), or takes its reset values (R160). -/
inductive AngleStep (a : Ae) : Ae → Prop where
  | kept : AngleStep a a
  | lost (why : Reason) : AngleStep a (a.lose why)
  | invalid (why : Reason) : AngleStep a (a.invalid why)
  | valid (c : Settings) (side : SeamSide) (now : Time) (v : Nat) (base : Int × Int) (hv : v < 46080) :
      AngleStep a (a.valid c side now v base)
  | reset : AngleStep a Ae.reset

theorem loseAngle_step (why : Reason) (p : Part) : AngleStep p.ae (loseAngle why p).ae := by
  rw [loseAngle_ae]
  exact .lost why

theorem raiseSensorFault_step (due : Time) (p : Part) : AngleStep p.ae (raiseSensorFault due p).ae := by
  rw [raiseSensorFault_ae]
  exact .lost .sensorFault

theorem configEnded_step (start : Time) (ok : Bool) (p : Part) : AngleStep p.ae (configEnded start ok p).ae := by
  cases ok with
  | true =>
    rw [show (configEnded start true p).ae = p.ae from (leaveStarting_frames _).1]
    exact .kept
  | false =>
    rw [configEnded_failed, (leaveStarting_frames _).1]
    exact raiseSensorFault_step start { p with sp := { p.sp with flight := .none } }

theorem deliverSample_step (v : Reading) (p : Part) : AngleStep p.ae (deliverSample v p).ae := by
  cases hc : sampleCheck v p with
  | some why =>
    rw [deliverSample_ae_invalid hc]
    exact .invalid why
  | none =>
    obtain ⟨b, hb⟩ := sample_of_sampleCheck_none hc
    rw [deliverSample_ae_valid hc hb]
    exact .valid _ _ _ _ _ (sampleValue_lt ..)

theorem sampleEnded_step (due : Time) (v : Option Reading) (p : Part) : AngleStep p.ae (sampleEnded due v p).ae := by
  cases v with
  | some v => exact deliverSample_step v { p with sp := { p.sp with flight := .none } }
  | none =>
    simp only [sampleEnded, sampleFailed]
    split
    · exact raiseSensorFault_step due { p with sp := { p.sp with flight := .none } }
    · exact .kept

theorem holdExpired_ae (p : Part) : (holdExpired p).ae = p.ae.lose (expiryReason p.sa.hostState p.ae) := by
  simp [holdExpired]

theorem bringIntoForce_step (c : Settings) (p : Part) : AngleStep p.ae (bringIntoForce c p).ae := by
  have inputs : (inputsSettings p.sl.inForce { p with sl := { p.sl with inForce := c } }).ae = p.ae := by simp
  have angle (old : Settings) (q : Part) : AngleStep q.ae (angleSettings old q).ae := by
    unfold angleSettings
    split
    · exact loseAngle_step ..
    · exact .kept
  have step := angle p.sl.inForce (inputsSettings p.sl.inForce { p with sl := { p.sl with inForce := c } })
  rw [inputs] at step
  simpa [bringIntoForce] using step

theorem applied_step (c : Settings) (code : Word) (p : Part) : AngleStep p.ae (applied c code p).ae := by
  have same : (applied c code p).ae = (bringIntoForce c p).ae := by
    simp only [applied]
    split <;> simp
  rw [same]
  exact bringIntoForce_step c p

theorem snapshotJudged_step (ws : List Word) (p : Part) : AngleStep p.ae (snapshotJudged ws p).ae := by
  unfold snapshotJudged
  split
  · dsimp only
    split
    · simpa using AngleStep.kept
    · exact .kept
  · dsimp only
    split
    · exact applied_step ..
    · simpa using AngleStep.kept

theorem keepsAngle_portCarried (a : Ae) : PortCarried fun p => p.ae = a where
  port _ _ h := h
  queues _ _ h := h
  serve _ _ h := by simpa using h
  release _ _ h := by simpa using h
  badService _ h := by simpa using h

theorem failIn_ae (ph : Phase) (k : WindowFailure) (s : State) : (failIn ph k s).part.ae = s.part.ae := by
  unfold failIn
  split <;> simp

/-- A command that is not said to reach AE leaves it as it is. -/
theorem angle_kept {i : Instr} (hi : Block.angle ∉ Instr.reaches i) (s : State) :
    Completes i s fun t => t.part.ae = s.part.ae := by
  by_cases ha : Instr.isHostAccess i = true
  · exact (keepsAngle_portCarried s.part.ae).hostAccess ha rfl
  cases i with
  | fullReset | softReset | configurationStepEnd | sampleArrival | holdTimerExpiry | settingsSnapshotEnd
  | settingsWriteBackEnd => simp [Instr.reaches, allBlocks] at hi
  | acknowledge | take | endService | attention | xmWordWrite | read | write | update | portRead | unknownCommand
  | transactionEnd => exact absurd rfl ha
  | resetnRelease | tbTick | filteredLevelChange | debounceExpiry | postureDwellExpiry | orientationDwellExpiry
  | replyTimerExpiry | powerGoodExpiry | activateTimeExpiry | helloTimerExpiry | stallIdleExpiry | minimumHibernateExpiry
  | baseAttribute | profileReload | settlingExpiry | prechargeExpiry | windowDue | cooldownExpiry | faultHistoryExpiry
  | overcurrent | inactivityExpiry | graceExpiry | wakeRepeatExpiry =>
    simp only [Completes, exec, execResetnRelease, execTbTick, execFilteredLevelChange, execDebounceExpiry,
      execPostureDwellExpiry, execOrientationDwellExpiry, execReplyTimerExpiry, execPowerGoodExpiry, execActivateTimeExpiry,
      execHelloTimerExpiry, execStallIdleExpiry, execMinimumHibernateExpiry, execBaseAttribute, execProfileReload,
      execSettlingExpiry, execPrechargeExpiry, execWindowDue, execCooldownExpiry, execFaultHistoryExpiry, execOvercurrent,
      execInactivityExpiry, execGraceExpiry, execWakeRepeatExpiry]
    (repeat' split) <;> exact ⟨_, rfl, by simp⟩
  | resetWorkEnd | sampleDue | faultAttemptDue | faultAttemptEnd | lineResetEnd | wakeBreakEnd | baseRetry
  | profileSnapshotEnd | profileResultWriteEnd | grantSent | setHostState | recordPublicationEnd | wakePulseEnd
  | slotCompletionEnd | refresh =>
    simp only [Completes, exec, execResetWorkEnd, execSampleDue, execFaultAttemptDue, execFaultAttemptEnd, execLineResetEnd,
      execWakeBreakEnd, execBaseRetry, execProfileSnapshotEnd, execProfileResultWriteEnd, execGrantSent, execSetHostState,
      execRecordPublicationEnd, execWakePulseEnd, execSlotCompletionEnd, execRefresh]
    (repeat' split) <;>
      exact ⟨_, rfl, by simp [finishWork, finishSnapshot, finishResultWrite, finishPublication]⟩
  | lineBreakReceived | frameGapTimeout | frameDiscard | exchangeSent => exact ⟨_, rfl, by simp⟩
  | hello | keys | motion | status | reply =>
    refine ⟨_, rfl, ?_⟩
    simp only [State.on_part, receive]
    split <;> simp
  | quietEnd | breakEnd | pollSent | syncStart | reportStart =>
    refine ⟨_, rfl, ?_⟩
    unfold stepPhase
    split <;> rfl
  | syncWaitExpiry | syncMeasureTimeout | reportWaitExpiry | reportGapTimeout => exact ⟨_, rfl, failIn_ae ..⟩
  | syncReceived | report =>
    simp only [Completes, exec, execSyncReceived, execReport]
    split
    · exact ⟨_, rfl, by simp⟩
    · exact ⟨_, rfl, failIn_ae ..⟩
  | penControlStop | penControlResume | penControlClearLockout | penControlBadArg =>
    refine ⟨_, rfl, ?_⟩
    unfold takePenControl
    split <;> simp
  | timeCapture | countersRead | countersReadAndClear | countersBadArg | badKind =>
    refine ⟨_, rfl, ?_⟩
    unfold takeOwn
    split <;> simp
  | applySettings | lockSettings =>
    refine ⟨_, rfl, ?_⟩
    unfold takeSettings
    split <;> simp

/-- What any command makes of AE. -/
theorem angle_step (i : Instr) (s : State) : Completes i s fun t => AngleStep s.part.ae t.part.ae := by
  by_cases hi : Block.angle ∈ Instr.reaches i
  · cases i with
    | fullReset => exact ⟨_, rfl, .reset⟩
    | softReset => exact completes_gate (fun _ => by simpa [softReset, Part.reset] using AngleStep.reset) .kept
    | configurationStepEnd f g =>
      simp only [Completes, exec, execConfigurationStepEnd]
      split
      · exact ⟨_, rfl, configEnded_step ..⟩
      · exact ⟨s, rfl, .kept⟩
    | sampleArrival a r =>
      simp only [Completes, exec, execSampleArrival]
      split
      · exact ⟨_, rfl, sampleEnded_step ..⟩
      · exact ⟨s, rfl, .kept⟩
    | holdTimerExpiry =>
      refine completes_gate (fun _ => ?_) .kept
      simpa [holdExpired_ae] using AngleStep.lost _
    | settingsSnapshotEnd =>
      simp only [Completes, exec, execSettingsSnapshotEnd]
      split
      · exact ⟨_, rfl, snapshotJudged_step ..⟩
      · exact ⟨s, rfl, .kept⟩
    | settingsWriteBackEnd =>
      simp only [Completes, exec, execSettingsWriteBackEnd]
      split
      · exact ⟨_, rfl, applied_step ..⟩
      · exact ⟨s, rfl, .kept⟩
    | _ => exact absurd hi (by simp [Instr.reaches, linkReach, attachReach, penReach, offerReach])
  · obtain ⟨t, ht, kept⟩ := angle_kept hi s
    refine ⟨t, ht, ?_⟩
    simp only [kept]
    exact .kept

/-! ### The rules of the angle (R26, R28, R30) -/

/-- A valid sample's F lies on the circle: it is the sample value, or the filter's (R25, R26). -/
theorem valid_f_lt (c : Settings) (side : SeamSide) (now : Time) {v : Nat} (base : Int × Int) {a : Ae} (hv : v < 46080)
    (hf : a.f < 46080) : (a.valid c side now v base).f < 46080 := by
  simp only [Ae.valid]
  split
  · exact hv
  · exact filterAngle_lt c _ hv hf

/-- Each thing that a command can make of AE keeps the rules of the angle. -/
theorem AngleStep.keeps_inv (h : AngleStep p.ae q.ae) (hp : AngleInv p) : AngleInv q := by
  obtain ⟨hf, hunknown, hknown, hpub⟩ := hp
  generalize p.ae = a at *
  unfold AngleInv
  generalize q.ae = b at *
  cases h with
  | kept => exact ⟨hf, hunknown, hknown, hpub⟩
  | lost why => simp [Ae.lose, hf]
  | reset => simp [Ae.reset]
  | invalid why =>
    refine ⟨hf, fun hu => hunknown ?_, fun hk => hknown ?_, hpub⟩
    · by_contra hk
      simp [Ae.invalid, hk] at hu
    · intro hu
      simp [Ae.invalid, hu] at hk
  | valid c side now v base hv =>
    refine ⟨valid_f_lt c side now base hv hf, ?_, ?_, ?_⟩
    · simp [Ae.valid]
    · simp [Ae.valid, startTimer]
    · rintro x ⟨⟩
      exact publishedAngle_le ..

/-- Settles O55: by what a command can make of AE. -/
theorem angleRulesHoldInEveryStep : Obligations.AngleRulesHoldInEveryStep := by
  intro i s hs
  obtain ⟨t, ht, step⟩ := angle_step i s
  exact ⟨t, ht, step.keeps_inv hs⟩

end Sys2Proof.Machine

/-! Lid samples and the hold timer (O13): AE after each, and the UNKNOWN delivery that PC keeps. -/

namespace Sys2Proof.Machine

variable {p : Part} {s : State}

/-! ### The lid sample as it arrives (R8, R20) -/

theorem sampleArrival_ae_valid {due : Time} {v : Reading} {b : BaseSample} {a r : SampleTry} (hf : s.part.sp.flight = .sample due)
    (hv : sampleReading a r = some v) (hb : s.part.bl.sample = some b) (hc : sampleCheck v s.part = none) :
    Completes (.sampleArrival a r) s fun t =>
      t.part.ae = s.part.ae.valid s.part.sl.inForce s.part.pc.seam s.part.tb (sampleValue v b s.part.sl.inForce)
        (s.part.sl.inForce.baseMap.apply b.reading).2 := by
  refine ⟨_, exec_sampleArrival hf a r, ?_⟩
  rw [hv]
  exact deliverSample_ae_valid (p := { s.part with sp := { s.part.sp with flight := .none } }) hc hb

theorem sampleArrival_ae_invalid {due : Time} {v : Reading} {why : Reason} {a r : SampleTry}
    (hf : s.part.sp.flight = .sample due) (hv : sampleReading a r = some v) (hc : sampleCheck v s.part = some why) :
    Completes (.sampleArrival a r) s fun t => t.part.ae = s.part.ae.invalid why := by
  refine ⟨_, exec_sampleArrival hf a r, ?_⟩
  rw [hv]
  exact deliverSample_ae_invalid (p := { s.part with sp := { s.part.sp with flight := .none } }) hc

/-- In UNKNOWN a valid sample sets F; nothing of the F before enters (R25). -/
theorem valid_of_unknown (c : Settings) (side : SeamSide) (now : Time) (v : Nat) (base : Int × Int) {a : Ae}
    (h : a.validity = .unknown) :
    a.valid c side now v base = ⟨.valid, .none, v, 0, some (publishedAngle c side v), some ⟨now, 2000⟩, some base⟩ := by
  simp [Ae.valid, h, startTimer]

/-- In VALID and HELD a valid sample filters F (R26). -/
theorem valid_of_known (c : Settings) (side : SeamSide) (now : Time) (v : Nat) (base : Int × Int) {a : Ae}
    (h : a.validity ≠ .unknown) :
    a.valid c side now v base = ⟨.valid, .none, (filterAngle c v a.f a.snap).1, (filterAngle c v a.f a.snap).2,
      some (publishedAngle c side (filterAngle c v a.f a.snap).1), some ⟨now, 2000⟩, some base⟩ := by
  simp [Ae.valid, h, startTimer]

/-! ### The angle lost (R30, R32) -/

theorem decideSuppression_zone (p : Part) : (decideSuppression p).pc.zone = p.pc.zone := by
  simp only [decideSuppression]
  split <;> simp

theorem handOn_zone (before : Posture) (p : Part) : (handOn before p).pc.zone = p.pc.zone := by
  simp only [handOn]
  (repeat' split) <;> simp [offerPosture]

theorem dwellStep_zone (now : Time) (d : Nat) (before : Posture) (c : Pc) : (c.dwellStep now d before).zone = c.zone := by
  simp only [Pc.dwellStep]
  (repeat' split) <;> rfl

/-- An evaluation takes the zone of the delivery that PC holds (R37). -/
theorem evaluatePosture_zone (p : Part) :
    (evaluatePosture p).pc.zone = nextZone p.sl.inForce p.pc.stored p.pc.zone := by
  rw [evaluatePosture, handOn_zone, decideSuppression_zone, dwellStep_zone]
  rfl

theorem postureExpired_zone (p : Part) : (postureExpired p).pc.zone = p.pc.zone := by
  rw [postureExpired, handOn_zone, decideSuppression_zone]

theorem evaluatePosture_stored (p : Part) : (evaluatePosture p).pc.stored = p.pc.stored :=
  ((undisturbed_carried p).carried.evaluate p (.refl p)).2.2.2.2

theorem nextZone_unknown (c : Settings) {d : StoredDelivery} (h : d.validity = .unknown) (z : Zone) :
    nextZone c d z = .none := by
  simp [nextZone, h]

/-- PC holds this delivery, and no zone. -/
def Lost (d : StoredDelivery) (p : Part) : Prop := p.pc.stored = d ∧ p.pc.zone = .none

theorem Lost.evaluatePosture {d : StoredDelivery} (hd : d.validity = .unknown) (h : p.pc.stored = d) :
    Lost d (evaluatePosture p) := by
  refine ⟨(evaluatePosture_stored p).trans h, ?_⟩
  rw [evaluatePosture_zone, h, nextZone_unknown _ hd]

/-- An UNKNOWN delivery and the zone that it leaves stand through what follows it (R35, R37). -/
theorem lost_carried {d : StoredDelivery} (hd : d.validity = .unknown) : Carried (Lost d) where
  content _ _ h := by simpa [Lost] using h
  line _ _ _ _ h := h
  keys _ _ _ h := h
  advisor _ _ _ _ _ _ h := h
  rotation _ _ _ h := h
  walker _ _ h := h
  queues _ _ h := h
  port _ _ h := h
  evaluate _ h := .evaluatePosture hd h.1
  expired p h := ⟨((undisturbed_carried p).carried.expired p (.refl p)).2.2.2.2.trans h.1,
    (postureExpired_zone p).trans h.2⟩

/-- After the loss of the angle PC holds the UNKNOWN delivery (R30, R32). -/
theorem holdExpired_lost (p : Part) :
    Lost ⟨none, .unknown, expiryReason p.sa.hostState p.ae, none⟩ (settle (holdExpired p)) := by
  have carried := lost_carried (d := ⟨none, .unknown, expiryReason p.sa.hostState p.ae, none⟩) rfl
  exact carried.settle (carried.orientationDelivery _ (.evaluatePosture rfl rfl))

/-- Settles O13: a sample by its check and the validity before it, the expiry by what it delivers, and the filter by the size
of the difference. -/
theorem samplesAndTheHoldTimerSetTheAngle : Obligations.SamplesAndTheHoldTimerSetTheAngle := by
  refine ⟨fun due v b a r s hf hv hb hc hu => ?_, fun due v b a r s hf hv hb hc hu => ?_,
    fun due v why a r s hf hv hc => sampleArrival_ae_invalid hf hv hc, fun s hd => ?_, fun c v f snap hv hf => ?_⟩
  · obtain ⟨t, ht, hae⟩ := sampleArrival_ae_valid hf hv hb hc
    exact ⟨t, ht, hae.trans (valid_of_unknown _ _ _ _ _ hu)⟩
  · obtain ⟨t, ht, hae⟩ := sampleArrival_ae_valid hf hv hb hc
    rw [valid_of_known _ _ _ _ _ hu] at hae
    exact ⟨t, ht, by simp [hae, sampleValue]⟩
  · refine ⟨s.on fun p => settle (holdExpired p), by simp [exec, execHoldTimerExpiry, hd], ?_, ?_⟩
    · simp [holdExpired_ae, Ae.lose, expiryReason]
    · obtain ⟨stored, zone⟩ := holdExpired_lost s.part
      refine ⟨?_, zone⟩
      simpa [holdExpired_ae, Ae.lose] using stored
  · refine ⟨circleDiff_spec hv hf, fun hj => ?_, filterAngle_within snap⟩
    rw [filterAngle_jump snap hj]
    exact ⟨fun h => if_pos h, fun h => if_neg (Nat.not_le.mpr h)⟩

end Sys2Proof.Machine

/-! The posture rule and the orientation rules (O56): what keeps the link, the posture, OT and the settings keeps them, and
every entry into a link state, evaluation and delivery sets them anew. -/

namespace Sys2Proof.Machine

variable {old c : Settings} {p q : Part}

/-! ### The rules, also while new settings come into force (R42, R51, R172) -/

/-- With the settings `c` in force a held rotation has no candidate, and one held by the posture is ROT0 (R51). -/
def HeldStill (c : Settings) (p : Part) : Prop :=
  p.sl.inForce = c ∧ (p.ot.hold ≠ .none → p.ot.candidate = none ∧ p.ot.dwell = none) ∧
  (p.ot.hold = .posture → p.ot.rotation = .rot0)

/-- The rules of OT with the settings `c` in force; until OT has acted on them the hold may be that of the settings `old`. -/
def Oriented (old c : Settings) (p : Part) : Prop :=
  HeldStill c p ∧ (p.ot.hold = holdFor c p.ot.posture ∨ p.ot.hold = holdFor old p.ot.posture)

/-- The rules of PC and of OT. -/
def Posed (old c : Settings) (p : Part) : Prop := PostureInv p ∧ Oriented old c p

theorem posed_iff : Posed c c p ↔ p.sl.inForce = c ∧ PostureInv p ∧ OrientationInv p := by
  simp only [Posed, Oriented, HeldStill, OrientationInv, or_self]
  constructor
  · rintro ⟨hp, ⟨rfl, hc, hr⟩, hh⟩
    exact ⟨rfl, hp, hh, hc, hr⟩
  · rintro ⟨rfl, hp, hh, hc, hr⟩
    exact ⟨hp, ⟨rfl, hc, hr⟩, hh⟩

theorem Oriented.congr (hp : Oriented old c p) (hf : q.ot = p.ot ∧ q.sl.inForce = p.sl.inForce) : Oriented old c q := by
  simpa only [Oriented, HeldStill, hf.1, hf.2] using hp

theorem PostureInv.congr (hp : PostureInv p)
    (hf : q.bl.link = p.bl.link ∧ q.pc.published = p.pc.published ∧ q.pc.dwell = p.pc.dwell) : PostureInv q := by
  obtain ⟨hl, hd, hw⟩ := hf
  simpa only [PostureInv, hl, hd, hw] using hp

/-- `Posed` speaks of the fields named here alone. -/
theorem Posed.congr (hp : Posed old c p)
    (hf : (q.bl.link = p.bl.link ∧ q.pc.published = p.pc.published ∧ q.pc.dwell = p.pc.dwell) ∧
      q.ot = p.ot ∧ q.sl.inForce = p.sl.inForce) : Posed old c q :=
  ⟨PostureInv.congr hp.1 hf.1, hp.2.congr hf.2⟩

/-! ### Orientation (R48, R50, R51) -/

/-- OT after its hold has been recomputed (R51). -/
theorem rehold_ot (p : Part) :
    (rehold p).ot =
      if holdFor p.sl.inForce p.ot.posture = p.ot.hold then p.ot
      else { p.ot with
        hold := holdFor p.sl.inForce p.ot.posture, candidate := none, dwell := none
        rotation := if holdFor p.sl.inForce p.ot.posture = .posture then .rot0 else p.ot.rotation
        time := (rehold p).ot.time } := by
  simp only [rehold]
  split
  · rfl
  · split <;> simp [offerOrientation]

/-- Once OT has recomputed it the hold is that of the settings in force and the posture (R51). -/
theorem HeldStill.rehold (hp : HeldStill c p) (old : Settings) : Oriented old c (rehold p) := by
  obtain ⟨hc, hcand, hrot⟩ := hp
  have still : HeldStill c (Machine.rehold p) := by
    refine ⟨by simpa using hc, ?_⟩
    rw [rehold_ot]
    split
    · exact ⟨hcand, hrot⟩
    · exact ⟨fun _ => ⟨rfl, rfl⟩, fun h => if_pos h⟩
  refine ⟨still, .inl ?_⟩
  rw [rehold_ot, hc]
  split
  · exact Eq.symm ‹_›
  · rfl

theorem Oriented.orientationTold (hp : Oriented old c p) (x : Posture) : Oriented old c (orientationTold x p) := by
  obtain ⟨⟨hc, hcand, hrot⟩, -⟩ := hp
  exact HeldStill.rehold (p := { p with ot := { p.ot with posture := x } }) ⟨hc, hcand, hrot⟩ old

/-- OT acts on the new settings (R51): its hold is theirs. -/
theorem Posed.orientationSettings (hp : Posed old c p) : Posed c c (orientationSettings old p) := by
  have still := hp.2.1
  have pose : PostureInv (Machine.orientationSettings old p) := PostureInv.congr hp.1 (by simp)
  refine ⟨pose, ?_⟩
  unfold Machine.orientationSettings
  dsimp only
  split
  · exact still.rehold c
  · next h =>
    simp only [still.1, ne_eq, not_or, not_not] at h
    have same : holdFor old p.ot.posture = holdFor c p.ot.posture := by simp [holdFor, h]
    refine ⟨still, .inl ?_⟩
    rcases hp.2.2 with hh | hh
    · exact hh
    · exact hh.trans same

/-- An evaluation leaves a hold, and what is held (R48, R49). -/
theorem Oriented.orientationDelivery (hp : Oriented old c p) (d : Delivery) : Oriented old c (orientationDelivery d p) := by
  have evaluated (s : Settings) (now : Time) (lx ly : Int) :
      Oriented old c { p with ot := evaluateRotation s now lx ly p.ot } := by
    have posture := evaluateRotation_posture s now lx ly p.ot
    have hold : (evaluateRotation s now lx ly p.ot).hold = p.ot.hold := by
      simp only [evaluateRotation]
      (repeat' split) <;> rfl
    obtain ⟨⟨hc, hcand, hrot⟩, hh⟩ := hp
    refine ⟨⟨hc, ?_⟩, by simpa only [hold, posture] using hh⟩
    by_cases hn : p.ot.hold = .none
    · simp [hold, hn]
    · simpa [evaluateRotation, hn] using And.intro (hcand hn) hrot
  unfold Machine.orientationDelivery
  split
  · exact evaluated ..
  · exact hp

/-- A rotation is published where nothing holds it (R50). -/
theorem Oriented.rotationExpired (hp : Oriented old c p) : Oriented old c (rotationExpired p) := by
  obtain ⟨⟨hc, hcand, hrot⟩, hh⟩ := hp
  unfold Machine.rotationExpired
  split
  · next r hr =>
    have free : p.ot.hold = .none := by
      by_contra hn
      simp [(hcand hn).1] at hr
    refine Oriented.congr (p := { p with ot := { p.ot with rotation := r, candidate := none, dwell := none, time := p.tb } })
      ⟨⟨hc, ?_⟩, hh⟩ (by simp [offerOrientation])
    simp [free]
  · exact ⟨⟨hc, fun hn => ⟨(hcand hn).1, rfl⟩, hrot⟩, hh⟩

/-! ### Posture (R42, R45) -/

theorem Oriented.handOn (hp : Oriented old c p) (before : Posture) : Oriented old c (handOn before p) := by
  have told : Oriented old c (tellPosture p) := by
    have posture := (hp.orientationTold p.pc.published).congr
      (q := postureTold p.pc.published (Machine.orientationTold p.pc.published p)) (by simp)
    exact holds_ite (posture.congr (by simp)) posture
  have handed := holds_ite (c := p.pc.published = before) hp told
  exact holds_ite handed (handed.congr (by simp [offerPosture]))

theorem decideSuppression_dwell (p : Part) : (decideSuppression p).pc.dwell = p.pc.dwell := by
  rw [decideSuppression_eq]

theorem handOn_dwell (before : Posture) (p : Part) : (handOn before p).pc.dwell = p.pc.dwell := by
  simp only [handOn]
  (repeat' split) <;> simp [offerPosture]

/-- Without an attached link an evaluation leaves no dwell (R42). -/
theorem decided_dwell_unattached (hl : p.bl.link.attached = false) : (decided p).pc.dwell = none := by
  rw [decided, decideSuppression_dwell]
  simp only [Pc.dwellStep, Pc.classify, candidateOf, hl, Bool.not_false, if_true]
  split <;> rfl

/-- An evaluation sets the posture rule, whatever stood before it (R42). -/
theorem evaluatePosture_postureInv (p : Part) : PostureInv (evaluatePosture p) := by
  intro hl
  have unattached : p.bl.link.attached = false := by simpa using hl
  rw [evaluatePosture_eq, handOn_published, handOn_dwell]
  exact ⟨decided_unattached unattached, decided_dwell_unattached unattached⟩

theorem Oriented.evaluatePosture (hp : Oriented old c p) : Posed old c (evaluatePosture p) :=
  ⟨evaluatePosture_postureInv p, (Oriented.congr hp (by simp)).handOn _⟩

/-- A dwell that runs out runs with an attached link, and the posture rule does not bind it (R42, R43). -/
theorem Posed.postureExpired (hp : Posed old c p) (hd : p.pc.dwell ≠ none) : Posed old c (postureExpired p) := by
  refine ⟨fun hl => ?_, (Oriented.congr hp.2 (by simp)).handOn _⟩
  exact absurd (hp.1 (by simpa using hl)).2 hd

/-- A delivery is evaluated by PC and by OT (R32). -/
theorem Oriented.deliver (hp : Oriented old c p) (lid : Option Reading) : Posed old c (deliver lid p) := by
  have evaluated : Posed old c (postureDelivery (deliveryNow lid p).stored p) := Oriented.evaluatePosture hp
  exact ⟨PostureInv.congr evaluated.1 (by simp [Machine.deliver, handDelivery]), evaluated.2.orientationDelivery _⟩

theorem Posed.loseAngle (hp : Posed old c p) (why : Reason) : Posed old c (loseAngle why p) :=
  holds_ite hp (Oriented.deliver (p := { p with ae := p.ae.lose why }) hp.2 none)

theorem Posed.postureSettings (hp : Posed old c p) (o : Settings) : Posed old c (postureSettings o p) :=
  holds_ite hp.2.evaluatePosture hp

/-! ### The entries into link states (R42, R62) -/

/-- Every entry into a link state sets the posture rule (R42, R62). -/
theorem Oriented.enterLink (hp : Oriented old c p) (new : Link) : Posed old c (enterLink new p) := by
  have evaluated : Posed old c (Machine.evaluatePosture
      (linkToldKeys p.bl.link new { p with bl := p.bl.changeLink new })) := Oriented.evaluatePosture (hp.congr (by simp))
  exact evaluated.congr (by simp [Machine.enterLink])

theorem Posed.offerBase (hp : Posed old c p) (e : BaseEvent) : Posed old c (offerBase e p) := hp.congr (by simp)

theorem Oriented.setReservation (hp : Oriented old c p) (r : Nat) : Oriented old c (setReservation r p) :=
  hp.congr (by simp)

theorem Oriented.emptyQueue (hp : Oriented old c p) (gone : Bool) : Oriented old c (emptyQueue gone p) := hp.congr (by simp)

theorem Oriented.clearLinkFault (hp : Oriented old c p) : Oriented old c (clearLinkFault p) := hp.congr (by simp)

theorem Posed.raiseFault (hp : Posed old c p) (f : FaultName) : Posed old c (raiseFault f p) := hp.congr (by simp)

theorem Oriented.enterPowering (hp : Oriented old c p) (e : BaseEvent) : Posed old c (enterPowering e p) := by
  refine .offerBase (Oriented.enterLink (.setReservation ?_ _) _) _
  exact hp.clearLinkFault

theorem Oriented.enterResetting (hp : Oriented old c p) : Posed old c (enterResetting p) := by
  refine Oriented.enterLink ?_ _
  exact hp

theorem Oriented.enterStopped (hp : Oriented old c p) (new : Link) (f : FaultName) (e : BaseEvent) :
    Posed old c (enterStopped new f e p) := by
  refine .offerBase (.raiseFault (Oriented.enterLink (.setReservation ?_ _) _) _) _
  exact hp.emptyQueue true

theorem Oriented.enterDetached (hp : Oriented old c p) : Posed old c (enterDetached p) := by
  refine .offerBase (Oriented.enterLink (.setReservation ?_ _) _) _
  exact hp.clearLinkFault.emptyQueue true

theorem Oriented.enterStall (hp : Oriented old c p) : Posed old c (enterStall p) := by
  refine Oriented.enterLink ?_ _
  exact hp

theorem Oriented.leaveStall (hp : Oriented old c p) : Posed old c (leaveStall p) := by
  refine Oriented.enterLink ?_ _
  exact hp

theorem Posed.stallIfOrdered (hp : Posed old c p) (m : LinkMode) : Posed old c (stallIfOrdered m p) :=
  holds_ite hp.2.enterStall hp

theorem Oriented.enterActive (hp : Oriented old c p) : Posed old c (enterActive p) := by
  refine Posed.stallIfOrdered (.offerBase (Oriented.enterLink ?_ _) _) _
  exact hp

theorem Oriented.enterHibernate (hp : Oriented old c p) : Posed old c (enterHibernate p) := by
  refine .offerBase (Oriented.enterLink ?_ _) _
  exact hp

theorem Oriented.enterWaking (hp : Oriented old c p) : Posed old c (enterWaking p) := by
  refine .offerBase (Oriented.enterLink ?_ _) _
  exact hp

theorem Oriented.enterReprofiling (hp : Oriented old c p) : Posed old c (enterReprofiling p) := by
  refine Oriented.enterLink (holds_ite ?_ ?_) .profiling
  · exact Oriented.congr hp (by simp)
  · exact hp

/-! ### What follows every command that reaches the link (R59, R67, R69, R70) -/

theorem Posed.pump (hp : Posed old c p) (restart : Bool) : Posed old c (pump restart p) := hp.congr (by simp)

theorem Posed.hibernateIfDue (hp : Posed old c p) : Posed old c (hibernateIfDue p) := holds_ite hp.2.enterHibernate hp

theorem Posed.settleWith (hp : Posed old c p) (restart : Bool) : Posed old c (settleWith restart p) := by
  have waked : Posed old c (wakeIfPending p) := holds_ite hp.2.enterWaking hp
  have roused : Posed old c (rouseIfQueued (wakeIfPending p)) := holds_ite waked.2.leaveStall waked
  exact roused.hibernateIfDue.pump restart

theorem Posed.settle (hp : Posed old c p) : Posed old c (settle p) := hp.settleWith false

theorem Posed.modeOrder (hp : Posed old c p) (m : LinkMode) : Posed old c (modeOrder m p) :=
  Posed.settle (Posed.stallIfOrdered (p := orderTarget m p) hp m)

/-! ### Received frames (R57 to R66) -/

theorem Posed.seqCheck (hp : Posed old c p) (seq : BitVec 4) : Posed old c (seqCheck seq p) := by
  refine hp.congr ⟨⟨?_, by simp⟩, by simp⟩
  unfold Machine.seqCheck
  split <;> rfl

theorem Posed.countNoise (hp : Posed old c p) (n : NoiseCount) : Posed old c (countNoise n p) :=
  hp.congr (by simp [countNoise_link])

theorem Posed.countDiscard (hp : Posed old c p) (d : Discard) : Posed old c (countDiscard d p) := by
  refine hp.congr ⟨⟨?_, by simp⟩, by simp⟩
  unfold Machine.countDiscard
  split
  · cases d <;> rfl
  · rfl

theorem Posed.receive (hp : Posed old c p) (n : NoiseCount) {f : Part → Part}
    (hf : ∀ {q}, Posed old c q → Posed old c (f q)) : Posed old c (receive n f p) :=
  holds_ite (hf (hp.countNoise n)) (hp.countNoise n)

theorem Oriented.takeHello (hp : Oriented old c p) (h : Hello) : Posed old c (takeHello h p) := by
  refine holds_ite (.offerBase (Oriented.enterLink (.setReservation ?_ _) _) _) (Oriented.enterStopped ?_ _ _ _)
  · exact hp
  · exact hp

theorem Oriented.restartBase (hp : Oriented old c p) (h : Hello) : Posed old c (restartBase h p) := by
  have emptied := hp.emptyQueue false
  exact Oriented.takeHello (emptied.congr (by simp)) h

theorem Posed.helloFrame (hp : Posed old c p) (h : Hello) : Posed old c (helloFrame h p) := by
  unfold Machine.helloFrame
  split
  · exact hp
  · exact hp.2.takeHello h
  iterate 5 exact hp.2.restartBase h
  iterate 5 exact hp

theorem keysFrame_link (gap : Bool) (es : List KeyEvent) (n : Nat) (p : Part) :
    (keysFrame gap es n p).bl.link = p.bl.link := by
  have taken : (es.foldl (keyTransition (loWord p.tb)) p).bl.link = p.bl.link :=
    foldl_keeps (fun p => p.bl.link) _ (by simp) es p
  simp only [keysFrame]
  split <;> simpa using taken

theorem resync_link (codes : List Byte) (p : Part) : (resync codes p).bl.link = p.bl.link := by
  have pressed (ks : List Nat) (t : Word) (q : Part) : (ks.foldl (resyncPress t) q).bl.link = q.bl.link :=
    foldl_keeps (fun p => p.bl.link) _ (by simp) ks q
  simp only [resync]
  split
  · rfl
  · simp [pressed]

theorem Posed.keysFrame (hp : Posed old c p) (gap : Bool) (es : List KeyEvent) (n : Nat) :
    Posed old c (keysFrame gap es n p) := hp.congr (by simp [keysFrame_link])

theorem Posed.keysReception (hp : Posed old c p) (seq : BitVec 4) (es : List KeyEvent) (n : Nat) :
    Posed old c (keysReception seq es n p) := by
  have received (gap : Bool) {q : Part} (hq : Posed old c q) : Posed old c (keysReceived gap es n q) := by
    unfold keysReceived
    split
    · exact hq.keysFrame ..
    · exact hq.2.leaveStall.keysFrame ..
    · exact hq
  exact holds_ite (Posed.settleWith (received _ (hp.seqCheck seq)) true) (hp.countDiscard _)

theorem Posed.motionFrame (hp : Posed old c p) (x y z : Word) (n : Byte) : Posed old c (motionFrame x y z n p) :=
  holds_ite hp hp

theorem Posed.modeAnswered (hp : Posed old c p) (lost : Bool) : Posed old c (modeAnswered lost p) := by
  unfold Machine.modeAnswered
  split
  · exact hp.2.enterActive
  · exact holds_ite hp.2.enterReprofiling hp.2.enterActive
  · exact hp

theorem Posed.statusReception (hp : Posed old c p) (seq : BitVec 4) (st : BaseStatus) (held : List Byte) :
    Posed old c (statusReception seq st held p) := by
  have answered {q : Part} (hq : Posed old c q) : Posed old c (answerStatus st held q) := by
    unfold answerStatus
    split
    · split
      · exact Posed.modeAnswered (p := endExchange q) hq _
      · exact Posed.congr (p := endExchange q) hq (by simp [resync_link])
      · exact hq
    · exact hq
  have framed {q : Part} (hq : Posed old c q) : Posed old c (statusFrame st held q) := by
    have reserved := hq.congr (q := Machine.setReservation (statusReservation q.bl st.draw)
      { q with bl := { q.bl with status := some st } }) (by simp [setReservation_bl])
    exact holds_ite (answered (holds_ite (reserved.offerBase _) reserved)) hq
  exact holds_ite (framed (hp.seqCheck seq)).settle (hp.countDiscard _)

/-! ### What PW does with the exchanges leaves the link state (R82 to R90) -/

theorem visit_link (es : List (Word × Word)) (p : Part) : (visit es p).bl.link = p.bl.link := by
  induction es generalizing p with
  | nil => simp [visit]
  | cons e es ih =>
    rw [visit]
    split
    · exact ih _
    · rw [ih]
      unfold applyLink
      split <;> rfl
    · simp

theorem continueWalk_link (p : Part) : (continueWalk p).bl.link = p.bl.link := by
  unfold continueWalk
  split
  · exact visit_link ..
  · rfl

theorem replyTold_link (ok : Bool) (value : Byte) (p : Part) : (replyTold ok value p).bl.link = p.bl.link := by
  unfold replyTold
  dsimp only
  split
  · exact continueWalk_link _
  · unfold finishRequest
    split <;> simp
  · rfl

theorem snapshotTaken_link (es : List (Word × Word)) (p : Part) : (snapshotTaken es p).bl.link = p.bl.link := by
  unfold snapshotTaken
  dsimp only
  split
  · exact continueWalk_link _
  · split <;> simp
  · simp

theorem resultsWritten_link (e : WalkEnd) (p : Part) : (resultsWritten e p).bl.link = p.bl.link := by
  have run (p : Part) : (resultsWritten.runIfLive p).bl.link = p.bl.link := by
    unfold resultsWritten.runIfLive
    split <;> simp
  have finish (c : WalkCounts) (p : Part) : (finishReload e c p).bl.link = p.bl.link := by
    unfold finishReload finishRequest
    (repeat' split) <;> simp
  have report (w : Walk) (es : List (Option WalkEnd)) (p : Part) : (reportComplete e w es p).bl.link = p.bl.link := by
    unfold reportComplete
    split <;> rfl
  simp [resultsWritten, run, finish, report]

theorem Posed.replyFrame (hp : Posed old c p) (id : Word) (result value : Byte) :
    Posed old c (replyFrame id result value p) := by
  unfold Machine.replyFrame
  split
  · split
    · exact holds_ite (Posed.congr (Posed.hibernateIfDue (p := endExchange p) hp) (by simp [replyTold_link])) hp
    · exact hp
  · exact hp


/-! ### Exchanges, timers and presence (R60, R64, R67, R70, R73, R74) -/

theorem Posed.frameSent (hp : Posed old c p) : Posed old c (frameSent p) := by
  unfold Machine.frameSent
  split
  · refine Posed.settle ?_
    exact hp
  · refine Posed.settle ?_
    exact hp
  · exact hp

theorem Posed.replyExpired (hp : Posed old c p) : Posed old c (replyExpired p) := by
  refine holds_ite (Posed.settle ?_) (Posed.settle (Oriented.enterStopped (holds_ite ?_ ?_) _ _ _))
  · exact hp
  · exact Oriented.congr hp.2 (by simp [endExchange])
  · exact hp.2

theorem Posed.lineResetEnded (hp : Posed old c p) (live : Bool) : Posed old c (lineResetEnded live p) := by
  refine holds_ite (Posed.settle (Oriented.enterLink ?_ _)) (Posed.settle ?_)
  · exact hp.2
  · exact hp

theorem Posed.activateExpired (hp : Posed old c p) : Posed old c (activateExpired p) := by
  unfold Machine.activateExpired
  dsimp only
  split
  · refine Posed.settle ?_
    split
    · refine Oriented.takeHello (And.right (Oriented.enterLink ?_ _)) _
      exact hp.2
    · refine Oriented.enterLink ?_ _
      exact hp.2
  · refine Posed.settle ?_
    exact hp
  · exact hp

theorem Posed.helloExpired (hp : Posed old c p) : Posed old c (helloExpired p) := by
  refine holds_ite (Posed.settle hp.2.enterResetting) (Posed.settle (Oriented.enterStopped ?_ _ _ _))
  exact hp.2

theorem Posed.wakeBreakEnded (hp : Posed old c p) (live : Bool) : Posed old c (wakeBreakEnded live p) := by
  refine holds_ite (Posed.settle ?_) (Posed.settle ?_)
  · exact hp
  · exact hp

theorem Posed.presenceTold (hp : Posed old c p) (present : Bool) : Posed old c (presenceTold present p) :=
  holds_ite (holds_ite (hp.2.enterPowering _).settle hp) (holds_ite hp hp.2.enterDetached.settle)

theorem Posed.retryBase (hp : Posed old c p) (r : Request) : Posed old c (retryBase r p) := by
  unfold Machine.retryBase
  split
  · exact (hp.2.enterPowering .retried).settle.congr (by simp)
  · exact (hp.2.enterPowering .retried).settle.congr (by simp)
  · exact hp.congr (by simp)
  · exact hp.congr (by simp)

/-! ### The sensor port and the inputs (R8, R10, R14, R15, R20) -/

theorem Posed.raiseSensorFault (hp : Posed old c p) (due : Time) : Posed old c (raiseSensorFault due p) :=
  .settle (.loseAngle (hp.congr (by simp)) _)

theorem Posed.configEnded (hp : Posed old c p) (start : Time) (ok : Bool) : Posed old c (configEnded start ok p) := by
  have left {q : Part} (hq : Posed old c q) : Posed old c (leaveStarting q) := hq.congr (by simp)
  refine left (holds_ite ?_ (.raiseSensorFault ?_ _))
  · exact hp
  · exact hp

theorem Oriented.lidSampleAngle (hp : Oriented old c p) (v : Reading) : Posed old c (lidSampleAngle v p) := by
  refine Oriented.deliver ?_ _
  exact hp

theorem Posed.sampleEnded (hp : Posed old c p) (due : Time) (v : Option Reading) : Posed old c (sampleEnded due v p) := by
  unfold Machine.sampleEnded
  dsimp only
  split
  · next v =>
    have delivered := Oriented.lidSampleAngle
      (p := { p with sp := { p.sp with flight := .none, failureRun := 0, fresh := false } }) hp.2 v
    exact Posed.settle (delivered.congr (by simp))
  · refine holds_ite (.raiseSensorFault ?_ _) ?_
    · exact hp
    · exact hp

theorem Posed.holdExpired (hp : Posed old c p) : Posed old c (holdExpired p) := by
  refine Oriented.deliver ?_ _
  exact hp.2

theorem Posed.debouncedChange (hp : Posed old c p) (k : Input) (active : Bool) : Posed old c (debouncedChange k active p) := by
  cases k with
  | lidh => exact hp.2.evaluatePosture.congr (by simp [Machine.debouncedChange])
  | foldh => exact hp.2.evaluatePosture
  | penh => exact hp.congr (by simp [Machine.debouncedChange])
  | bpres => exact hp.presenceTold active

theorem Posed.debounceExpired (hp : Posed old c p) (k : Input) : Posed old c (debounceExpired k p) :=
  .settle (.debouncedChange (hp.congr (by simp)) k _)

theorem rawChange_posed (k : Input) (active : Bool) (p : Part) :
    ((rawChange k active p).bl.link = p.bl.link ∧ (rawChange k active p).pc.published = p.pc.published ∧
      (rawChange k active p).pc.dwell = p.pc.dwell) ∧
    (rawChange k active p).ot = p.ot ∧ (rawChange k active p).sl.inForce = p.sl.inForce := by
  cases k <;> simp [rawChange]

theorem Posed.inputSettings (hp : Posed old c p) (o : Settings) (k : Input) : Posed old c (inputSettings o k p) := by
  have raw {x : InputState} {q : Part} {active : Bool} (hq : Posed old c q) :
      Posed old c (setInput k x (rawChange k active q)) :=
    Posed.congr (hq.congr (rawChange_posed k active q)) (by simp)
  refine holds_ite hp (holds_ite (raw ?_) (.debouncedChange (raw ?_) _ _))
  · exact hp
  · exact hp

theorem Posed.inputsSettings (hp : Posed old c p) (o : Settings) : Posed old c (inputsSettings o p) :=
  (((hp.inputSettings o .lidh).inputSettings o .foldh).inputSettings o .penh).inputSettings o .bpres

theorem Posed.angleSettings (hp : Posed old c p) (o : Settings) : Posed old c (angleSettings o p) :=
  holds_ite (hp.loseAngle _) hp

/-! ### New settings come into force (R172) -/

/-- The blocks act on the new settings, and at the end OT's hold is theirs (R51, R172). -/
theorem Posed.bringIntoForce (hp : Posed c c p) (new : Settings) : Posed new new (bringIntoForce new p) := by
  have hc : p.sl.inForce = c := hp.2.1.1
  have taken : Posed c new { p with sl := { p.sl with inForce := new } } := by
    obtain ⟨pose, ⟨-, held⟩, hold⟩ := hp
    exact ⟨pose, ⟨rfl, held⟩, .inr (hold.elim id id)⟩
  have moved := ((Posed.inputsSettings taken c).angleSettings c).postureSettings c
  unfold Machine.bringIntoForce
  dsimp only
  rw [hc]
  exact Posed.settle (moved.orientationSettings.congr (by simp))

theorem Posed.applied (hp : Posed c c p) (new : Settings) (code : Word) : Posed new new (applied new code p) := by
  have cleared := (hp.bringIntoForce new).congr (q := clearRejected (Machine.bringIntoForce new p)) (by simp)
  unfold Machine.applied
  dsimp only
  split
  · exact cleared.congr (by simp)
  · exact cleared

/-- The rules of PC and of OT, with the settings in force. -/
def Upright (p : Part) : Prop := ∃ c, Posed c c p

theorem upright_iff : Upright p ↔ PostureInv p ∧ OrientationInv p := by
  simp only [Upright, posed_iff]
  constructor
  · rintro ⟨-, -, hp⟩
    exact hp
  · exact fun hp => ⟨_, rfl, hp⟩

theorem Posed.snapshotJudged (hp : Posed c c p) (ws : List Word) : Upright (snapshotJudged ws p) := by
  unfold Machine.snapshotJudged
  split
  · dsimp only
    split
    · exact ⟨c, hp.congr (by simp)⟩
    · exact ⟨c, hp⟩
  · dsimp only
    split
    · exact ⟨_, hp.applied _ _⟩
    · exact ⟨c, hp.congr (by simp)⟩

/-! ### The host state, the counters and a REFRESH (R139, R168, R185) -/

theorem Posed.dwellExpired (hp : Posed old c p) (hd : p.pc.dwell ≠ none) : Posed old c (dwellExpired p) :=
  .settle (holds_ite ((hp.postureExpired hd).stallIfOrdered _) (hp.postureExpired hd))

theorem Posed.setHost (hp : Posed old c p) (r : Request) : Posed old c (setHost r p) := by
  have changed (h : HostState) : Posed old c (changeHostState h p) := by
    have told : Posed old c (nuHostState h (chargeHostState h
        { p with sa := { p.sa with hostState := h }, sp := sensorHostState h p.tb p.sp })) := hp.congr (by simp)
    exact (told.modeOrder (orderFor h p.sa.posture)).congr (by simp [changeHostState])
  unfold Machine.setHost
  split
  · exact hp.congr (by simp)
  · next h _ =>
    have taken : Posed old c (if h = p.sa.hostState then p else changeHostState h p) := holds_ite hp (changed h)
    exact taken.congr (by simp)

theorem refreshOffers_posed (p : Part) :
    ((refreshOffers p).bl.link = p.bl.link ∧ (refreshOffers p).pc.published = p.pc.published ∧
      (refreshOffers p).pc.dwell = p.pc.dwell) ∧
    (refreshOffers p).ot = p.ot ∧ (refreshOffers p).sl.inForce = p.sl.inForce := by
  simp [refreshOffers, offerFaultNow, offerBaseNow, offerPosture, offerOrientation]

/-! ### The resets (R51, R160, R161) -/

/-- After a reset no link is attached, DETACHED is published, and the hold is that of the starting settings. -/
theorem upright_reset (levels : PerInput Bool) (new : Settings) (w : ResetWork) (low : Bool) :
    Upright (Part.reset levels new w low) := by
  refine upright_iff.mpr ⟨fun _ => ⟨rfl, rfl⟩, rfl, fun _ => ⟨rfl, rfl⟩, fun _ => rfl⟩

/-! ### Every command (R42, R47, R51) -/

theorem posed_portCarried : PortCarried (Posed old c) where
  port _ _ h := h
  queues _ _ h := h
  serve _ _ h := h.congr (by simp)
  release _ _ h := h.congr (by simp)
  badService _ h := h.congr (by simp)

theorem Posed.failIn {s : State} (hs : Posed old c s.part) (ph : Phase) (k : WindowFailure) :
    Posed old c (failIn ph k s).part := by
  unfold Machine.failIn
  split
  · exact hs.congr (by simp)
  · exact hs

/-- A command that reaches neither the link nor OT leaves what the rules speak of. -/
theorem posed_kept {i : Instr} {s : State} (hs : Posed old c s.part) (hl : Block.link ∉ Instr.reaches i)
    (ho : Block.orientation ∉ Instr.reaches i) : Completes i s fun t => Posed old c t.part := by
  by_cases ha : Instr.isHostAccess i = true
  · exact posed_portCarried.hostAccess ha hs
  cases i with
  | acknowledge | take | endService | attention | xmWordWrite | read | write | update | portRead | unknownCommand
  | transactionEnd => exact absurd rfl ha
  | refresh =>
    simp only [Completes, exec, execRefresh]
    split
    · next r rs _ =>
      exact ⟨_, rfl, Posed.congr (Posed.congr (p := { s.part with rq := { s.part.rq with nu := rs } }) hs
        (refreshOffers_posed _)) (by simp)⟩
    · exact ⟨s, rfl, hs⟩
  | syncWaitExpiry | syncMeasureTimeout | reportWaitExpiry | reportGapTimeout => exact ⟨_, rfl, hs.failIn ..⟩
  | syncReceived | report =>
    simp only [Completes, exec, execSyncReceived, execReport]
    split
    · exact ⟨_, rfl, hs.congr (by simp)⟩
    · exact ⟨_, rfl, hs.failIn ..⟩
  | quietEnd | breakEnd | pollSent | syncStart | reportStart =>
    refine ⟨_, rfl, ?_⟩
    unfold stepPhase
    split
    · exact hs
    · exact hs
  | penControlStop | penControlResume | penControlClearLockout | penControlBadArg =>
    refine ⟨_, rfl, ?_⟩
    unfold takePenControl
    split
    · exact hs.congr (by simp)
    · exact hs
  | timeCapture | countersRead | countersBadArg | badKind =>
    refine ⟨_, rfl, ?_⟩
    unfold takeOwn
    split
    · exact hs.congr (by simp)
    · exact hs
  | applySettings | lockSettings =>
    refine ⟨_, rfl, ?_⟩
    unfold takeSettings
    split
    · exact hs.congr (by simp [takeApply, lockTaken])
    · exact hs
  | resetnRelease | tbTick | filteredLevelChange | settlingExpiry | prechargeExpiry | windowDue | cooldownExpiry
  | faultHistoryExpiry | overcurrent | inactivityExpiry | graceExpiry | wakeRepeatExpiry | resetWorkEnd | sampleDue
  | faultAttemptDue | faultAttemptEnd | grantSent | recordPublicationEnd | wakePulseEnd | slotCompletionEnd =>
    simp only [Completes, exec, execResetnRelease, execTbTick, execFilteredLevelChange, execSettlingExpiry,
      execPrechargeExpiry, execWindowDue, execCooldownExpiry, execFaultHistoryExpiry, execOvercurrent,
      execInactivityExpiry, execGraceExpiry, execWakeRepeatExpiry, execResetWorkEnd, execSampleDue, execFaultAttemptDue,
      execFaultAttemptEnd, execGrantSent, execRecordPublicationEnd, execWakePulseEnd, execSlotCompletionEnd]
    (repeat' split) <;> exact ⟨_, rfl, hs.congr (by simp [finishWork, finishPublication])⟩
  | _ => simp [Instr.reaches, allBlocks, linkReach, attachReach] at hl ho

/-- Every command keeps the rules of PC and of OT. -/
theorem upright_step (i : Instr) {s : State} (hu : Upright s.part) : Completes i s fun t => Upright t.part := by
  obtain ⟨c, hs⟩ := hu
  have kept {j : Instr} (h : Completes j s fun t => Posed c c t.part) : Completes j s fun t => Upright t.part :=
    let ⟨t, ht, hp⟩ := h
    ⟨t, ht, c, hp⟩
  by_cases hn : Block.link ∉ Instr.reaches i ∧ Block.orientation ∉ Instr.reaches i
  · exact kept (posed_kept hs hn.1 hn.2)
  cases i with
  | fullReset => exact ⟨_, rfl, upright_reset ..⟩
  | softReset =>
    refine completes_gate (fun _ => ?_) ⟨c, hs⟩
    obtain ⟨d, hd⟩ := upright_reset (pinLevels s.part) (softApply (s.xm.readAll settingsBase 224)).1
      (softApply (s.xm.readAll settingsBase 224)).2 false
    exact ⟨d, hd.congr (by simp [softReset])⟩
  | settingsSnapshotEnd =>
    simp only [Completes, exec, execSettingsSnapshotEnd]
    split
    · exact ⟨_, rfl, hs.snapshotJudged _⟩
    · exact ⟨s, rfl, c, hs⟩
  | settingsWriteBackEnd =>
    simp only [Completes, exec, execSettingsWriteBackEnd]
    split
    · exact ⟨_, rfl, _, hs.applied _ _⟩
    · exact ⟨s, rfl, c, hs⟩
  | configurationStepEnd f g =>
    refine kept ?_
    simp only [Completes, exec, execConfigurationStepEnd]
    split
    · exact ⟨_, rfl, hs.configEnded _ _⟩
    · exact ⟨s, rfl, hs⟩
  | sampleArrival a r =>
    refine kept ?_
    simp only [Completes, exec, execSampleArrival]
    split
    · exact ⟨_, rfl, hs.sampleEnded _ _⟩
    · exact ⟨s, rfl, hs⟩
  | debounceExpiry k => exact kept (completes_gate (fun _ => hs.debounceExpired k) hs)
  | holdTimerExpiry => exact kept (completes_gate (fun _ => hs.holdExpired.settle) hs)
  | postureDwellExpiry =>
    refine kept (completes_gate (fun hd => hs.dwellExpired fun hn => ?_) hs)
    simp [hn, timerDue] at hd
  | orientationDwellExpiry =>
    exact kept (completes_gate (fun _ => ⟨PostureInv.congr hs.1 (by simp), hs.2.rotationExpired⟩) hs)
  | lineBreakReceived n => exact kept ⟨_, rfl, hs.countNoise n⟩
  | frameGapTimeout n => exact kept ⟨_, rfl, (hs.countNoise n).countDiscard _⟩
  | frameDiscard cs =>
    refine kept ⟨_, rfl, ?_⟩
    simp only [State.on_part, discardFrame]
    split
    · exact (hs.countNoise _).countDiscard _
    · exact hs.countNoise _
  | hello n seq cls revision accessory => exact kept ⟨_, rfl, hs.receive n fun hq => (hq.helloFrame _).settle⟩
  | keys n seq es held => exact kept ⟨_, rfl, hs.receive n fun hq => hq.keysReception seq es _⟩
  | motion n seq x y z counter => exact kept ⟨_, rfl, hs.receive n fun hq => (hq.seqCheck seq).motionFrame x y z counter⟩
  | status n seq mode flags draw held => exact kept ⟨_, rfl, hs.receive n fun hq => hq.statusReception seq _ held⟩
  | reply n seq id result value =>
    exact kept ⟨_, rfl, hs.receive n fun hq => ((hq.seqCheck seq).replyFrame id result value).settle⟩
  | exchangeSent => exact kept ⟨_, rfl, hs.frameSent⟩
  | replyTimerExpiry => exact kept (completes_gate (fun _ => hs.replyExpired) hs)
  | powerGoodExpiry => exact kept (completes_gate (fun _ => hs.2.enterResetting.settle) hs)
  | activateTimeExpiry => exact kept (completes_gate (fun _ => hs.activateExpired) hs)
  | helloTimerExpiry => exact kept (completes_gate (fun _ => hs.helloExpired) hs)
  | stallIdleExpiry => exact kept (completes_gate (fun _ => hs.2.enterStall.settle) hs)
  | minimumHibernateExpiry =>
    refine kept (completes_gate (fun _ => Posed.settle ?_) hs)
    exact hs
  | lineResetEnd =>
    refine kept ?_
    simp only [Completes, exec, execLineResetEnd]
    split
    · exact completes_gate (fun _ => hs.lineResetEnded _) hs
    · exact ⟨s, rfl, hs⟩
  | wakeBreakEnd =>
    refine kept ?_
    simp only [Completes, exec, execWakeBreakEnd]
    split
    · exact ⟨_, rfl, hs.wakeBreakEnded _⟩
    · exact ⟨s, rfl, hs⟩
  | baseRetry =>
    refine kept ?_
    simp only [Completes, exec, execBaseRetry]
    split
    · next r rs _ => exact ⟨_, rfl, Posed.retryBase (p := { s.part with rq := { s.part.rq with bl := rs } }) hs r⟩
    · exact ⟨s, rfl, hs⟩
  | profileSnapshotEnd =>
    refine kept ?_
    simp only [Completes, exec, execProfileSnapshotEnd]
    split
    · exact ⟨_, rfl, Posed.settle (hs.congr (by simp [snapshotTaken_link]))⟩
    · exact ⟨s, rfl, hs⟩
  | profileResultWriteEnd =>
    refine kept ?_
    simp only [Completes, exec, execProfileResultWriteEnd]
    split
    · exact ⟨_, rfl, Posed.settle (hs.congr (by simp [resultsWritten_link]))⟩
    · exact ⟨s, rfl, hs⟩
  | baseAttribute | profileReload => exact kept (completes_gate (fun _ => Posed.settle (hs.congr (by simp))) hs)
  | setHostState =>
    refine kept ?_
    simp only [Completes, exec, execSetHostState]
    split
    · next r rs _ => exact ⟨_, rfl, Posed.setHost (p := { s.part with rq := { s.part.rq with sa := rs } }) hs r⟩
    · exact ⟨s, rfl, hs⟩
  | countersReadAndClear =>
    refine kept ⟨_, rfl, ?_⟩
    unfold takeOwn
    split
    · exact hs.congr (by simp [clearCounters])
    · exact hs
  | _ => exact absurd (by simp [Instr.reaches, penReach, offerReach]) hn

/-- Settles O56: a command moves the link, the posture, OT or the settings in force only through what sets their rules anew. -/
theorem postureAndOrientationRulesHoldInEveryStep : Obligations.PostureAndOrientationRulesHoldInEveryStep := by
  intro i s hp ho
  obtain ⟨t, ht, hu⟩ := upright_step i (upright_iff.mpr ⟨hp, ho⟩)
  exact ⟨t, ht, upright_iff.mp hu⟩

end Sys2Proof.Machine

/-! The posture classifier's tables and decisions (O17, O48): zones, retained bands, the seam side, the candidate, the
disagreement flag and suppression. -/

namespace Sys2Proof.Machine

/-! ### Zones and retained bands (R36) -/

theorem zoneOf_eq_seam_iff {c : Settings} {a : Nat} : zoneOf c a = .seam ↔ 8 * c.b4 ≤ a ∨ a < 8 * c.b1 := by
  unfold zoneOf
  split
  · simpa
  · next h =>
    simp only [h, iff_false]
    (repeat' split) <;> simp

/-- Outside SEAM the boundaries that an angle has passed give its zone. -/
theorem zoneOf_of_not_seam {c : Settings} {a : Nat} (hlow : 8 * c.b1 ≤ a) (hhigh : a < 8 * c.b4) :
    zoneOf c a = if a < 8 * c.b2 then .opened else if a < 8 * c.b3 then .flat else .folded :=
  if_neg (by omega)

/-- Settles O17: outside SEAM by the boundaries passed, the bands as they are defined. -/
theorem zonesAndRetainedBands : Obligations.ZonesAndRetainedBands := by
  refine ⟨fun c a h12 h23 h34 h4 => ?_, fun c a _ => by simp [retained],
    fun a => ⟨decide_eq_true_iff, decide_eq_true_iff, decide_eq_true_iff, decide_eq_true_iff⟩⟩
  have last : zoneOf c 2880 = .seam := zoneOf_eq_seam_iff.mpr (.inl (by omega))
  by_cases hs : 8 * c.b4 ≤ a ∨ a < 8 * c.b1
  · rw [zoneOf_eq_seam_iff.mpr hs]
    refine ⟨by simpa, ?_, ?_, ?_, last⟩ <;> simp only [reduceCtorEq, false_iff] <;> omega
  · rw [zoneOf_of_not_seam (by omega) (by omega)]
    refine ⟨?_, ?_, ?_, ?_, last⟩ <;> (repeat' split) <;> simp only [reduceCtorEq, false_iff, true_iff] <;> omega

/-! ### The candidate, the disagreement flag and suppression (R40, R41, R44) -/

theorem attached_iff (l : Link) : l.attached = true ↔ l ∈ [.active, .stall, .hibernate] := by cases l <;> decide

theorem hallCase_iff {l : Link} {d : StoredDelivery} :
    hallCase l d = true ↔ d.validity = .unknown ∨ l = .hibernate := by simp [hallCase]

variable {l : Link} {c : Pc}

theorem candidateOf_unattached (h : l.attached = false) (lid fold : Bool) : candidateOf l lid fold c = .detached := by
  simp [candidateOf, h]

/-- Where the Halls decide, the angle's zone has no say (R40 case 2). -/
theorem candidateOf_hallCase (ha : l.attached = true) (h : hallCase l c.stored = true) (lid fold : Bool) :
    candidateOf l lid fold c = hallPosture lid fold (keptPosture c.published) := by
  simp [candidateOf, ha, h]

/-- With an angle in force the zone decides (R40 cases 3 to 6). -/
theorem candidateOf_zone (ha : l.attached = true) (h : hallCase l c.stored = false) (lid fold : Bool) :
    candidateOf l lid fold c =
      match c.zone with
      | .seam => hallPosture lid fold (match c.seam with | .near => .laptop | .far => .tablet)
      | .opened => .laptop
      | .flat => .flat
      | .folded => foldedPosture c.stored.base
      | .none => hallPosture lid fold (keptPosture c.published) := by
  simp only [candidateOf, ha, h]
  rfl

theorem disagrees_iff {lid : Bool} : disagrees l lid c = true ↔
    (l = .active ∨ l = .stall) ∧ c.stored.validity ≠ .unknown ∧ c.zone = .opened ∧ lid = true := by
  cases l <;> simp [disagrees, hallCase, Link.attached, and_assoc]

theorem suppressionAfter_iff {m : BitVec 8} {on : Bool} {x y : Posture} : suppressionAfter m on x y = true ↔
    inPostureSet m x = true ∨ inPostureSet m y = true ∨ (on = true ∧ (x = .unknown ∨ y = .unknown)) := by
  simp only [suppressionAfter, Bool.or_eq_true]
  split
  · next h => simp [← or_assoc, h]
  · next h =>
    simp only [not_or] at h
    split <;> simp_all

theorem foldedPosture_some (y z : Int) : foldedPosture (some (y, z)) = if z.natAbs < y.natAbs then .tent else .stand := rfl

/-- Settles O48: the candidate by the case of R40 that applies, and each of the other decisions by its own conditions. -/
theorem postureDecisions : Obligations.PostureDecisions := by
  refine ⟨fun l lid fold c => ⟨fun hl => ?_, fun hl hh => ?_, fun hl hv => ?_⟩, fun lid fold left entered side => ?_,
    fun st l lid fold c => ⟨disagrees_iff, ?_⟩, fun m on c p => suppressionAfter_iff, by decide⟩
  · exact candidateOf_unattached (by simpa using mt (attached_iff l).mp hl) lid fold
  · exact candidateOf_hallCase ((attached_iff l).mpr hl) (hallCase_iff.mpr hh) lid fold
  · have attached : l.attached = true := (attached_iff l).mpr (by rcases hl with rfl | rfl <;> decide)
    have known : hallCase l c.stored = false := by
      rw [Bool.eq_false_iff, Ne, hallCase_iff, not_or]
      exact ⟨hv, by rcases hl with rfl | rfl <;> decide⟩
    rw [candidateOf_zone attached known]
    refine ⟨fun hz => ?_, fun hz => by rw [hz], fun hz => by rw [hz], fun y z hz hb => ?_⟩
    · rw [hz]
      cases c.seam <;> rfl
    · rw [hz, hb, foldedPosture_some]
      exact ⟨fun h => if_pos h, fun h => if_neg (Nat.not_lt.mpr h)⟩
  · refine ⟨rfl, ?_, ?_, ?_⟩
    · rintro rfl rfl
      rfl
    · rintro rfl rfl
      rfl
    · rintro (h | h)
      · simp [nextSeam, h]
      · simp only [List.mem_cons, List.not_mem_nil, or_false] at h
        rcases h with rfl | rfl | rfl <;> simp [nextSeam]
  · simp [Pc.classify, bump_eq]

end Sys2Proof.Machine

/-! A delivered lid sample in ACTIVE (O18, O20): PC evaluates the delivery, OT the remapped axes, and the link makes no move. -/

namespace Sys2Proof.Machine

variable {p : Part}

/-! ### A lid sample as PC and OT take it (R20, R32, R35, R48) -/

/-- AE makes its delivery with the remapped sample (R32). -/
theorem lidSampleAngle_eq (v : Reading) (p : Part) : lidSampleAngle v p =
    deliver (some (p.sl.inForce.lidMap.apply v)) { p with ae := (lidSampleAngle v p).ae } := by
  simp only [lidSampleAngle, deliver_frame]

/-- The part as PC takes the delivery of a lid sample, before it evaluates (R32, R35). -/
def sampleTaken (v : Reading) (p : Part) : Part :=
  { p with ae := (lidSampleAngle v p).ae, pc := { p.pc with stored := (lidSampleAngle v p).ae.delivery } }

theorem lidSampleTold_bl {x y z : Int} {fresh : Bool} (h : p.bl.link ≠ .hibernate) :
    (lidSampleTold x y z fresh p).bl = p.bl := by
  simp only [lidSampleTold]
  split
  · split
    · split
      · rw [wakeCause_bl _ (by simpa)]
        simp
      · simp
    · rfl
  · rfl

/-- Step 6 without a publication leaves OT. -/
theorem handOn_ot_of_published (p : Part) : (handOn p.pc.published p).ot = p.ot := by
  simp only [handOn, if_true]
  split <;> simp [offerPosture]

theorem evaluatePosture_attached_ot (hl : p.bl.link.attached = true) : (evaluatePosture p).ot = p.ot := by
  rw [evaluatePosture_eq, ← decided_published hl, handOn_ot_of_published]
  simp [decided]

/-- In ACTIVE PC evaluates the delivery, and OT the remapped axes at this TB value (R32, R35, R48). -/
theorem lidSampleAngle_active (v : Reading) (hl : p.bl.link = .active) :
    (lidSampleAngle v p).pc = (evaluatePosture (sampleTaken v p)).pc ∧
    (lidSampleAngle v p).kt = (decided (sampleTaken v p)).kt ∧
    (lidSampleAngle v p).bl = (decided (sampleTaken v p)).bl ∧
    (lidSampleAngle v p).ot = evaluateRotation p.sl.inForce p.tb (p.sl.inForce.lidMap.apply v).1
      (p.sl.inForce.lidMap.apply v).2.1 p.ot := by
  have attached : (sampleTaken v p).bl.link.attached = true := by simp [sampleTaken, hl, Link.attached]
  obtain ⟨-, hbl, hkt⟩ := evaluatePosture_attached attached
  have ot : (evaluatePosture (sampleTaken v p)).ot = p.ot := evaluatePosture_attached_ot attached
  have sl : (sampleTaken v p).sl = p.sl := rfl
  have taken : lidSampleAngle v p = orientationDelivery
      ⟨(lidSampleAngle v p).ae.delivery, some (p.sl.inForce.lidMap.apply v), p.tb⟩ (evaluatePosture (sampleTaken v p)) := by
    conv_lhs => rw [lidSampleAngle_eq]
    rfl
  rw [taken]
  exact ⟨by simp, by simp [hkt], by simp [hbl], by simp [orientationDelivery, ot, sl]⟩

/-- In ACTIVE SA's answer to a lid sample, and the link's moves, leave PC, KT, OT and the quiet flag (R67 to R70, R141). -/
theorem settle_lidSampleTold {x y z : Int} {fresh : Bool} (hl : p.bl.link = .active) (ht : p.bl.target ≠ .hibernate) :
    (settle (lidSampleTold x y z fresh p)).pc = p.pc ∧ (settle (lidSampleTold x y z fresh p)).kt = p.kt ∧
    (settle (lidSampleTold x y z fresh p)).ot = p.ot ∧
    (settle (lidSampleTold x y z fresh p)).bl.quiet = p.bl.quiet := by
  have told : (lidSampleTold x y z fresh p).bl = p.bl := lidSampleTold_bl (by simp [hl])
  rw [settle_of_active (by rwa [told]) (by rwa [told])]
  simp [pump_quiet, told]

/-- The part as a good sample reaches AE and SA: what SP holds of its run is set anew (R8). -/
def sampleHeard (p : Part) : Part := { p with sp := { p.sp with flight := .none, failureRun := 0, fresh := false } }

theorem sampleEnded_some (due : Time) (v : Reading) (p : Part) :
    sampleEnded due (some v) p = settle (lidSampleTold v.1 v.2.1 v.2.2 p.sp.fresh (lidSampleAngle v (sampleHeard p))) := rfl

/-- After a delivered sample in ACTIVE PC, KT and BL stand as the evaluation left them, and OT as its own (R35, R44, R48). -/
theorem sampleEnded_active {v : Reading} (due : Time) (hl : p.bl.link = .active) (ht : p.bl.target ≠ .hibernate) :
    (sampleEnded due (some v) p).pc = (evaluatePosture (sampleTaken v (sampleHeard p))).pc ∧
    (sampleEnded due (some v) p).kt = (decided (sampleTaken v (sampleHeard p))).kt ∧
    (sampleEnded due (some v) p).bl.quiet = (decided (sampleTaken v (sampleHeard p))).bl.quiet ∧
    (sampleEnded due (some v) p).ot = evaluateRotation p.sl.inForce p.tb (p.sl.inForce.lidMap.apply v).1
      (p.sl.inForce.lidMap.apply v).2.1 p.ot := by
  obtain ⟨hpc, hkt, hbl, hot⟩ := lidSampleAngle_active (p := sampleHeard p) v hl
  have link : (lidSampleAngle v (sampleHeard p)).bl.link = .active := by
    rw [hbl]
    simp [decided, sampleTaken, sampleHeard, hl]
  have target : (lidSampleAngle v (sampleHeard p)).bl.target = p.bl.target := by
    rw [hbl]
    exact decideSuppression_target _
  obtain ⟨hpc', hkt', hot', hquiet'⟩ := settle_lidSampleTold (x := v.1) (y := v.2.1) (z := v.2.2) (fresh := p.sp.fresh)
    link (by rwa [target])
  rw [sampleEnded_some, hpc', hkt', hot', hquiet', hpc, hkt, hot, hbl]
  exact ⟨rfl, rfl, rfl, rfl⟩

theorem sampleEnded_some_ae (due : Time) (v : Reading) (p : Part) :
    (sampleEnded due (some v) p).ae = (sampleTaken v (sampleHeard p)).ae := by
  simp [sampleEnded_some, sampleTaken]

/-! ### The zone kept or entered (R37) -/

/-- An angle lies in the retained band of its own zone (R36). -/
theorem retained_zoneOf (c : Settings) (a : Nat) : retained c (zoneOf c a) a = true := by
  unfold zoneOf
  split
  · simp only [retained, decide_eq_true_eq]
    omega
  · split
    · simp only [retained, decide_eq_true_eq]
      omega
    · split <;> simp only [retained, decide_eq_true_eq] <;> omega

theorem nextZone_known {c : Settings} {d : StoredDelivery} {a : Nat} (hv : d.validity ≠ .unknown) (ha : d.angle = some a)
    (z : Zone) : nextZone c d z = if retained c z a then z else zoneOf c a := by
  unfold nextZone
  rw [ha]
  split
  · exact absurd ‹_› hv
  · simp_all
  · simp_all

/-- Settles O18: in ACTIVE the sample is one evaluation, and a zone left is not the one that the angle lies in. -/
theorem postureEvaluationAtASample : Obligations.PostureEvaluationAtASample := by
  refine ⟨fun due v a r s hf hv hl ht _ => ?_, fun c d z a _ _ _ _ _ _ ha hv _ => ⟨fun hr => ?_, fun hr => ?_⟩⟩
  · refine ⟨_, exec_sampleArrival hf a r, ?_⟩
    have hl' : (sampleTaken v (sampleHeard s.part)).bl.link = .active := hl
    obtain ⟨hpc, hkt, hquiet, -⟩ := sampleEnded_active (v := v) due hl ht
    obtain ⟨⟨o, hoffered⟩, -⟩ := evaluatePosture_attached (p := sampleTaken v (sampleHeard s.part)) (by rw [hl']; rfl)
    obtain ⟨hstored, hzone, hseam, hcand, hpub, hdwell, hsupp⟩ := decided_fields hl'
    simp only [hv, State.on_part, hpc, hkt, hquiet, hoffered, sampleEnded_some_ae]
    exact ⟨hstored, hstored ▸ hzone, hseam, hcand, hpub, hdwell, hsupp, decided_told⟩
  · rw [nextZone_known hv ha, if_pos hr]
  · rw [nextZone_known hv ha, hr]
    refine ⟨rfl, fun he => ?_⟩
    have : retained c z a = true := he ▸ retained_zoneOf c a
    simp [hr] at this

end Sys2Proof.Machine
/-! OT's decisions (O20): the best rotation, the evaluation, and the expiry of its dwell. -/

namespace Sys2Proof.Machine

variable {p : Part}

/-! ### The best rotation (R49) -/

/-- A step of the fold of R49: a strictly larger key takes the place. -/
def larger (f : Rotation → Int) (best r : Rotation) : Rotation := if f best < f r then r else best

/-- Of a list by ascending code the fold takes the first with the largest key, and `init` where that shares it (R49). -/
theorem foldl_larger (f : Rotation → Int) {l : List Rotation} (hl : l.Pairwise fun r s => r.code < s.code) (init : Rotation) :
    f init ≤ f (l.foldl (larger f) init) ∧ (∀ r ∈ l, f r ≤ f (l.foldl (larger f) init)) ∧
    (l.foldl (larger f) init ≠ init → f init < f (l.foldl (larger f) init) ∧
      ∀ r ∈ l, f r = f (l.foldl (larger f) init) → (l.foldl (larger f) init).code ≤ r.code) := by
  induction l generalizing init with
  | nil => simp
  | cons x xs ih =>
    obtain ⟨first, rest⟩ := List.pairwise_cons.mp hl
    obtain ⟨hinit, hmem, hbest⟩ := ih rest (larger f init x)
    rw [List.foldl_cons]
    generalize xs.foldl (larger f) (larger f init x) = best at *
    have hx : f x ≤ f (larger f init x) ∧ f init ≤ f (larger f init x) := by
      unfold larger
      split <;> omega
    refine ⟨by omega, by simpa using ⟨by omega, hmem⟩, fun hne => ?_⟩
    by_cases hlt : f init < f x
    · have taken : larger f init x = x := if_pos hlt
      rw [taken] at hinit hbest
      refine ⟨by omega, fun r hr he => ?_⟩
      by_cases hb : best = x
      · subst hb
        rcases List.mem_cons.mp hr with rfl | hr
        · exact le_rfl
        · exact (first r hr).le
      · obtain ⟨strict, least⟩ := hbest hb
        rcases List.mem_cons.mp hr with rfl | hr
        · omega
        · exact least r hr he
    · have taken : larger f init x = init := if_neg hlt
      rw [taken] at hinit hbest
      obtain ⟨strict, least⟩ := hbest hne
      refine ⟨strict, fun r hr he => ?_⟩
      rcases List.mem_cons.mp hr with rfl | hr
      · omega
      · exact least r hr he

theorem bestRotation_eq (published : Rotation) (lx ly : Int) : bestRotation published lx ly =
    [Rotation.rot0, .rot90, .rot180, .rot270].foldl (larger (Rotation.component lx ly)) published := rfl

/-! ### The dwell's expiry (R50, R52) -/

/-- An activity keeps a class under way, once the reset's work has ended (R142, R175). -/
theorem classWaits_carried (d : NoticeClass) : AdvisorCarried fun p => p.resetWork = none ∧ ClassWaits d p where
  content c p h := by
    refine ⟨by simpa using h.1, ?_⟩
    rw [offer_taken _ _ h.1]
    exact takeOffer_keeps_waits _ h.2
  line _ _ _ _ h := h
  keys _ _ _ h := h
  advisor _ _ _ _ _ _ h := h
  rotation _ _ _ h := h

/-- A class offered is under way, once the reset's work has ended (R175). -/
theorem offer_waits (c : Content) (hw : p.resetWork = none) : ClassWaits c.cls (offer (.content c) p) := by
  rw [offer_taken _ _ hw]
  exact absorb_waits c p

theorem rotationExpired_of_candidate {r : Rotation} (h : p.ot.candidate = some r) : rotationExpired p =
    activity (offerOrientation
      { p with ot := { p.ot with rotation := r, candidate := none, dwell := none, time := p.tb } }) := by
  simp only [rotationExpired, h]

/-- The rotation published is offered (R50, R52). -/
theorem rotationExpired_waits {r : Rotation} (h : p.ot.candidate = some r) (hw : p.resetWork = none) :
    ClassWaits .orientation (rotationExpired p) := by
  rw [rotationExpired_of_candidate h]
  refine ((classWaits_carried .orientation).activity ⟨?_, offer_waits (.orientation _) ?_⟩).2
  · simpa [offerOrientation] using hw
  · exact hw

/-- Settles O20: the best by the fold over the rotations, the rest by the case of R48 to R50 that applies. -/
theorem orientationDecision : Obligations.OrientationDecision := by
  refine ⟨fun pub r lx ly => ?_, fun c now lx ly o => ⟨fun hh => if_pos hh, fun hh ht => ?_, fun hh ht => ?_⟩,
    fun q s hd hc => ?_, fun due v a r s hf hv hl ht _ => ⟨_, exec_sampleArrival hf a r, ?_⟩⟩
  · rw [bestRotation_eq]
    obtain ⟨-, largest, least⟩ := foldl_larger (Rotation.component lx ly) (l := [.rot0, .rot90, .rot180, .rot270])
      (by decide) pub
    have listed : r ∈ [Rotation.rot0, .rot90, .rot180, .rot270] := by cases r <;> decide
    exact ⟨largest r listed, fun hne => ⟨(least hne).1, (least hne).2 r listed⟩⟩
  · simp [evaluateRotation, hh, ht]
  · simp only [evaluateRotation, hh, Int.not_lt.mpr ht, ne_eq, not_true_eq_false, if_false, startTimer]
    split
    · split
      · simp_all
      · rfl
    · rfl
  · refine ⟨s.on rotationExpired, by simp [exec, execOrientationDwellExpiry, hd], ?_, fun hw => ?_⟩
    · simp [rotationExpired_of_candidate hc, offerOrientation]
    · exact rotationExpired_waits hc hw
  · obtain ⟨-, -, -, hot⟩ := sampleEnded_active (v := v) due hl ht
    rw [State.on_part, hv, hot]

end Sys2Proof.Machine


/-! The posture dwell's expiry (O19): the candidate is published and told to OT and SA, the advisor acts on it, and the
link on the order of a host that sleeps. -/

namespace Sys2Proof.Machine

variable {p q : Part}

/-! ### The posture told (R42, R45) -/

/-- SA holds the posture `x` and OT the posture `y`. -/
def Postures (x y : Posture) (p : Part) : Prop := p.sa.posture = x ∧ p.ot.posture = y

theorem postures_carried (x y : Posture) : AdvisorCarried (Postures x y) where
  content _ _ h := by simpa [Postures] using h
  line _ _ _ _ h := h
  keys _ _ _ h := h
  advisor _ _ _ hp _ _ h := ⟨hp.trans h.1, h.2⟩
  rotation _ _ hp h := ⟨h.1, hp.trans h.2⟩

/-- SA and OT hold the posture published. -/
def PostureTold (p : Part) : Prop := Postures p.pc.published p.pc.published p

theorem tellPosture_told (p : Part) : PostureTold (tellPosture p) := by
  let x := p.pc.published
  have carried := postures_carried x x
  have orientation : (orientationTold x p).ot.posture = x :=
    ((postures_carried p.sa.posture x).rehold (p := { p with ot := { p.ot with posture := x } }) ⟨rfl, rfl⟩).2
  have posture : Postures x x (postureTold x (orientationTold x p)) := by
    unfold postureTold
    dsimp only
    split
    · exact carried.postureRunning x ‹_› ⟨rfl, orientation⟩
    · have taken : Postures x x { orientationTold x p with sa := { (orientationTold x p).sa with posture := x } } :=
        ⟨rfl, orientation⟩
      exact holds_ite (carried.wakeCause _ taken) taken
  have told : Postures x x (tellPosture p) := holds_ite (carried.orderTarget (orderFor .sleeping x) posture) posture
  simpa [PostureTold] using told

/-- Step 6 of an evaluation tells a posture newly published, and leaves what was told of one that stood (R45). -/
theorem handOn_told {before : Posture} (h : p.pc.published = before → PostureTold p) : PostureTold (handOn before p) := by
  have handed : PostureTold (if p.pc.published = before then p else tellPosture p) := by
    split
    · exact h ‹_›
    · exact tellPosture_told p
  refine holds_ite handed ?_
  simpa [PostureTold, Postures, offerPosture] using handed

theorem postureTold_carried : Carried PostureTold where
  content _ _ h := by simpa [PostureTold, Postures] using h
  line _ _ _ _ h := h
  keys _ _ _ h := h
  advisor _ _ _ hp _ _ h := ⟨hp.trans h.1, h.2⟩
  rotation _ _ hp h := ⟨h.1, hp.trans h.2⟩
  walker _ _ h := h
  queues _ _ h := h
  port _ _ h := h
  evaluate p h := by
    refine handOn_told (p := decided p) fun he => ?_
    rw [PostureTold, he]
    simpa [PostureTold, Postures, decided] using h
  expired p h := by
    refine handOn_told (p := decideSuppression { p with pc := { p.pc with published := p.pc.candidate, dwell := none } })
      fun he => ?_
    rw [PostureTold, he]
    simpa [PostureTold, Postures] using h

/-! ### The expiry (R43) -/

/-- PC as its dwell has run out: the candidate is published and suppression decided, before they are handed on (R43, R44). -/
def dwellDecided (p : Part) : Part :=
  decideSuppression { p with pc := { p.pc with published := p.pc.candidate, dwell := none } }

theorem postureExpired_eq (p : Part) : postureExpired p = handOn p.pc.published (dwellDecided p) := rfl

theorem dwellDecided_published (p : Part) : (dwellDecided p).pc.published = p.pc.candidate :=
  (decideSuppression_pc _).1

theorem postureExpired_published (p : Part) : (postureExpired p).pc.published = p.pc.candidate := by
  rw [postureExpired_eq, handOn_published, dwellDecided_published]

theorem postureExpired_told (h : p.pc.candidate ≠ p.pc.published) : PostureTold (postureExpired p) :=
  handOn_told fun he => absurd ((dwellDecided_published p).symm.trans he) h

/-! ### What the link's moves publish (R42, R67 to R70) -/

/-- The posture `x` is published, or DETACHED at an entry into WAKING. -/
def Shown (x : Posture) (p : Part) : Prop := p.pc.published = x ∨ (p.bl.link = .waking ∧ p.pc.published = .detached)

theorem enterLink_published_attached {new : Link} (h : new.attached = true) (p : Part) :
    (enterLink new p).pc.published = p.pc.published := by
  have evaluated {q : Part} (hq : q.bl.link.attached = true) : (evaluatePosture q).pc.published = q.pc.published := by
    rw [evaluatePosture_eq, handOn_published, decided_published hq]
  simp [enterLink, evaluated, Bl.changeLink, h]

theorem enterWaking_published (p : Part) : (enterWaking p).pc.published = .detached := by
  have evaluated {q : Part} (hq : q.bl.link.attached = false) : (evaluatePosture q).pc.published = .detached := by
    rw [evaluatePosture_eq, handOn_published, decided_unattached hq]
  simp [enterWaking, enterLink, evaluated, Bl.changeLink, Link.attached]

/-- The line as the link enters HIBERNATE (R69). -/
def hibernating (p : Part) : Part := { p with bl := { p.bl with
  qMode := some .hibernate, stallTimer := none, pendingWake := false
  minHibTimer := startTimer p.tb p.sl.inForce.minHibernate } }

theorem enterHibernate_eq (p : Part) : enterHibernate p = offerBase .hibernated (enterLink .hibernate (hibernating p)) := rfl

namespace Shown

variable {x : Posture}

theorem published (h : Shown x p) (hl : p.bl.link ≠ .waking) : p.pc.published = x := by
  rcases h with h | ⟨hw, -⟩
  · exact h
  · exact absurd hw hl

/-- An entry into an attached state from one that is not WAKING leaves what is published. -/
theorem enterLink {new : Link} (h : Shown x p) (hl : p.bl.link ≠ .waking) (hn : new.attached = true)
    (hq : q.pc.published = p.pc.published) : Shown x (enterLink new q) :=
  .inl ((enterLink_published_attached hn q).trans (hq.trans (h.published hl)))

theorem stallIfOrdered (h : Shown x p) (m : LinkMode) : Shown x (stallIfOrdered m p) := by
  unfold Machine.stallIfOrdered
  split
  · next hs => exact h.enterLink (by simp [hs.2.1]) rfl rfl
  · exact h

theorem settle (h : Shown x p) : Shown x (settle p) := by
  have waked : Shown x (wakeIfPending p) :=
    holds_ite (.inr ⟨by simp [enterWaking], enterWaking_published p⟩) h
  have roused : Shown x (rouseIfQueued (wakeIfPending p)) := by
    unfold rouseIfQueued
    split
    · next hs => exact waked.enterLink (by simp [hs.1]) rfl rfl
    · exact waked
  have hibernated : Shown x (hibernateIfDue (rouseIfQueued (wakeIfPending p))) := by
    unfold hibernateIfDue
    split
    · next hd =>
      have live : (rouseIfQueued (wakeIfPending p)).bl.link ≠ .waking := by
        intro hw
        simp [hw, Link.live] at hd
      have entered := (roused.enterLink live (new := .hibernate) (q := hibernating (rouseIfQueued (wakeIfPending p))) rfl rfl)
      simpa [Shown, enterHibernate_eq] using entered
    · exact roused
  simpa [Shown, Machine.settle, settleWith] using hibernated

end Shown

/-- At the expiry the candidate is published, and SA and OT hold what is (R42, R43, R45). -/
theorem dwellExpired_shown (p : Part) : Shown p.pc.candidate (dwellExpired p) := by
  have expired : Shown p.pc.candidate (postureExpired p) := .inl (postureExpired_published p)
  exact (holds_ite (expired.stallIfOrdered _) expired).settle

theorem dwellExpired_told (h : p.pc.candidate ≠ p.pc.published) : PostureTold (dwellExpired p) := by
  have told := postureExpired_told h
  exact postureTold_carried.settle (holds_ite (postureTold_carried.stallIfOrdered _ told) told)

theorem exec_postureDwellExpiry {s : State} (h : timerDue s.part.pc.dwell s.part.tb = true) :
    exec .postureDwellExpiry s = .next (s.on dwellExpired) := by
  simp [exec, execPostureDwellExpiry, h]

/-! ### The host running, and a link in ACTIVE (R43, R44, R45) -/

/-- Step 6 leaves of PC all but what POSTURE was offered with. -/
theorem handOn_pc (before : Posture) (p : Part) : ∃ o, (handOn before p).pc = { p.pc with offered := o } := by
  have told : (if p.pc.published = before then p else tellPosture p).pc = p.pc := by split <;> simp
  have handed (q : Part) (hq : q.pc = p.pc) : ∃ o, (if postureKey q.pc = q.pc.offered then q else offerPosture q).pc =
      { p.pc with offered := o } := by
    split
    · exact ⟨p.pc.offered, hq⟩
    · exact ⟨postureKey p.pc, by simp [offerPosture, hq]⟩
  exact handed _ told

theorem postureExpired_pc (p : Part) : ∃ o, (postureExpired p).pc = { p.pc with
    published := p.pc.candidate, dwell := none, offered := o
    suppression := suppressionAfter p.sl.inForce.suppressionMask p.pc.suppression p.pc.candidate p.pc.candidate } := by
  obtain ⟨o, ho⟩ := handOn_pc p.pc.published (dwellDecided p)
  exact ⟨o, by rw [postureExpired_eq, ho, dwellDecided, decideSuppression_eq]⟩

theorem postureExpired_hostState (p : Part) : (postureExpired p).sa.hostState = p.sa.hostState :=
  ((undisturbed_carried p).carried.expired p (.refl p)).2.2.1.1

/-! ### What a running advisor makes of a posture (R142, R144, R145) -/

/-- The inactivity timer as an activity at this moment leaves it (R142). -/
def restarted (p : Part) : Option Timer :=
  if p.sl.inForce.inactivityTime = 0 ∨ p.sl.inForce.keepAwake = true then none
  else some ⟨p.tb, p.sl.inForce.inactivityTime * 1000⟩

theorem restartInactivity_eq (p : Part) : restartInactivity p = { p with sa := { p.sa with inactivity := restarted p } } :=
  rfl

theorem activity_notRunning (hr : p.sa.hostState ≠ .running) : activity p = p := if_neg hr

theorem activity_awake (hr : p.sa.hostState = .running) (hi : p.sa.advisor ≠ .idle) :
    activity p = { p with sa := { p.sa with inactivity := restarted p } } := by
  simp [activity, hr, restartInactivity_eq, hi]

theorem activity_idle (hr : p.sa.hostState = .running) (hi : p.sa.advisor = .idle) :
    activity p = advise .undim 0#6
      { p with sa := { p.sa with inactivity := restarted p, advisor := .active, dimmed := false } } := by
  simp [activity, hr, restartInactivity_eq, hi, undim]

theorem advise_sa (k : AdviceKind) (causes : BitVec 6) (p : Part) : (advise k causes p).sa = p.sa := by simp

theorem activity_inactivity (hr : p.sa.hostState = .running) : (activity p).sa.inactivity = restarted p := by
  by_cases hi : p.sa.advisor = .idle
  · rw [activity_idle hr hi, advise_sa]
  · rw [activity_awake hr hi]

theorem leaveClose_inactivity (p : Part) : (leaveClose p).sa.inactivity = p.sa.inactivity := by
  unfold leaveClose
  split
  · split <;> simp
  · simp
  · rfl

theorem leaveClose_active (ha : p.sa.advisor = .active) : leaveClose p = p := by
  simp only [leaveClose, ha]

section
variable {x : Posture}

/-- A posture restarts the inactivity timer (R142). -/
theorem postureRunning_inactivity (hr : p.sa.hostState = .running) : (postureRunning x p).sa.inactivity = restarted p := by
  unfold postureRunning
  split
  · rfl
  · dsimp only
    split
    · exact activity_inactivity hr
    · rw [leaveClose_inactivity, activity_inactivity hr]

/-- CLOSED with close-sleep leads to CLOSE_PENDING (R144). -/
theorem postureRunning_closing (hx : x = .closed) (hc : closeSleeps p.sl.inForce = true)
    (ha : p.sa.advisor = .active ∨ p.sa.advisor = .idle) : postureRunning x p =
      { p with sa := { p.sa with
        inactivity := restarted p, advisor := .closePending, grace := some ⟨p.tb, p.sl.inForce.closeGrace⟩ } } := by
  simp [postureRunning, hx, hc, ha, restartInactivity_eq, enterClosePending, startTimer]

theorem postureRunning_open (h : x ≠ .closed ∨ closeSleeps p.sl.inForce = false) :
    postureRunning x p = if x = .closed then activity p else leaveClose (activity p) := by
  refine if_neg ?_
  rintro ⟨hx, hc, -⟩
  rcases h with h | h
  · exact h hx
  · simp [h] at hc

theorem postureRunning_active (h : x ≠ .closed ∨ closeSleeps p.sl.inForce = false) (hr : p.sa.hostState = .running)
    (ha : p.sa.advisor = .active) : postureRunning x p = { p with sa := { p.sa with inactivity := restarted p } } := by
  rw [postureRunning_open h, activity_awake hr (by simp [ha]), leaveClose_active (by exact ha), ite_self]

theorem postureRunning_idle (h : x ≠ .closed ∨ closeSleeps p.sl.inForce = false) (hr : p.sa.hostState = .running)
    (ha : p.sa.advisor = .idle) : postureRunning x p = advise .undim 0#6
      { p with sa := { p.sa with inactivity := restarted p, advisor := .active, dimmed := false } } := by
  rw [postureRunning_open h, activity_idle hr ha, leaveClose_active (by simp), ite_self]

/-- CLOSED in CLOSE_PENDING and SLEEP_ADVISED is an activity alone (R144, R145). -/
theorem postureRunning_closed (hx : x = .closed) (hr : p.sa.hostState = .running)
    (ha : p.sa.advisor = .closePending ∨ p.sa.advisor = .sleepAdvised) :
    postureRunning x p = { p with sa := { p.sa with inactivity := restarted p } } := by
  have awake : p.sa.advisor ≠ .idle := by rcases ha with ha | ha <;> simp [ha]
  have other : ¬ (p.sa.advisor = .active ∨ p.sa.advisor = .idle) := by rcases ha with ha | ha <;> simp [ha]
  simp [postureRunning, hx, other, activity_awake hr awake]

/-- Any other posture leaves CLOSE_PENDING, with UNDIM where the display was dimmed (R145). -/
theorem postureRunning_closePending (hx : x ≠ .closed) (hr : p.sa.hostState = .running) (ha : p.sa.advisor = .closePending) :
    let q : Part := { p with sa := { p.sa with
      inactivity := restarted p, advisor := .active, dimmed := false, grace := none } }
    postureRunning x p = if p.sa.dimmed = true then advise .undim 0#6 q else q := by
  rw [postureRunning_open (.inl hx), if_neg hx, activity_awake hr (by simp [ha])]
  simp only [leaveClose, ha]

/-- Any other posture leaves SLEEP_ADVISED with CANCEL_SLEEP (R145). -/
theorem postureRunning_sleepAdvised (hx : x ≠ .closed) (hr : p.sa.hostState = .running) (ha : p.sa.advisor = .sleepAdvised) :
    postureRunning x p = advise .cancelSleep 0#6 { p with sa := { p.sa with
      inactivity := restarted p, advisor := .active, dimmed := false, grace := none } } := by
  rw [postureRunning_open (.inl hx), if_neg hx, activity_awake hr (by simp [ha])]
  simp only [leaveClose, ha]

end

/-! ### An advice published (R149, R176) -/

theorem advise_publishes (k : AdviceKind) (causes : BitVec 6) (hw : p.resetWork = none)
    (hi : (p.nu.classes.get .advice).state = .idle) (hp : (p.nu.classes.get .advice).publishing = none) :
    ((advise k causes p).nu.classes.get .advice).publishing =
      some ([(p.nu.classes.get .advice).seq + 1#16, p.tb.extractLsb' 16 16, p.tb.extractLsb' 0 16,
        word (classNumber .advice), word 0] ++
        [word k.code, causes.setWidth 16, word p.sa.posture.code, word p.sa.hostState.code, word p.sa.advisor.code,
          flagWord p.sa.dimmed] ++ List.replicate (43 - 6) 0#16) := by
  rw [advise, offer_taken _ _ hw, takeOffer, absorb_idle _ _ hi hp, publish_nu]
  simp [Content.cls, recordWords, Content.words, AdviceContent.words, hiWord, loWord]

/-! ### What the advisor hears of a posture (R45, R51) -/

/-- While a rotation is ROT0, or the host does not run, a change of hold is no activity (R51, R142). -/
theorem rehold_still (h : p.ot.rotation = .rot0 ∨ p.sa.hostState ≠ .running) :
    (rehold p).sa = p.sa ∧ (rehold p).nu.classes.get .advice = p.nu.classes.get .advice := by
  have offered (o : Ot) : (offerOrientation { p with ot := o }).sa = p.sa ∧
      (offerOrientation { p with ot := o }).nu.classes.get .advice = p.nu.classes.get .advice :=
    ⟨by simp [offerOrientation], offer_other_class (.orientation _) { p with ot := o } (by simp [Content.cls])⟩
  simp only [rehold]
  split
  · exact ⟨rfl, rfl⟩
  · split
    · next ht =>
      have notRunning : p.sa.hostState ≠ .running := h.resolve_left ht.2
      rw [activity_notRunning (by simpa [offerOrientation] using notRunning)]
      exact offered _
    · exact offered _

/-- Otherwise it may be an activity; out of IDLE that gives no advice (R51, R142). -/
theorem rehold_awake (hr : p.sa.hostState = .running) (hi : p.sa.advisor ≠ .idle) :
    (∃ i, (rehold p).sa = { p.sa with inactivity := i }) ∧
    (rehold p).nu.classes.get .advice = p.nu.classes.get .advice := by
  have offered (o : Ot) : (offerOrientation { p with ot := o }).sa = p.sa ∧
      (offerOrientation { p with ot := o }).nu.classes.get .advice = p.nu.classes.get .advice :=
    ⟨by simp [offerOrientation], offer_other_class (.orientation _) { p with ot := o } (by simp [Content.cls])⟩
  simp only [rehold]
  split
  · exact ⟨⟨_, rfl⟩, rfl⟩
  · split
    · rw [activity_awake (by simpa [offerOrientation] using hr) (by simpa [offerOrientation] using hi)]
      exact ⟨⟨_, by rw [(offered _).1]⟩, (offered _).2⟩
    · exact ⟨⟨p.sa.inactivity, (offered _).1⟩, (offered _).2⟩

/-- From IDLE it may return to ACTIVE (R51, R142). -/
theorem rehold_idle (hr : p.sa.hostState = .running) (hi : p.sa.advisor = .idle) :
    (rehold p).sa = p.sa ∨ ∃ i, (rehold p).sa = { p.sa with inactivity := i, advisor := .active, dimmed := false } := by
  have offered (o : Ot) : (offerOrientation { p with ot := o }).sa = p.sa := by simp [offerOrientation]
  simp only [rehold]
  split
  · exact .inl rfl
  · split
    · rw [activity_idle (by simpa [offerOrientation] using hr) (by simpa [offerOrientation] using hi), advise_sa]
      exact .inr ⟨_, by rw [offered]⟩
    · exact .inl (offered _)

/-! ### The expiry as the advisor hears it (R45) -/

theorem dwellDecided_frame (p : Part) :
    (dwellDecided p).tb = p.tb ∧ (dwellDecided p).sl = p.sl ∧ (dwellDecided p).resetWork = p.resetWork ∧
    (dwellDecided p).sa = p.sa ∧ (dwellDecided p).ot = p.ot ∧ (dwellDecided p).bl.link = p.bl.link := by
  simp [dwellDecided]

/-- A decision of suppression offers KEYS at most (R44). -/
theorem decideSuppression_other_class {d : NoticeClass} (hk : d ≠ .keys) (p : Part) :
    (decideSuppression p).nu.classes.get d = p.nu.classes.get d := by
  have told (on : Bool) (q : Part) : (suppressionTold on q).nu.classes.get d = q.nu.classes.get d := by
    unfold suppressionTold offerIfQueued offerKeys
    split
    · split
      · exact offer_other_class .keys _ hk
      · rfl
    · rfl
  unfold decideSuppression
  dsimp only
  split
  · rfl
  · exact told _ _

/-- The part as SA hears of the posture published, once OT has (R45). -/
def advisorHears (x : Posture) (p : Part) : Part :=
  { orientationTold x p with sa := { (orientationTold x p).sa with posture := x } }

theorem advisorHears_frame (x : Posture) (p : Part) :
    (advisorHears x p).tb = p.tb ∧ (advisorHears x p).sl = p.sl ∧ (advisorHears x p).resetWork = p.resetWork ∧
    (advisorHears x p).bl = p.bl := by
  simp [advisorHears]

theorem orientationTold_hostState (x : Posture) (p : Part) : (orientationTold x p).sa.hostState = p.sa.hostState :=
  ((undisturbed_carried p).advisorCarried.rehold
    ((undisturbed_carried p).rotation p { p.ot with posture := x } (.refl p))).2.2.1.1

section
variable {x : Posture}

theorem advisorHears_still (h : p.ot.rotation = .rot0 ∨ p.sa.hostState ≠ .running) :
    (advisorHears x p).sa = { p.sa with posture := x } ∧
    (advisorHears x p).nu.classes.get .advice = p.nu.classes.get .advice := by
  obtain ⟨hsa, hadvice⟩ := rehold_still (p := { p with ot := { p.ot with posture := x } }) h
  exact ⟨congrArg (fun a : Sa => { a with posture := x }) hsa, hadvice⟩

theorem advisorHears_awake (hr : p.sa.hostState = .running) (hi : p.sa.advisor ≠ .idle) :
    (∃ i, (advisorHears x p).sa = { p.sa with posture := x, inactivity := i }) ∧
    (advisorHears x p).nu.classes.get .advice = p.nu.classes.get .advice := by
  obtain ⟨⟨i, hsa⟩, hadvice⟩ := rehold_awake (p := { p with ot := { p.ot with posture := x } }) hr hi
  exact ⟨⟨i, congrArg (fun a : Sa => { a with posture := x }) hsa⟩, hadvice⟩

theorem advisorHears_idle (hr : p.sa.hostState = .running) (hi : p.sa.advisor = .idle) :
    (advisorHears x p).sa = { p.sa with posture := x } ∨
    ∃ i, (advisorHears x p).sa = { p.sa with posture := x, inactivity := i, advisor := .active, dimmed := false } := by
  rcases rehold_idle (p := { p with ot := { p.ot with posture := x } }) hr hi with hsa | ⟨i, hsa⟩
  · exact .inl (congrArg (fun a : Sa => { a with posture := x }) hsa)
  · exact .inr ⟨i, congrArg (fun a : Sa => { a with posture := x }) hsa⟩

theorem postureTold_running (hr : p.sa.hostState = .running) :
    postureTold x (orientationTold x p) = postureRunning x (advisorHears x p) := by
  have host := (orientationTold_hostState x p).trans hr
  exact if_pos host

theorem postureTold_notRunning (hr : p.sa.hostState ≠ .running) :
    postureTold x (orientationTold x p) =
      if p.sa.posture = .closed ∧ x ≠ .closed ∧ x ≠ .detached then wakeCause .lidOpen (advisorHears x p)
      else advisorHears x p := by
  have host : (orientationTold x p).sa.hostState ≠ .running := by rwa [orientationTold_hostState]
  have before : (orientationTold x p).sa.posture = p.sa.posture :=
    congrArg Sa.posture (rehold_still (p := { p with ot := { p.ot with posture := x } }) (.inr hr)).1
  rw [← before]
  exact if_neg host

end

/-- Step 6 of an evaluation with a posture newly published offers POSTURE besides what it tells (R45). -/
theorem handOn_of_changed {before : Posture} (h : p.pc.published ≠ before) :
    (handOn before p).sa = (tellPosture p).sa ∧ (handOn before p).bl = (tellPosture p).bl ∧
    (handOn before p).nu.classes.get .advice = (tellPosture p).nu.classes.get .advice := by
  simp only [handOn, h, if_false]
  split
  · exact ⟨rfl, rfl, rfl⟩
  · exact ⟨by simp [offerPosture], by simp [offerPosture], offer_other_class (.posture _) _ (by simp [Content.cls])⟩

/-- What SA hears at the expiry, with all but the posture as it was, or as an activity before left it (R45, R51). -/
def expiryHeard (p : Part) : Part := advisorHears p.pc.candidate (dwellDecided p)

theorem expiryHeard_frame (p : Part) :
    (expiryHeard p).tb = p.tb ∧ (expiryHeard p).sl = p.sl ∧ (expiryHeard p).resetWork = p.resetWork ∧
    (expiryHeard p).bl = (dwellDecided p).bl := by
  obtain ⟨htb, hsl, hwork, hbl⟩ := advisorHears_frame p.pc.candidate (dwellDecided p)
  obtain ⟨htb', hsl', hwork', -⟩ := dwellDecided_frame p
  exact ⟨htb.trans htb', hsl.trans hsl', hwork.trans hwork', hbl⟩

theorem expiryHeard_still (h : p.ot.rotation = .rot0 ∨ p.sa.hostState ≠ .running) :
    (expiryHeard p).sa = { p.sa with posture := p.pc.candidate } ∧
    (expiryHeard p).nu.classes.get .advice = p.nu.classes.get .advice := by
  obtain ⟨-, -, -, hsa, hot, -⟩ := dwellDecided_frame p
  obtain ⟨hs, ha⟩ := advisorHears_still (x := p.pc.candidate) (p := dwellDecided p) (by rwa [hsa, hot])
  exact ⟨by rw [expiryHeard, hs, hsa], ha.trans (decideSuppression_other_class (by simp) _)⟩

theorem expiryHeard_awake (hr : p.sa.hostState = .running) (hi : p.sa.advisor ≠ .idle) :
    (∃ i, (expiryHeard p).sa = { p.sa with posture := p.pc.candidate, inactivity := i }) ∧
    (expiryHeard p).nu.classes.get .advice = p.nu.classes.get .advice := by
  obtain ⟨-, -, -, hsa, -⟩ := dwellDecided_frame p
  obtain ⟨⟨i, hs⟩, ha⟩ := advisorHears_awake (x := p.pc.candidate) (p := dwellDecided p) (by rwa [hsa]) (by rwa [hsa])
  exact ⟨⟨i, by rw [expiryHeard, hs, hsa]⟩, ha.trans (decideSuppression_other_class (by simp) _)⟩

theorem expiryHeard_idle (hr : p.sa.hostState = .running) (hi : p.sa.advisor = .idle) :
    (expiryHeard p).sa = { p.sa with posture := p.pc.candidate } ∨
    ∃ i, (expiryHeard p).sa =
      { p.sa with posture := p.pc.candidate, inactivity := i, advisor := .active, dimmed := false } := by
  obtain ⟨-, -, -, hsa, -⟩ := dwellDecided_frame p
  rw [← hsa]
  exact advisorHears_idle (by rwa [hsa]) (by rwa [hsa])

theorem expiryHeard_hostState (p : Part) : (expiryHeard p).sa.hostState = p.sa.hostState := by
  obtain ⟨-, -, -, hsa, -⟩ := dwellDecided_frame p
  exact (orientationTold_hostState p.pc.candidate (dwellDecided p)).trans (by rw [hsa])

/-- With the host RUNNING SA takes the posture, and no order follows (R140, R142). -/
theorem postureExpired_running (hr : p.sa.hostState = .running) (hc : p.pc.candidate ≠ p.pc.published) :
    (postureExpired p).sa = (postureRunning p.pc.candidate (expiryHeard p)).sa ∧
    (postureExpired p).nu.classes.get .advice =
      (postureRunning p.pc.candidate (expiryHeard p)).nu.classes.get .advice ∧
    (postureExpired p).bl = (dwellDecided p).bl := by
  have published := dwellDecided_published p
  have host : (dwellDecided p).sa.hostState = .running := by rwa [(dwellDecided_frame p).2.2.2.1]
  have running : (postureRunning p.pc.candidate (expiryHeard p)).sa.hostState = .running :=
    ((undisturbed_carried (expiryHeard p)).advisorCarried.postureRunning _
      ((expiryHeard_hostState p).trans hr) (.refl _)).2.2.1.1.trans ((expiryHeard_hostState p).trans hr)
  have told : tellPosture (dwellDecided p) = postureRunning p.pc.candidate (expiryHeard p) := by
    rw [expiryHeard] at running
    rw [tellPosture, published, postureTold_running host, running]
    rfl
  obtain ⟨hsa, hbl, hadvice⟩ := handOn_of_changed (p := dwellDecided p) (before := p.pc.published) (by rwa [published])
  rw [postureExpired_eq, hsa, hbl, hadvice, told]
  exact ⟨rfl, rfl, by simp [expiryHeard_frame]⟩

/-- While the host runs the expiry orders nothing of the link (R140). -/
theorem postureExpired_bl_running (hr : p.sa.hostState = .running) : (postureExpired p).bl = (dwellDecided p).bl := by
  by_cases hc : p.pc.candidate = p.pc.published
  · have published := (dwellDecided_published p).trans hc
    rw [postureExpired_eq, ← published]
    exact (handOn_of_published (dwellDecided p)).2.1
  · exact (postureExpired_running hr hc).2.2

/-- With the host RUNNING and a link in ACTIVE that no order takes to HIBERNATE the link makes no move (R67 to R70). -/
theorem dwellExpired_active (hl : p.bl.link = .active) (ht : p.bl.target ≠ .hibernate) (hr : p.sa.hostState = .running) :
    dwellExpired p = pump false (postureExpired p) := by
  have still : dwellExpired p = settle (postureExpired p) := by simp [dwellExpired, postureExpired_hostState, hr]
  have target : (postureExpired p).bl.target = p.bl.target := by
    rw [postureExpired_bl_running hr]
    exact decideSuppression_target _
  rw [still]
  exact settle_of_active (by simp [hl]) (by rwa [target])

/-- A posture that POSTURE was not offered with is offered, once the reset's work has ended (R45). -/
theorem handOn_waits (before : Posture) (h : p.pc.published ≠ p.pc.offered.posture) (hw : p.resetWork = none) :
    ClassWaits .posture (handOn before p) := by
  let q := if p.pc.published = before then p else tellPosture p
  have told : q.pc = p.pc ∧ q.resetWork = p.resetWork := by
    simp only [q]
    split <;> simp
  have differs : postureKey q.pc ≠ q.pc.offered := by
    rw [told.1]
    exact fun he => h (congrArg OfferedPosture.posture he)
  have offered : handOn before p = offerPosture q := if_neg differs
  rw [offered]
  exact offer_waits (.posture _) (told.2.trans hw)

/-- With the host RUNNING and the link in ACTIVE SA and ADVICE stand as the posture left them (R142 to R145). -/
theorem dwellExpired_advisor (hl : p.bl.link = .active) (ht : p.bl.target ≠ .hibernate) (hr : p.sa.hostState = .running)
    (hc : p.pc.candidate ≠ p.pc.published) :
    (dwellExpired p).sa = (postureRunning p.pc.candidate (expiryHeard p)).sa ∧
    (dwellExpired p).nu.classes.get .advice = (postureRunning p.pc.candidate (expiryHeard p)).nu.classes.get .advice := by
  obtain ⟨hsa, hadvice, -⟩ := postureExpired_running hr hc
  simp [dwellExpired_active hl ht hr, hsa, hadvice]

/-! ### The advisor after the expiry (R142 to R145, R149) -/

/-- An advice given with all that ADVICE's record is made of as `s` has it, but SA, is the one that `t` shows (R149). -/
theorem advised_of_advise {k : AdviceKind} {causes : BitVec 6} {x : Posture} {s t : State} {r : Part}
    (ht : t.part.nu.classes.get .advice = (advise k causes r).nu.classes.get .advice)
    (hsa : ∃ y, t.part.sa = { r.sa with posture := y })
    (hx : r.sa.posture = x) (hcell : r.nu.classes.get .advice = s.part.nu.classes.get .advice) (htb : r.tb = s.part.tb)
    (hwork : r.resetWork = s.part.resetWork) : Advised (word k.code) (causes.setWidth 16) x s t := by
  rintro ⟨hw, hi, hp⟩
  obtain ⟨y, hsa⟩ := hsa
  rw [← hcell] at hi hp
  have published := advise_publishes k causes (hwork.trans hw) hi hp
  unfold Publishes
  rw [ht, published, hsa, hx, hcell, htb]
  rfl

theorem expiryHeard_restarted (p : Part) : restarted (expiryHeard p) = restarted p := by
  obtain ⟨htb, hsl, -⟩ := expiryHeard_frame p
  rw [restarted, restarted, htb, hsl]

theorem expiryHeard_running (hr : p.sa.hostState = .running) : (expiryHeard p).sa.hostState = .running :=
  (expiryHeard_hostState p).trans hr

/-- SA and ADVICE stand in `q` as SA's answer to the posture that the expiry publishes from `p` leaves them (R142 to R145). -/
def AdvisorTakes (p q : Part) : Prop := q.sa = (postureRunning p.pc.candidate (expiryHeard p)).sa ∧
  q.nu.classes.get .advice = (postureRunning p.pc.candidate (expiryHeard p)).nu.classes.get .advice

namespace AdvisorTakes

theorem inactivity (h : AdvisorTakes p q) (hr : p.sa.hostState = .running) : q.sa.inactivity = restarted p := by
  rw [h.1, postureRunning_inactivity (expiryHeard_running hr), expiryHeard_restarted]

/-- CLOSED with close-sleep (R144). -/
theorem closing (h : AdvisorTakes p q) (hr : p.sa.hostState = .running) (hx : p.pc.candidate = .closed)
    (hcs : closeSleeps p.sl.inForce = true) (ha : p.sa.advisor = .active ∨ p.sa.advisor = .idle) :
    q.sa.advisor = .closePending ∧ q.sa.grace = some ⟨p.tb, p.sl.inForce.closeGrace⟩ ∧
    (p.ot.rotation = .rot0 → q.sa.dimmed = p.sa.dimmed ∧ q.nu.classes.get .advice = p.nu.classes.get .advice) := by
  obtain ⟨hsa, hadvice⟩ := h
  obtain ⟨htb, hsl, -⟩ := expiryHeard_frame p
  have advisor : (expiryHeard p).sa.advisor = .active ∨ (expiryHeard p).sa.advisor = .idle := by
    rcases ha with ha | ha
    · obtain ⟨⟨i, heard⟩, -⟩ := expiryHeard_awake hr (by simp [ha])
      exact .inl (by rw [heard, ha])
    · rcases expiryHeard_idle hr ha with heard | ⟨i, heard⟩
      · exact .inr (by rw [heard, ha])
      · exact .inl (by rw [heard])
  rw [postureRunning_closing hx (by rwa [hsl]) advisor] at hsa hadvice
  refine ⟨by rw [hsa], by rw [hsa, htb, hsl], fun hrot => ?_⟩
  obtain ⟨heard, hcell⟩ := expiryHeard_still (.inl hrot)
  exact ⟨by rw [hsa, heard], hadvice.trans hcell⟩

/-- Any other posture in ACTIVE (R142). -/
theorem active (h : AdvisorTakes p q) (hr : p.sa.hostState = .running)
    (ho : p.pc.candidate ≠ .closed ∨ closeSleeps p.sl.inForce = false) (ha : p.sa.advisor = .active) :
    q.sa.advisor = .active ∧ q.nu.classes.get .advice = p.nu.classes.get .advice := by
  obtain ⟨hsa, hadvice⟩ := h
  obtain ⟨⟨i, heard⟩, hcell⟩ := expiryHeard_awake hr (by simp [ha])
  have advisor : (expiryHeard p).sa.advisor = .active := by rw [heard, ha]
  rw [postureRunning_active (by rwa [(expiryHeard_frame p).2.1]) (expiryHeard_running hr) advisor] at hsa hadvice
  exact ⟨by rw [hsa, advisor], hadvice.trans hcell⟩

/-- Any other posture in IDLE returns to ACTIVE, whether or not a rotation had it do so (R142). -/
theorem idle (h : AdvisorTakes p q) (hr : p.sa.hostState = .running)
    (ho : p.pc.candidate ≠ .closed ∨ closeSleeps p.sl.inForce = false) (ha : p.sa.advisor = .idle) :
    q.sa.advisor = .active ∧ q.sa.dimmed = false := by
  have ho' : p.pc.candidate ≠ .closed ∨ closeSleeps (expiryHeard p).sl.inForce = false := by
    rwa [(expiryHeard_frame p).2.1]
  rcases expiryHeard_idle hr ha with heard | ⟨i, heard⟩
  · have taken := postureRunning_idle ho' (expiryHeard_running hr) (by rw [heard, ha])
    rw [h.1, taken, advise_sa]
    exact ⟨rfl, rfl⟩
  · have taken := postureRunning_active ho' (expiryHeard_running hr) (by rw [heard])
    rw [h.1, taken]
    exact ⟨by rw [heard], by rw [heard]⟩

end AdvisorTakes

section
variable {s t : State}

/-- With OT at ROT0 the return from IDLE advises UNDIM (R142, R149). -/
theorem advised_idle (h : AdvisorTakes s.part t.part) (hr : s.part.sa.hostState = .running)
    (ho : s.part.pc.candidate ≠ .closed ∨ closeSleeps s.part.sl.inForce = false) (ha : s.part.sa.advisor = .idle)
    (hrot : s.part.ot.rotation = .rot0) : Advised 2#16 0#16 s.part.pc.candidate s t := by
  obtain ⟨hsa, hadvice⟩ := h
  obtain ⟨htb, hsl, hwork, -⟩ := expiryHeard_frame s.part
  obtain ⟨heard, hcell⟩ := expiryHeard_still (p := s.part) (.inl hrot)
  have taken := postureRunning_idle (x := s.part.pc.candidate) (by rwa [hsl]) (expiryHeard_running hr) (by rw [heard, ha])
  rw [taken] at hsa hadvice
  rw [advise_sa] at hsa
  refine advised_of_advise (k := .undim) (causes := 0#6) hadvice ⟨_, hsa⟩ ?_ hcell htb hwork
  rw [heard]

/-- A posture but CLOSED in CLOSE_PENDING (R145, R149). -/
theorem advised_closePending (h : AdvisorTakes s.part t.part) (hr : s.part.sa.hostState = .running)
    (hx : s.part.pc.candidate ≠ .closed) (ha : s.part.sa.advisor = .closePending) :
    t.part.sa.advisor = .active ∧ t.part.sa.grace = none ∧ t.part.sa.dimmed = false ∧
    (s.part.sa.dimmed = true → Advised 2#16 0#16 s.part.pc.candidate s t) ∧
    (s.part.sa.dimmed = false → t.part.nu.classes.get .advice = s.part.nu.classes.get .advice) := by
  obtain ⟨hsa, hadvice⟩ := h
  obtain ⟨htb, -, hwork, -⟩ := expiryHeard_frame s.part
  obtain ⟨⟨i, heard⟩, hcell⟩ := expiryHeard_awake hr (by simp [ha])
  have taken := postureRunning_closePending hx (expiryHeard_running hr) (by rw [heard, ha])
  have dimmed : (expiryHeard s.part).sa.dimmed = s.part.sa.dimmed := by rw [heard]
  rw [taken, dimmed] at hsa hadvice
  rw [apply_ite Part.sa, advise_sa, ite_self] at hsa
  refine ⟨by rw [hsa], by rw [hsa], by rw [hsa], fun hd => ?_, fun hd => ?_⟩
  · rw [if_pos hd] at hadvice
    refine advised_of_advise (k := .undim) (causes := 0#6) hadvice ⟨_, hsa⟩ ?_ hcell htb hwork
    rw [heard]
  · rw [hd] at hadvice
    exact hadvice.trans hcell

/-- A posture but CLOSED in SLEEP_ADVISED (R145, R149). -/
theorem advised_sleepAdvised (h : AdvisorTakes s.part t.part) (hr : s.part.sa.hostState = .running)
    (hx : s.part.pc.candidate ≠ .closed) (ha : s.part.sa.advisor = .sleepAdvised) :
    t.part.sa.advisor = .active ∧ t.part.sa.dimmed = false ∧ Advised 4#16 0#16 s.part.pc.candidate s t := by
  obtain ⟨hsa, hadvice⟩ := h
  obtain ⟨htb, -, hwork, -⟩ := expiryHeard_frame s.part
  obtain ⟨⟨i, heard⟩, hcell⟩ := expiryHeard_awake hr (by simp [ha])
  have taken := postureRunning_sleepAdvised hx (expiryHeard_running hr) (by rw [heard, ha])
  rw [taken] at hsa hadvice
  rw [advise_sa] at hsa
  refine ⟨by rw [hsa], by rw [hsa], ?_⟩
  refine advised_of_advise (k := .cancelSleep) (causes := 0#6) hadvice ⟨_, hsa⟩ ?_ hcell htb hwork
  rw [heard]

/-- CLOSED in CLOSE_PENDING and SLEEP_ADVISED (R144, R145). -/
theorem AdvisorTakes.closed (h : AdvisorTakes p q) (hr : p.sa.hostState = .running)
    (hx : p.pc.candidate = .closed) (ha : p.sa.advisor = .closePending ∨ p.sa.advisor = .sleepAdvised) :
    q.sa.advisor = p.sa.advisor ∧ q.sa.grace = p.sa.grace ∧
    q.nu.classes.get .advice = p.nu.classes.get .advice := by
  obtain ⟨hsa, hadvice⟩ := h
  obtain ⟨⟨i, heard⟩, hcell⟩ := expiryHeard_awake hr (by rcases ha with ha | ha <;> simp [ha])
  have taken := postureRunning_closed hx (expiryHeard_running hr) (by rwa [heard])
  rw [taken] at hsa hadvice
  exact ⟨by rw [hsa, heard], by rw [hsa, heard], hadvice.trans hcell⟩

end
/-! ### A host that does not run (R140, R147, R148) -/

/-- SA holds what `a` holds, but for the posture, and the record of ADVICE is `cell`. -/
def Hushed (a : Sa) (cell : ClassCell) (p : Part) : Prop :=
  (∃ x, p.sa = { a with posture := x }) ∧ p.nu.classes.get .advice = cell

namespace Hushed

variable {a : Sa} {cell : ClassCell}

theorem congr (h : Hushed a cell p) (hsa : q.sa = p.sa) (hnu : q.nu = p.nu) : Hushed a cell q := by
  simpa only [Hushed, hsa, hnu] using h

theorem offer (h : Hushed a cell p) (c : Content) (hc : NoticeClass.advice ≠ c.cls) : Hushed a cell (offer (.content c) p) :=
  ⟨by simpa using h.1, (offer_other_class c p hc).trans h.2⟩

theorem decideSuppression (h : Hushed a cell p) : Hushed a cell (decideSuppression p) :=
  ⟨by simpa using h.1, (decideSuppression_other_class (by simp) p).trans h.2⟩

/-- While the host does not run, an activity is none. -/
theorem activity (h : Hushed a cell p) (hn : a.hostState ≠ .running) : Hushed a cell (activity p) := by
  obtain ⟨x, hx⟩ := h.1
  rwa [activity_notRunning (by rwa [hx])]

/-- DETACHED is no cause of a wake (R147). -/
theorem tellPosture (h : Hushed a cell p) (hn : a.hostState ≠ .running) (hd : p.pc.published = .detached) :
    Hushed a cell (tellPosture p) := by
  obtain ⟨⟨x, hx⟩, hcell⟩ := h
  have host : p.sa.hostState ≠ .running := by rwa [hx]
  have told : postureTold .detached (orientationTold .detached p) = advisorHears .detached p := by
    rw [postureTold_notRunning host]
    exact if_neg (by simp)
  obtain ⟨hsa, hadvice⟩ := advisorHears_still (x := .detached) (.inr host)
  have heard : Hushed a cell (advisorHears .detached p) := ⟨⟨_, by rw [hsa, hx]⟩, hadvice.trans hcell⟩
  unfold Machine.tellPosture
  rw [hd, told]
  exact holds_ite heard heard

theorem offerPosture (h : Hushed a cell p) : Hushed a cell (offerPosture p) :=
  Hushed.offer (p := { p with pc := { p.pc with offered := postureKey p.pc } }) h (.posture _) (by simp [Content.cls])

theorem evaluatePosture (h : Hushed a cell p) (hn : a.hostState ≠ .running) : Hushed a cell (evaluatePosture p) := by
  have steps : Hushed a cell (decided p) := Hushed.decideSuppression h
  have told : Hushed a cell (if (decided p).pc.published = p.pc.published then decided p
      else Machine.tellPosture (decided p)) := by
    split
    · exact steps
    · next hne =>
      refine steps.tellPosture hn (decided_unattached ?_)
      exact Bool.eq_false_iff.mpr fun hl => hne (decided_published hl)
  exact holds_ite told told.offerPosture

theorem linkToldKeys (h : Hushed a cell p) (old new : Link) : Hushed a cell (linkToldKeys old new p) := by
  have offered {q : Part} (hq : Hushed a cell q) (had : Nat) : Hushed a cell (offerIfQueued had q) :=
    holds_ite (hq.offer .keys (by simp [Content.cls])) hq
  refine holds_ite (offered ?_ _) h
  exact h

/-- An entry into a link state gives no advice, but for that of an attach (R62, R147). -/
theorem enterLink (h : Hushed a cell p) (hn : a.hostState ≠ .running) {new : Link} (hp : new ≠ .powering) :
    Hushed a cell (enterLink new p) := by
  have keys := Hushed.linkToldKeys (p := { p with bl := p.bl.changeLink new }) h p.bl.link new
  have profiled := Hushed.congr (keys.evaluatePosture hn) (q := linkToldProfile p.bl.link new (Machine.evaluatePosture
    (Machine.linkToldKeys p.bl.link new { p with bl := p.bl.changeLink new }))) (by simp) (by simp)
  unfold Machine.enterLink linkTold
  cases new with
  | powering => exact absurd rfl hp
  | detached => exact profiled.activity hn
  | _ => exact profiled

theorem offerBase (h : Hushed a cell p) (e : BaseEvent) : Hushed a cell (offerBase e p) :=
  h.offer (.base _) (by simp [Content.cls])

theorem stallIfOrdered (h : Hushed a cell p) (hn : a.hostState ≠ .running) (m : LinkMode) :
    Hushed a cell (stallIfOrdered m p) := by
  refine holds_ite (Hushed.enterLink ?_ hn (by simp)) h
  exact h

theorem settle (h : Hushed a cell p) (hn : a.hostState ≠ .running) : Hushed a cell (settle p) := by
  have waked : Hushed a cell (wakeIfPending p) := by
    refine holds_ite (Hushed.offerBase (Hushed.enterLink ?_ hn (by simp)) _) h
    exact h
  have roused : Hushed a cell (rouseIfQueued (wakeIfPending p)) := by
    refine holds_ite (Hushed.enterLink ?_ hn (by simp)) waked
    exact waked
  have hibernated : Hushed a cell (hibernateIfDue (rouseIfQueued (wakeIfPending p))) := by
    refine holds_ite (Hushed.offerBase (Hushed.enterLink ?_ hn (by simp)) _) roused
    exact roused
  exact hibernated.congr (by simp [Machine.settle, settleWith]) (by simp [Machine.settle, settleWith])

end Hushed
/-- What SA has taken of the posture at the expiry, before the order of a sleeping host (R140, R147). -/
def expiryTaken (p : Part) : Part :=
  if p.sa.posture = .closed ∧ p.pc.candidate ≠ .closed ∧ p.pc.candidate ≠ .detached then
    wakeCause .lidOpen (expiryHeard p)
  else expiryHeard p

theorem expiryTaken_sa (p : Part) : (expiryTaken p).sa = (expiryHeard p).sa := by
  unfold expiryTaken wakeCause adviseWake
  split
  · split
    · dsimp only
      split <;> simp [orderTarget]
    · rfl
  · rfl

/-- With a host that does not run SA takes the posture, and with the host SLEEPING it orders the link (R140, R147). -/
theorem postureExpired_notRunning (hn : p.sa.hostState ≠ .running) (hc : p.pc.candidate ≠ p.pc.published) :
    (postureExpired p).sa = (expiryTaken p).sa ∧
    (postureExpired p).nu.classes.get .advice = (expiryTaken p).nu.classes.get .advice ∧
    (postureExpired p).bl =
      if p.sa.hostState = .sleeping then (orderTarget (orderFor .sleeping p.pc.candidate) (expiryTaken p)).bl
      else (expiryTaken p).bl := by
  have published := dwellDecided_published p
  have hsa := (dwellDecided_frame p).2.2.2.1
  have host : (dwellDecided p).sa.hostState ≠ .running := by rwa [hsa]
  have taken : postureTold p.pc.candidate (orientationTold p.pc.candidate (dwellDecided p)) = expiryTaken p := by
    rw [postureTold_notRunning host, hsa]
    rfl
  have stays : (expiryTaken p).sa.hostState = p.sa.hostState := by rw [expiryTaken_sa, expiryHeard_hostState]
  have told : tellPosture (dwellDecided p) = if p.sa.hostState = .sleeping then
      orderTarget (orderFor .sleeping p.pc.candidate) (expiryTaken p) else expiryTaken p := by
    unfold tellPosture
    dsimp only
    rw [published, taken, stays]
  obtain ⟨hsa', hbl, hadvice⟩ := handOn_of_changed (p := dwellDecided p) (before := p.pc.published) (by rwa [published])
  rw [postureExpired_eq, hsa', hbl, hadvice, told]
  split <;> exact ⟨rfl, rfl, rfl⟩

/-- With a host that does not run nothing after SA's answer touches ADVICE, nor SA but for the posture (R142, R147). -/
theorem dwellExpired_hushed (hn : p.sa.hostState ≠ .running) (hc : p.pc.candidate ≠ p.pc.published) :
    Hushed p.sa ((expiryTaken p).nu.classes.get .advice) (dwellExpired p) := by
  obtain ⟨hsa, hadvice, -⟩ := postureExpired_notRunning hn hc
  have expired : Hushed p.sa ((expiryTaken p).nu.classes.get .advice) (postureExpired p) := by
    refine ⟨⟨p.pc.candidate, ?_⟩, hadvice⟩
    rw [hsa, expiryTaken_sa, (expiryHeard_still (.inr hn)).1]
  exact (holds_ite (expired.stallIfOrdered hn _) expired).settle hn

/-! ### The order of a sleeping host (R140) -/

theorem expiryTaken_link (p : Part) : (expiryTaken p).bl.link = p.bl.link := by
  have heard : (expiryHeard p).bl.link = p.bl.link :=
    (congrArg Bl.link (expiryHeard_frame p).2.2.2).trans (dwellDecided_frame p).2.2.2.2.2
  unfold expiryTaken
  split <;> simp [heard]

/-- An order repeated changes nothing. -/
theorem orderTarget_again {m : LinkMode} (h : p.bl = (orderTarget m q).bl) : orderTarget m p = p := by
  have again : (orderTarget m p).bl = p.bl := by
    simp only [orderTarget, h]
    split <;> rfl
  calc orderTarget m p = { p with bl := (orderTarget m p).bl } := rfl
    _ = p := by rw [again]

/-- With the host SLEEPING the link takes the posture's mode order (R139, R140). -/
theorem dwellExpired_order (hs : p.sa.hostState = .sleeping) (hc : p.pc.candidate ≠ p.pc.published) :
    dwellExpired p = modeOrder (orderFor .sleeping p.pc.candidate) (postureExpired p) := by
  have hbl : (postureExpired p).bl = (orderTarget (orderFor .sleeping p.pc.candidate) (expiryTaken p)).bl := by
    rw [(postureExpired_notRunning (by simp [hs]) hc).2.2, if_pos hs]
  have target : (postureExpired p).bl.target = orderFor .sleeping p.pc.candidate := congrArg Bl.target hbl
  have changes : (postureExpired p).pc.published ≠ p.pc.published := by rwa [postureExpired_published]
  rw [modeOrder, orderTarget_again hbl, dwellExpired]
  simp only [postureExpired_hostState, hs, changes, ne_eq, not_false_eq_true, and_self, if_true, target]

theorem dwellExpired_target (hs : p.sa.hostState = .sleeping) (hc : p.pc.candidate ≠ p.pc.published) :
    (dwellExpired p).bl.target = orderFor .sleeping p.pc.candidate := by
  rw [dwellExpired_order hs hc]
  refine (modeOrder_order _ fun _ hm => ?_).1
  simp only [orderFor] at hm ⊢
  split
  · simp_all
  · rfl

/-- In HIBERNATE a pending wake is the link's only move (R67 to R70). -/
theorem settle_of_hibernate (hl : p.bl.link = .hibernate) : settle p = pump false (wakeIfPending p) := by
  have moved : (wakeIfPending p).bl.link = .waking ∨ (wakeIfPending p).bl.link = .hibernate := by
    unfold wakeIfPending
    split
    · exact .inl (by simp [enterWaking])
    · exact .inr hl
  have roused : rouseIfQueued (wakeIfPending p) = wakeIfPending p := if_neg (by rcases moved with h | h <;> simp [h])
  have live : (wakeIfPending p).bl.link.live = false := by rcases moved with h | h <;> rw [h] <;> rfl
  rw [settle, settleWith, roused, hibernateIfDue, if_neg (by simp [live])]

theorem pump_pendingWake (r : Bool) (p : Part) : (pump r p).bl.pendingWake = p.bl.pendingWake :=
  (congrArg Bl.pendingWake (Bl.pump_eq p.sl.inForce.lineReset p.tb p.bl) :)

/-- In HIBERNATE the expiry's order is the target and the pending wake, and then the link's own move (R69, R70). -/
theorem dwellExpired_of_hibernate (hl : p.bl.link = .hibernate) :
    dwellExpired p = pump false (wakeIfPending (postureExpired p)) := by
  have link : (postureExpired p).bl.link = .hibernate := by simpa using hl
  have unstalled (m : LinkMode) : stallIfOrdered m (postureExpired p) = postureExpired p := if_neg (by simp [hl])
  rw [dwellExpired]
  simp only [unstalled, ite_self]
  exact settle_of_hibernate link

/-- CLOSED with the host SLEEPING leaves HIBERNATE as it is, and no wake pending (R70, R140). -/
theorem dwellExpired_closed (hl : p.bl.link = .hibernate) (hs : p.sa.hostState = .sleeping) (hx : p.pc.candidate = .closed)
    (hc : p.pc.candidate ≠ p.pc.published) :
    (dwellExpired p).bl.link = .hibernate ∧ (dwellExpired p).bl.pendingWake = false := by
  have hbl := (postureExpired_notRunning (by simp [hs]) hc).2.2
  rw [if_pos hs] at hbl
  have link : (postureExpired p).bl.link = .hibernate := by simpa using hl
  have pending : (postureExpired p).bl.pendingWake = false := by
    rw [hbl]
    simp [orderTarget, expiryTaken_link, hl, hx, orderFor]
  have still : wakeIfPending (postureExpired p) = postureExpired p := if_neg (by simp [pending])
  rw [dwellExpired_of_hibernate hl, still]
  exact ⟨(pump_link ..).trans link, (pump_pendingWake ..).trans pending⟩

/-! ### A wake by the lid (R147, R148) -/

section
variable (hw : p.sa.advisor = .watching) (hb : p.sa.posture = .closed) (hx : p.pc.candidate ∉ [.closed, .detached])
include hw hb hx

/-- A posture after CLOSED wakes (R147). -/
theorem expiryTaken_wakes (hn : p.sa.hostState ≠ .running) : expiryTaken p = adviseWake .lidOpen (expiryHeard p) := by
  simp only [List.mem_cons, List.not_mem_nil, or_false, not_or] at hx
  have watching : (expiryHeard p).sa.advisor = .watching := by rw [(expiryHeard_still (.inr hn)).1, hw]
  rw [expiryTaken, if_pos ⟨hb, hx⟩, wakeCause, if_pos watching]

theorem expiryTaken_advice (hn : p.sa.hostState ≠ .running) :
    (expiryTaken p).nu.classes.get .advice =
      (advise .wake AdviceCause.lidOpen.set (expiryHeard p)).nu.classes.get .advice := by
  rw [expiryTaken_wakes hw hb hx hn, adviseWake]
  split <;> rfl

/-- A hibernating link is ordered to STALL, and its wake is pending (R70, R148). -/
theorem postureExpired_wakes (hn : p.sa.hostState ≠ .running) (hl : p.bl.link = .hibernate)
    (hc : p.pc.candidate ≠ p.pc.published) :
    (postureExpired p).bl.target = .stall ∧ (postureExpired p).bl.pendingWake = true := by
  have heard : (expiryHeard p).bl.link = .hibernate :=
    (congrArg Bl.link (expiryHeard_frame p).2.2.2).trans ((dwellDecided_frame p).2.2.2.2.2.trans hl)
  have woken : (expiryTaken p).bl.target = .stall ∧ (expiryTaken p).bl.pendingWake = true := by
    rw [expiryTaken_wakes hw hb hx hn]
    simp [adviseWake, orderTarget, heard]
  rw [(postureExpired_notRunning hn hc).2.2]
  split
  · simp only [List.mem_cons, List.not_mem_nil, or_false, not_or] at hx
    simp [orderTarget, orderFor, hx.1, expiryTaken_link, hl]
  · exact woken

theorem dwellExpired_wakes (hn : p.sa.hostState ≠ .running) (hl : p.bl.link = .hibernate)
    (hc : p.pc.candidate ≠ p.pc.published) :
    (dwellExpired p).bl.target = .stall ∧ ((dwellExpired p).bl.link = .waking ∨
      ((dwellExpired p).bl.link = .hibernate ∧ (dwellExpired p).bl.pendingWake = true)) := by
  obtain ⟨target, pending⟩ := postureExpired_wakes hw hb hx hn hl hc
  have link : (postureExpired p).bl.link = .hibernate := by simpa using hl
  rw [dwellExpired_of_hibernate hl, pump_target, pump_link, pump_pendingWake, wakeIfPending]
  split
  · have order := (enterWaking_order (postureExpired p)).1
    refine ⟨?_, .inl (by simp [enterWaking])⟩
    rcases order with ho | ⟨-, ho⟩
    · exact ho.trans target
    · exact ho
  · exact ⟨target, .inr ⟨link, pending⟩⟩

end

/-- The WAKE of a lid opened, as the expiry leaves it (R147 to R149). -/
theorem dwellExpired_wakeAdvised {s : State} (hn : s.part.sa.hostState ≠ .running) (hw : s.part.sa.advisor = .watching)
    (hb : s.part.sa.posture = .closed) (hx : s.part.pc.candidate ∉ [.closed, .detached])
    (hc : s.part.pc.candidate ≠ s.part.pc.published) : WakeAdvised 2#16 s.part.pc.candidate s (s.on dwellExpired) := by
  obtain ⟨⟨y, hsa⟩, hadvice⟩ := dwellExpired_hushed hn hc
  obtain ⟨heard, hcell⟩ := expiryHeard_still (p := s.part) (.inr hn)
  obtain ⟨htb, -, hwork, -⟩ := expiryHeard_frame s.part
  refine ⟨by rw [State.on_part, hsa, hw], ?_, fun hl => dwellExpired_wakes hw hb hx hn hl hc⟩
  refine advised_of_advise (k := .wake) (causes := AdviceCause.lidOpen.set)
    (hadvice.trans (expiryTaken_advice hw hb hx hn)) ⟨y, ?_⟩ (by rw [heard]) hcell htb hwork
  rw [State.on_part, hsa, heard]

theorem closeSleeps_false_iff (c : Settings) : closeSleeps c = false ↔ c.closeSleep = false ∨ c.keepAwake = true := by
  simp [closeSleeps, imp_iff_not_or]

theorem get_advice (c : PerClass ClassCell) : c.get .advice = c.advice := rfl

/-- With the host RUNNING and the link in ACTIVE the candidate is published and offered (R43 to R45). -/
theorem dwellExpired_publishes (hl : p.bl.link = .active) (ht : p.bl.target ≠ .hibernate) (hr : p.sa.hostState = .running) :
    (∃ o, (dwellExpired p).pc = { p.pc with
      published := p.pc.candidate, dwell := none, offered := o
      suppression := suppressionAfter p.sl.inForce.suppressionMask p.pc.suppression p.pc.candidate p.pc.candidate }) ∧
    (p.pc.candidate ≠ p.pc.offered.posture → p.resetWork = none → ClassWaits .posture (dwellExpired p)) := by
  rw [dwellExpired_active hl ht hr]
  refine ⟨by simpa using postureExpired_pc p, fun ho hw => ?_⟩
  have waits : ClassWaits .posture (postureExpired p) :=
    handOn_waits p.pc.published (p := dwellDecided p) (by simpa [dwellDecided, decideSuppression_eq] using ho)
      ((dwellDecided_frame p).2.2.1.trans hw)
  simpa [ClassWaits] using waits

/-- A posture that is no cause of a wake leaves ADVICE (R147). -/
theorem dwellExpired_unadvised (hn : p.sa.hostState ≠ .running) (hc : p.pc.candidate ≠ p.pc.published)
    (hx : p.sa.posture ≠ .closed ∨ p.pc.candidate ∈ [.closed, .detached]) :
    (dwellExpired p).nu.classes.get .advice = p.nu.classes.get .advice := by
  have quiet : expiryTaken p = expiryHeard p := by
    refine if_neg fun ⟨hb, hnc, hnd⟩ => ?_
    rcases hx with hx | hx
    · exact hx hb
    · simp [hnc, hnd] at hx
  have hushed := (dwellExpired_hushed hn hc).2
  rwa [quiet, (expiryHeard_still (.inr hn)).2] at hushed

/-- Settles O19: by what the expiry publishes, by the host's state, and by the advisor's. -/
theorem postureDwellExpiry : Obligations.PostureDwellExpiry := by
  simp only [Obligations.PostureDwellExpiry, ← get_advice, ← closeSleeps_false_iff]
  refine ⟨fun s hd => ⟨_, exec_postureDwellExpiry hd, dwellExpired_shown s.part, fun hc => dwellExpired_told hc⟩,
    fun s hd hl ht hr => ⟨_, exec_postureDwellExpiry hd, ?_⟩,
    fun s hd hl ht hr hc => ⟨_, exec_postureDwellExpiry hd, ?_⟩,
    fun s hd hn hw hc => ⟨_, exec_postureDwellExpiry hd, fun hb hx => dwellExpired_wakeAdvised hn hw hb hx hc,
      dwellExpired_unadvised hn hc, fun hs hx => ⟨?_, fun hl => dwellExpired_closed hl hs hx hc⟩, fun hs hx => ?_⟩⟩
  · obtain ⟨⟨o, hpc⟩, waits⟩ := dwellExpired_publishes hl ht hr
    rw [State.on_part, hpc]
    exact ⟨rfl, rfl, rfl, waits⟩
  · have takes : AdvisorTakes s.part (s.on dwellExpired).part := dwellExpired_advisor hl ht hr hc
    refine ⟨takes.inactivity hr, fun hx hcs hk ha => takes.closing hr hx (by simp [closeSleeps, hcs, hk]) ha,
      fun ho => ⟨takes.active hr ho, fun ha => ?_⟩, advised_closePending takes hr, advised_sleepAdvised takes hr,
      takes.closed hr⟩
    obtain ⟨hactive, hdimmed⟩ := takes.idle hr ho ha
    exact ⟨hactive, hdimmed, advised_idle takes hr ho ha⟩
  · rw [State.on_part, dwellExpired_target hs hc, hx]
    rfl
  · rw [State.on_part, dwellExpired_target hs hc]
    exact if_neg hx

end Sys2Proof.Machine

/-! What the link's own moves, and PW's taking of its requests, do to PW and to the queues (R86, R87). -/

namespace Sys2Proof.Machine

variable {p : Part}

/-! ### Asking for a wake, and running a request (R87 to R89) -/

/-- PW notes that it has asked for a wake, and nothing else of its own (R87). -/
theorem askWake_pw (p : Part) : ∃ b, (askWake p).pw = { p.pw with wakeAsked := b } := by
  unfold askWake
  split
  · exact ⟨true, by simp⟩
  · exact ⟨p.pw.wakeAsked, rfl⟩

/-- Only a hibernating link is asked to wake (R87). -/
theorem askWake_bl (h : p.bl.link ≠ .hibernate) : (askWake p).bl = p.bl := by
  simp [askWake, wakeNeeded, h]

theorem runRequest_reload_pw {r : Request} (hr : r.isReload = true) (p : Part) :
    (runRequest r p).pw = { p.pw with
      current := some (r, .running), walk := .reload, op := .snapshot, ending := none, snapshot := none } := by
  simp [runRequest, hr]

theorem runRequest_attribute_pw {r : Request} (hr : r.isReload = false) (p : Part) :
    ∃ b, (runRequest r p).pw = { p.pw with
      current := some (r, .running), inFlight := some .request, wakeAsked := b } := by
  obtain ⟨b, hb⟩ := askWake_pw (joinAttr ⟨decide (r.arg 0 = 2), BitVec.ofNat 12 (r.arg 1), BitVec.ofNat 8 (r.arg 2)⟩
    { p with pw := { p.pw with current := some (r, .running), inFlight := some .request } })
  exact ⟨b, by simp [runRequest, submit, hr, hb]⟩

theorem waitRequest_pw (r : Request) (p : Part) :
    ∃ b, (waitRequest r p).pw = { p.pw with current := some (r, .waiting), wakeAsked := b } :=
  askWake_pw { p with pw := { p.pw with current := some (r, .waiting) } }

/-! ### What PW's requests and the link's moves carry along -/

/-- P survives what the link's own moves make of PW: a wake asked for, and a waiting request that runs (R86, R87). -/
structure MoveCarried (P : Pw → Prop) : Prop where
  asked : ∀ w b, P w → P { w with wakeAsked := b }
  runs : ∀ p r, p.pw.walk = .none → p.pw.current = some (r, .waiting) → P p.pw → P (runRequest r p).pw

/-- P survives besides a change of the current request (R86). -/
structure WalkerCarried (P : Pw → Prop) : Prop extends MoveCarried P where
  request : ∀ w c, P w → P { w with current := c }

/-- An evaluation and the keys told leave PW, so an entry into a link state does to it what PW is told. -/
theorem enterLink_walker (new : Link) (p : Part) :
    ∃ q : Part, q.pw = p.pw ∧ q.bl.link = new ∧ (enterLink new p).pw = (linkToldProfile p.bl.link new q).pw :=
  ⟨evaluatePosture (linkToldKeys p.bl.link new { p with bl := p.bl.changeLink new }),
    by simp, by simp [Bl.changeLink], by simp [enterLink]⟩

namespace MoveCarried

variable {P : Pw → Prop}

theorem askWake (hP : MoveCarried P) (h : P p.pw) : P (askWake p).pw := by
  obtain ⟨b, hb⟩ := askWake_pw p
  rw [hb]
  exact hP.asked _ _ h

theorem runWaiting (hP : MoveCarried P) (h : P p.pw) : P (runWaiting p).pw := by
  unfold Machine.runWaiting
  split
  · next hc =>
    split
    · exact hP.runs p _ ‹_› hc h
    · exact h
  · exact h

/-- The link's own moves enter ACTIVE, STALL, HIBERNATE and WAKING alone (R67 to R70). -/
theorem enterLink (hP : MoveCarried P) {new : Link} (hn : new.attached = true ∨ new = .waking) (h : P p.pw) :
    P (enterLink new p).pw := by
  obtain ⟨q, hpw, -, entered⟩ := enterLink_walker new p
  have woken : P (if p.bl.link = .hibernate then { q with pw := { q.pw with wakeAsked := false } } else q).pw := by
    split
    · exact hP.asked _ _ (hpw ▸ h)
    · exact hpw ▸ h
  rw [entered]
  cases new with
  | active => exact hP.runWaiting woken
  | hibernate => exact hP.askWake woken
  | stall | waking => exact woken
  | _ => simp [Link.attached] at hn

theorem settle (hP : MoveCarried P) (h : P p.pw) : P (settle p).pw := by
  have waked : P (wakeIfPending p).pw := by
    unfold wakeIfPending
    split
    · simpa [enterWaking] using hP.enterLink (p := { p with bl := { p.bl.abandonMode with
        pendingWake := false, minHibTimer := none, lineOrder := some .wakeBreak } }) (.inr rfl) h
    · exact h
  have roused : P (rouseIfQueued (wakeIfPending p)).pw := by
    unfold rouseIfQueued
    split
    · exact hP.enterLink (.inl rfl) (by exact waked)
    · exact waked
  have hibernated : P (hibernateIfDue (rouseIfQueued (wakeIfPending p))).pw := by
    unfold hibernateIfDue
    split
    · simpa [enterHibernate_eq] using hP.enterLink (p := hibernating (rouseIfQueued (wakeIfPending p)))
        (.inl rfl) roused
    · exact roused
  simpa [Machine.settle, settleWith] using hibernated

end MoveCarried

namespace WalkerCarried

variable {P : Pw → Prop}

theorem runRequest (hP : WalkerCarried P) (r : Request) (hw : p.pw.walk = .none) (h : P p.pw) :
    P (runRequest r p).pw :=
  hP.runs { p with pw := { p.pw with current := some (r, .waiting) } } r hw rfl (hP.request _ _ h)

theorem waitRequest (hP : WalkerCarried P) (r : Request) (h : P p.pw) : P (waitRequest r p).pw :=
  hP.askWake (hP.request _ _ h)

theorem takeRequests (hP : WalkerCarried P) (rs : List Request) (h : P p.pw) : P (takeRequests rs p).pw := by
  induction rs generalizing p with
  | nil => exact h
  | cons r rs ih =>
    unfold Machine.takeRequests
    split
    · exact ih (by simpa using h)
    · split
      · exact ih (by simpa using h)
      · dsimp only
        split
        · next hl => exact hP.runRequest _ hl.2 h
        · exact hP.waitRequest _ h

theorem finishRequest (hP : WalkerCarried P) {f : Part → Part} (hf : ∀ q, (f q).pw = q.pw) (h : P p.pw) :
    P (finishRequest f p).pw := by
  have finished : P (f { p with pw := { p.pw with current := none } }).pw := by
    rw [hf]
    exact hP.request _ _ h
  unfold Machine.finishRequest takeNext
  split
  · exact finished
  · exact hP.takeRequests _ finished

theorem finishReload (hP : WalkerCarried P) (e : WalkEnd) (c : WalkCounts) (h : P p.pw) : P (finishReload e c p).pw := by
  unfold Machine.finishReload
  split
  · split
    · cases e with
      | complete | noReply | notAttached => exact hP.finishRequest (by simp) h
      | superseded => exact h
    · exact h
  · exact h

end WalkerCarried

/-! ### What the link's own moves leave -/

/-- No request waits that an entry into ACTIVE would run (R86). -/
def Steady (w : Pw) : Prop := w.walk = .none → ∀ r, w.current ≠ some (r, .waiting)

/-- What the link's own moves leave of a steady PW: all but the wake asked for. -/
theorem settle_pw (h : Steady p.pw) : ∃ b, (settle p).pw = { p.pw with wakeAsked := b } := by
  have carried : MoveCarried fun w => ∃ b, w = { p.pw with wakeAsked := b } :=
    { asked := by rintro _ b ⟨-, rfl⟩; exact ⟨b, rfl⟩
      runs := by
        rintro q r hw hc ⟨b, hb⟩
        rw [hb] at hw hc
        exact absurd hc (h hw r) }
  exact carried.settle ⟨p.pw.wakeAsked, rfl⟩

/-- The link's own moves complete no request and take none (R86). -/
theorem settle_rq (p : Part) : (settle p).rq = p.rq := by
  have waked : (wakeIfPending p).rq = p.rq := by
    unfold wakeIfPending
    split
    · exact (enterWaking_order p).2
    · rfl
  have roused : (rouseIfQueued (wakeIfPending p)).rq = p.rq := by
    unfold rouseIfQueued
    split
    · exact (enterLink_attached rfl _).2.trans waked
    · exact waked
  have hibernated : (hibernateIfDue (rouseIfQueued (wakeIfPending p))).rq = p.rq := by
    unfold hibernateIfDue
    split
    · simpa [enterHibernate_eq] using (enterLink_attached (new := .hibernate) rfl
        (hibernating (rouseIfQueued (wakeIfPending p)))).2.trans roused
    · exact roused
  simpa [settle, settleWith] using hibernated

/-- The counts of a walk are PW's own matter: no request and no move of the link changes them (R84). -/
theorem counts_carried (c : WalkCounts) : WalkerCarried fun w => w.counts = c where
  asked _ _ h := h
  request _ _ h := h
  runs p r _ _ h := by
    cases hr : r.isReload with
    | true => rw [runRequest_reload_pw hr, ← h]
    | false =>
      obtain ⟨b, hb⟩ := runRequest_attribute_pw hr p
      rw [hb, ← h]

/-- While a walk is under way no request runs, so all but the current request and the wake asked for stays as it is (R86). -/
theorem walking_carried {w₀ : Pw} (hw₀ : w₀.walk ≠ .none) :
    WalkerCarried fun w => ∃ b c, w = { w₀ with wakeAsked := b, current := c } where
  asked := by rintro _ b ⟨-, c, rfl⟩; exact ⟨b, c, rfl⟩
  request := by rintro _ c ⟨b, -, rfl⟩; exact ⟨b, c, rfl⟩
  runs := by
    rintro p r hw - ⟨b, c, hp⟩
    rw [hp] at hw
    exact absurd hw hw₀

/-! ### Requests taken one after another (R86) -/

theorem takeRequests_badArg {r : Request} (ha : r.isAttribute = true) (hb : attributeArgsOk r = false) (rs : List Request)
    (p : Part) : takeRequests (r :: rs) p = takeRequests rs (completeFailed r rcBadArg p) := by
  simp [takeRequests, ha, hb]

theorem takeRequests_dead {r : Request} (ha : r.isAttribute = true → attributeArgsOk r = true) (hl : p.bl.link.dead = true)
    (rs : List Request) : takeRequests (r :: rs) p = takeRequests rs (completeFailed r rcNotAttached p) := by
  have good : ¬ (r.isAttribute = true ∧ (!attributeArgsOk r) = true) := fun h => by simp [ha h.1] at h
  rw [takeRequests, if_neg good, if_pos hl]

/-- A request that neither fails nor finds the link without a base stays with PW: it runs or it waits. -/
theorem takeRequests_stays {r : Request} (ha : r.isAttribute = true → attributeArgsOk r = true) (hl : p.bl.link.dead = false)
    (rs : List Request) : takeRequests (r :: rs) p =
      if p.bl.link.live = true ∧ p.pw.walk = .none then runRequest r { p with rq := { p.rq with pw := rs } }
      else waitRequest r { p with rq := { p.rq with pw := rs } } := by
  have good : ¬ (r.isAttribute = true ∧ (!attributeArgsOk r) = true) := fun h => by simp [ha h.1] at h
  rw [takeRequests, if_neg good, if_neg (by simp [hl])]

/-- The completions in line stay in line while PW takes its requests (R86, R165). -/
theorem takeRequests_completions (rs : List Request) (p : Part) :
    p.rq.completions ⊆ (takeRequests rs p).rq.completions := by
  induction rs generalizing p with
  | nil => exact List.Subset.refl _
  | cons r rs ih =>
    have failed (code : Word) : p.rq.completions ⊆ (takeRequests rs (completeFailed r code p)).rq.completions :=
      List.Subset.trans (by simp) (ih (completeFailed r code p))
    unfold takeRequests
    split
    · exact failed _
    · split
      · exact failed _
      · dsimp only
        split
        · simp
        · simp

/-- A request of PW that completes stays completed as the next are taken (R86, R165). -/
theorem mem_finishRequest {c : Completion} {f : Part → Part} (h : ∀ q, c ∈ (f q).rq.completions) (p : Part) :
    c ∈ (finishRequest f p).rq.completions := by
  unfold finishRequest takeNext
  split
  · exact h _
  · exact takeRequests_completions _ _ (h _)

theorem mem_completeDone (r : Request) (code : Word) (data : List Word) (p : Part) :
    (⟨r.slot, true, code, resultData data⟩ : Completion) ∈ (completeDone r code data p).rq.completions := by
  simp

theorem mem_completeFailed (r : Request) (code : Word) (p : Part) :
    (⟨r.slot, false, code, resultData []⟩ : Completion) ∈ (completeFailed r code p).rq.completions := by
  simp

/-- A link that is neither live nor hibernating is asked for nothing as PW takes its requests (R86, R87). -/
theorem takeRequests_bl (rs : List Request) (hl : p.bl.link.live = false) (hh : p.bl.link ≠ .hibernate) :
    (takeRequests rs p).bl = p.bl := by
  induction rs generalizing p with
  | nil => rfl
  | cons r rs ih =>
    have failed (code : Word) : (takeRequests rs (completeFailed r code p)).bl = p.bl := by
      rw [ih (by simpa using hl) (by simpa using hh)]
      simp
    unfold takeRequests
    split
    · exact failed _
    · split
      · exact failed _
      · dsimp only
        rw [if_neg (by simp [hl])]
        exact askWake_bl hh

/-- With no base to be had no request stays with PW (R86). -/
theorem takeRequests_pw_dead (rs : List Request) (h : p.bl.link.dead = true) : (takeRequests rs p).pw = p.pw := by
  induction rs generalizing p with
  | nil => rfl
  | cons r rs ih =>
    have failed (code : Word) : (takeRequests rs (completeFailed r code p)).pw = p.pw := by
      rw [ih (by simpa using h)]
      simp
    unfold takeRequests
    split
    · exact failed _
    · exact failed _

/-! ### The transmitter and the queue (R59) -/

/-- A MODE that the link state permits stands in the queue, or is the exchange that the transmitter takes. -/
theorem Bl.pump_mode {b : Bl} {m : LinkMode} (d : Nat) (now : Time) (hm : b.qMode = some m) (hs : b.link.sendsMode = true) :
    (b.pump d now).qMode = some m ∨ (b.pump d now).exch = some (.mode m b.quiet) := by
  unfold Bl.pump
  split
  · exact .inl hm
  · split
    · exact .inl hm
    · exact .inl hm
    · split
      · exact .inl hm
      · exact .inl hm
      · simp [Bl.nextExchange, hm, hs, Bl.transmit]

/-- The exchange taken is the ATTR in the queue, or leaves it there. -/
theorem nextExchange_attr {b : Bl} {op : AttrOp} (ha : b.qAttr = some op) (hs : b.link.sendsAttr = true) :
    ∃ x b', b.nextExchange = some (x, b') ∧ (b'.qAttr = some op ∨ x = .attr op) := by
  unfold Bl.nextExchange
  split
  · exact ⟨_, _, rfl, .inl ha⟩
  · split
    · exact ⟨_, _, rfl, .inl ha⟩
    · simp [ha, hs]

/-- An ATTR that the link state permits stands in the queue, or is the exchange that the transmitter takes. -/
theorem Bl.pump_attr {b : Bl} {op : AttrOp} (d : Nat) (now : Time) (ha : b.qAttr = some op) (hs : b.link.sendsAttr = true) :
    (b.pump d now).qAttr = some op ∨ (b.pump d now).exch = some (.attr op) := by
  obtain ⟨x, b', hx, hq⟩ := nextExchange_attr ha hs
  unfold Bl.pump
  split
  · exact .inl ha
  · split
    · exact .inl ha
    · exact .inl ha
    · split
      · exact .inl ha
      · exact .inl ha
      · rw [hx]
        exact hq.imp id (congrArg some)

end Sys2Proof.Machine

/-! BASE_ATTRIBUTE and PROFILE_RELOAD (O30): they fail, run or wait, and the link's own moves leave what they set. -/

namespace Sys2Proof.Machine

variable {p : Part} {r : Request} {rs : List Request} {s : State}

/-! ### The command, and what a request is (R86) -/

/-- PW's command takes from its queue, and the link makes its own moves. -/
theorem takeProfileRequest_eq (hq : p.rq.pw = r :: rs) : takeProfileRequest p = settle (takeRequests (r :: rs) p) := by
  rw [takeProfileRequest, hq]

theorem exec_baseAttribute (hc : s.part.pw.current = none) (hq : s.part.rq.pw = r :: rs) (hk : r.kind = 4#16) :
    exec .baseAttribute s = .next (s.on takeProfileRequest) := by
  simp [exec, execBaseAttribute, profileRequestReady, headOf, Request.is, hc, hq, hk]

theorem exec_profileReload (hc : s.part.pw.current = none) (hq : s.part.rq.pw = r :: rs) (hk : r.kind = 6#16) :
    exec .profileReload s = .next (s.on takeProfileRequest) := by
  simp [exec, execProfileReload, profileRequestReady, headOf, Request.is, hc, hq, hk]

theorem attributeArgsOk_iff (r : Request) :
    attributeArgsOk r = true ↔ (r.arg 0 = 1 ∨ r.arg 0 = 2) ∧ r.arg 1 ≤ 4095 ∧ r.arg 2 ≤ 255 := by
  simp [attributeArgsOk, and_assoc]

theorem dead_iff (l : Link) : l.dead = true ↔ l ∈ [.detached, .refused, .fault] := by cases l <;> decide

theorem isReload_of_attribute (hk : r.kind = 4#16) : r.isReload = false := by simp [Request.isReload, hk]

theorem isReload_of_reload (hk : r.kind = 6#16) : r.isReload = true := by simp [Request.isReload, hk]

theorem isAttribute_of_reload (hk : r.kind = 6#16) : r.isAttribute = false := by simp [Request.isAttribute, hk]

/-! ### A request that fails (R86) -/

theorem takeProfileRequest_completed {code : Word} (hq : p.rq.pw = r :: rs)
    (hf : takeRequests (r :: rs) p = takeRequests rs (completeFailed r code p)) :
    (⟨r.slot, false, code, resultData []⟩ : Completion) ∈ (takeProfileRequest p).rq.completions := by
  rw [takeProfileRequest_eq hq, settle_rq, hf]
  exact takeRequests_completions _ _ (mem_completeFailed r code p)

/-! ### A request that runs (R88, R89) -/

/-- The head of PW's queue has left it. -/
def headTaken (rs : List Request) (p : Part) : Part := { p with rq := { p.rq with pw := rs } }

theorem takeProfileRequest_runs (hq : p.rq.pw = r :: rs) (ha : r.isAttribute = true → attributeArgsOk r = true)
    (hl : p.bl.link.live = true) (hw : p.pw.walk = .none) :
    takeProfileRequest p = settle (runRequest r (headTaken rs p)) := by
  have base : p.bl.link.dead = false := by cases h : p.bl.link <;> simp_all [Link.live, Link.dead]
  rw [takeProfileRequest_eq hq, takeRequests_stays ha base, if_pos ⟨hl, hw⟩]
  rfl

/-- A running request is none that an entry into ACTIVE would run. -/
theorem steady_runRequest (r : Request) (p : Part) : Steady (runRequest r p).pw := by
  intro _ r' hr'
  cases hr : r.isReload with
  | true => simp [runRequest_reload_pw hr] at hr'
  | false =>
    obtain ⟨b, hb⟩ := runRequest_attribute_pw hr p
    simp [hb] at hr'

/-- The reload walk starts with its snapshot, and the link's own moves leave it (R89). -/
theorem settle_reload_runs (hr : r.isReload = true) (p : Part) :
    (settle (runRequest r p)).pw.current = some (r, .running) ∧ (settle (runRequest r p)).pw.walk = .reload ∧
    (settle (runRequest r p)).pw.op = .snapshot := by
  obtain ⟨b, hb⟩ := settle_pw (steady_runRequest r p)
  rw [hb, runRequest_reload_pw hr]
  exact ⟨rfl, rfl, rfl⟩

/-- The ATTR that a BASE_ATTRIBUTE asks for (R88). -/
def attributeOp (r : Request) : AttrOp := ⟨decide (r.arg 0 = 2), BitVec.ofNat 12 (r.arg 1), BitVec.ofNat 8 (r.arg 2)⟩

theorem runRequest_attribute_bl (hr : r.isReload = false) (hh : p.bl.link ≠ .hibernate) :
    (runRequest r p).bl = { p.bl with qAttr := some (attributeOp r) } := by
  simp only [runRequest, hr, submit]
  exact askWake_bl hh

/-- A BASE_ATTRIBUTE runs with its ATTR in flight, and the link's own moves leave it (R88). -/
theorem settle_attribute_runs (hr : r.isReload = false) (p : Part) :
    (settle (runRequest r p)).pw.current = some (r, .running) ∧
    (settle (runRequest r p)).pw.inFlight = some .request := by
  obtain ⟨b, hb⟩ := settle_pw (steady_runRequest r p)
  obtain ⟨c, hc⟩ := runRequest_attribute_pw hr p
  rw [hb, hc]
  exact ⟨rfl, rfl⟩

theorem runWaiting_of_steady (h : Steady p.pw) : runWaiting p = p := by
  unfold runWaiting
  split
  · next r hc => exact if_neg fun hw => h hw r hc
  · rfl

theorem decideSuppression_qAttr (p : Part) : (decideSuppression p).bl.qAttr = p.bl.qAttr := by
  simp only [decideSuppression]
  split
  · rfl
  · simp [quietChanged]

/-- An entry into ACTIVE that runs no waiting request leaves the ATTR in the queue (R62). -/
theorem enterLink_active_qAttr (h : Steady p.pw) : (enterLink .active p).bl.qAttr = p.bl.qAttr := by
  let q := linkToldKeys p.bl.link .active { p with bl := p.bl.changeLink .active }
  have evaluated : (evaluatePosture q).bl.qAttr = p.bl.qAttr := by
    rw [(evaluatePosture_attached (by simp [q, Bl.changeLink, Link.attached])).2.1]
    exact (decideSuppression_qAttr _).trans (by simp [q])
  have steady : Steady (evaluatePosture q).pw := by simpa [q] using h
  simp only [enterLink, linkTold, linkToldProfile]
  split
  · rwa [runWaiting_of_steady (by exact steady)]
  · rwa [runWaiting_of_steady steady]

theorem leaveStall_qAttr (h : Steady p.pw) : (leaveStall p).bl.qAttr = p.bl.qAttr :=
  enterLink_active_qAttr (p := { p with bl := { p.bl with qMode := some .active } }) h

/-- A live link with an ATTR queued comes to ACTIVE, and the transmitter finds the ATTR there (R59, R67, R69). -/
theorem settle_of_attr {op : AttrOp} (hl : p.bl.link.live = true) (ha : p.bl.qAttr = some op) (hs : Steady p.pw) :
    (settle p).bl.link = .active ∧ ((settle p).bl.qAttr = some op ∨ (settle p).bl.exch = some (.attr op)) := by
  have still : wakeIfPending p = p := if_neg fun h => by simp [h.1, Link.live] at hl
  have roused : (rouseIfQueued p).bl.link = .active ∧ (rouseIfQueued p).bl.qAttr = some op := by
    unfold rouseIfQueued
    split
    · exact ⟨by simp [leaveStall], (leaveStall_qAttr hs).trans ha⟩
    · next hn =>
      rcases (live_iff _).mp hl with h | h
      · exact ⟨h, ha⟩
      · exact absurd ⟨h, .inr (by simp [ha])⟩ hn
  obtain ⟨link, attr⟩ := roused
  have awake : hibernateIfDue (rouseIfQueued p) = rouseIfQueued p := if_neg (by simp [Bl.attrOrQuery, attr])
  rw [settle, settleWith, still, awake]
  exact ⟨(pump_link ..).trans link, Bl.pump_attr _ _ attr (by rw [link]; rfl)⟩

/-! ### A request that waits (R86, R87) -/

theorem takeProfileRequest_waits (hq : p.rq.pw = r :: rs) (ha : r.isAttribute = true → attributeArgsOk r = true)
    (hd : p.bl.link.dead = false) (hn : ¬ (p.bl.link.live = true ∧ p.pw.walk = .none)) :
    takeProfileRequest p = settle (waitRequest r (headTaken rs p)) := by
  rw [takeProfileRequest_eq hq, takeRequests_stays ha hd, if_neg hn]
  rfl

/-- The wake of a link leaves of PW all but the wake asked for (R70, R87). -/
theorem enterLink_waking_pw (p : Part) : ∃ b, (enterLink .waking p).pw = { p.pw with wakeAsked := b } := by
  obtain ⟨q, hpw, -, entered⟩ := enterLink_walker .waking p
  rw [entered, ← hpw]
  unfold linkToldProfile
  dsimp only
  split
  · exact ⟨false, rfl⟩
  · exact ⟨q.pw.wakeAsked, rfl⟩

/-- In a state that is not live the link can only wake, which leaves of PW all but the wake asked for (R70, R87). -/
theorem settle_pw_not_live (h : p.bl.link.live = false) : ∃ b, (settle p).pw = { p.pw with wakeAsked := b } := by
  by_cases hh : p.bl.link = .hibernate
  · rw [settle_of_hibernate hh, (pump_frame ..).2.2.2.2.2.2.2.2.2.1]
    unfold wakeIfPending
    split
    · simpa [enterWaking] using enterLink_waking_pw { p with bl := { p.bl.abandonMode with
        pendingWake := false, minHibTimer := none, lineOrder := some .wakeBreak } }
    · exact ⟨p.pw.wakeAsked, rfl⟩
  · rw [settle_of_not_attached (by cases hl : p.bl.link <;> simp_all [Link.live, Link.attached])]
    exact ⟨p.pw.wakeAsked, by simp⟩

theorem settle_keeps_waiting (hn : ¬ (p.bl.link.live = true ∧ p.pw.walk = .none)) :
    (settle (waitRequest r p)).pw.current = some (r, .waiting) := by
  obtain ⟨b, hb⟩ := waitRequest_pw r p
  have kept : ∃ c, (settle (waitRequest r p)).pw = { (waitRequest r p).pw with wakeAsked := c } := by
    cases hl : p.bl.link.live with
    | true => exact settle_pw fun hw => absurd ⟨hl, by rwa [hb] at hw⟩ hn
    | false => exact settle_pw_not_live (by simpa using hl)
  obtain ⟨c, hc⟩ := kept
  rw [hc, hb]

/-- PW asks a hibernating link to wake, at once or once its minimum time has passed, unless it has asked already (R70, R87). -/
theorem settle_wakes (hl : p.bl.link = .hibernate) (ha : p.pw.wakeAsked = false) :
    (settle (waitRequest r p)).bl.link = .waking ∨ (settle (waitRequest r p)).bl.pendingWake = true := by
  have pending : (waitRequest r p).bl.pendingWake = true := by
    simp [waitRequest, askWake, wakeNeeded, orderWake, hl, ha]
  rw [settle_of_hibernate (by simpa using hl)]
  simp only [pump_link, pump_pendingWake]
  unfold wakeIfPending
  split
  · exact .inl (by simp [enterWaking])
  · exact .inr pending

/-! ### The obligation -/

/-- Settles O30: by the first of R86's tests that the request meets. -/
theorem profileRequests : Obligations.ProfileRequests := by
  simp only [Obligations.ProfileRequests, ← dead_iff, ← live_iff, Bool.not_eq_true]
  refine ⟨fun r rs s hc hq hk hb => ⟨_, exec_baseAttribute hc hq hk, ?_⟩,
    fun r rs s hc hq hk h0 h1 h2 hd => ⟨_, exec_baseAttribute hc hq hk, ?_⟩,
    fun r rs s hc hq hk h0 h1 h2 hl hw => ⟨_, exec_baseAttribute hc hq hk, ?_⟩,
    fun r rs s hc hq hk h0 h1 h2 hd hn => ⟨_, exec_baseAttribute hc hq hk, ?_⟩,
    fun r rs s hc hq hk => ⟨_, exec_profileReload hc hq hk, ?_⟩⟩
  · rw [← attributeArgsOk_iff, Bool.not_eq_true] at hb
    exact takeProfileRequest_completed hq (takeRequests_badArg (by simp [Request.isAttribute, hk]) hb rs _)
  · exact takeProfileRequest_completed hq
      (takeRequests_dead (fun _ => (attributeArgsOk_iff r).mpr ⟨h0, h1, h2⟩) hd rs)
  · have reload := isReload_of_attribute hk
    have bl := runRequest_attribute_bl (p := headTaken rs s.part) reload fun h => by
      simp [show s.part.bl.link = .hibernate from h, Link.live] at hl
    obtain ⟨current, inFlight⟩ := settle_attribute_runs reload (headTaken rs s.part)
    obtain ⟨link, attr⟩ := settle_of_attr (p := runRequest r (headTaken rs s.part)) (op := attributeOp r)
      (by simpa [headTaken] using hl) (by rw [bl]) (steady_runRequest r _)
    simp only [State.on_part, takeProfileRequest_runs hq (fun _ => (attributeArgsOk_iff r).mpr ⟨h0, h1, h2⟩) hl hw, settle_rq]
    exact ⟨current, inFlight, by simp [headTaken], link, attr⟩
  · simp only [State.on_part, takeProfileRequest_waits hq (fun _ => (attributeArgsOk_iff r).mpr ⟨h0, h1, h2⟩) hd hn, settle_rq]
    exact ⟨settle_keeps_waiting (p := headTaken rs s.part) hn, by simp [headTaken], settle_wakes (p := headTaken rs s.part)⟩
  · have good (h : r.isAttribute = true) : attributeArgsOk r = true := by simp [isAttribute_of_reload hk] at h
    refine ⟨fun hd => takeProfileRequest_completed hq (takeRequests_dead good hd rs), fun hl hw => ?_, fun hd hn => ?_⟩
    · simp only [State.on_part, takeProfileRequest_runs hq good hl hw, settle_rq]
      obtain ⟨current, walk, op⟩ := settle_reload_runs (isReload_of_reload hk) (headTaken rs s.part)
      exact ⟨current, walk, op, by simp [headTaken]⟩
    · simp only [State.on_part, takeProfileRequest_waits hq good hd hn, settle_rq]
      exact ⟨settle_keeps_waiting (p := headTaken rs s.part) hn, by simp [headTaken]⟩

end Sys2Proof.Machine

/-! The ends of PW's held operations, and a detach while one runs (O29): what each writes into XM, and the walk that it leaves. -/

namespace Sys2Proof.Machine

variable {p : Part} {s : State} {e : WalkEnd} {r : Request}

/-! ### The commands (R81, R84) -/

theorem exec_profileSnapshotEnd (ho : s.part.pw.op = .snapshot) (hw : s.part.resetWork = none) :
    exec .profileSnapshotEnd s = .next (finishSnapshot s) := by
  simp [exec, execProfileSnapshotEnd, ho, hw]

theorem exec_profileResultWriteEnd (ho : s.part.pw.op = .resultWrite) (he : s.part.pw.ending = some e)
    (hw : s.part.resetWork = none) : exec .profileResultWriteEnd s = .next (finishResultWrite e s) := by
  simp [exec, execProfileResultWriteEnd, ho, he, hw]

theorem finishSnapshot_part (s : State) :
    (finishSnapshot s).part = settle (snapshotTaken (profileEntries s.xm) s.part) := rfl

theorem finishSnapshot_xm (s : State) :
    (finishSnapshot s).xm = s.xm.writeAll resultBase (List.replicate 32 (word EntryResult.notRun.code)) := by
  simp only [finishSnapshot]

theorem finishResultWrite_part (e : WalkEnd) (s : State) :
    (finishResultWrite e s).part = settle (resultsWritten e s.part) := rfl

theorem finishResultWrite_xm (e : WalkEnd) (s : State) :
    (finishResultWrite e s).xm = s.xm.writeAll resultBase (resultWords s.part.pw.results) := by
  simp only [finishResultWrite]

/-! ### The result words (R81, R84) -/

/-- 32 words written as the results stand at the result words, and at no other word. -/
theorem read_resultWords {m : Memory} (hm : m.wf = true) {ws : List Word} (hl : ws.length = 32) :
    (∀ n, n < 32 → (m.writeAll resultBase ws).read (resultBase + n) = (ws[n]?).getD 0#16) ∧
    (∀ a, a < resultBase ∨ resultBase + 32 ≤ a → (m.writeAll resultBase ws).read a = m.read a) := by
  refine ⟨fun n hn => ?_, fun a ha => Memory.read_writeAll_other _ _ (by rwa [hl])⟩
  have cell : cellAddress (resultBase + n) = true := by
    simp only [cellAddress, resultBase, Bool.and_eq_true]
    exact ⟨decide_eq_true (by omega), decide_eq_true (by omega)⟩
  rw [Memory.read_writeAll hm _ _ (by rwa [hl]) cell, List.getElem?_eq_getElem (by rwa [hl]), Option.getD_some]

/-! ### The end of a snapshot (R81, R82, R85) -/

/-- A visit records results and submits an ATTR: the walk and its entries stay. -/
theorem visit_walk (es : List (Word × Word)) (p : Part) :
    (visit es p).pw.walk = p.pw.walk ∧ (visit es p).pw.snapshot = p.pw.snapshot := by
  have applied (id value : Nat) (p : Part) :
      (applyLink id value p).pw.walk = p.pw.walk ∧ (applyLink id value p).pw.snapshot = p.pw.snapshot := by
    unfold applyLink
    split <;> exact ⟨rfl, rfl⟩
  induction es generalizing p with
  | nil => simp [visit, startResultWrite]
  | cons e es ih =>
    unfold visit
    split
    · exact ih _
    · next id value _ => exact ⟨(ih _).1.trans (applied id value p).1, (ih _).2.trans (applied id value p).2⟩
    · next id value _ =>
      obtain ⟨b, hb⟩ := askWake_pw (joinAttr ⟨true, id, value⟩ { p with pw := { p.pw with inFlight := some .walkEntry } })
      rw [submit, hb]
      exact ⟨rfl, rfl⟩

/-- PW with the entries that its snapshot copied, before the first is visited (R81). -/
def entriesTaken (es : List (Word × Word)) (p : Part) : Part :=
  { p with pw := { p.pw with op := .idle, snapshot := some es, position := 0, results := freshResults } }

theorem snapshotTaken_going (h : p.pw.ending = none) (es : List (Word × Word)) :
    snapshotTaken es p = visit es (entriesTaken es p) := by
  simp [snapshotTaken, h, continueWalk, entriesTaken]

theorem snapshotTaken_ended (h : p.pw.ending = some e) (es : List (Word × Word)) :
    snapshotTaken es p =
      if e = .superseded ∧ p.pw.walk = .reload then startWaiting (entriesTaken es p)
      else startResultWrite e (entriesTaken es p) := by
  cases e <;> simp [snapshotTaken, h, entriesTaken]

theorem startResultWrite_pw (e : WalkEnd) (p : Part) :
    (startResultWrite e p).pw = { p.pw with op := .resultWrite, ending := some e } := by
  simp [startResultWrite]

theorem startWaiting_none (h : p.pw.waiting = []) : startWaiting p = p := by
  simp [startWaiting, h]

theorem startWaiting_pw {o : Option WalkEnd} {os : List (Option WalkEnd)} (h : p.pw.waiting = o :: os) :
    (startWaiting p).pw = { p.pw with walk := .attach, op := .snapshot, ending := o, waiting := os, snapshot := none } := by
  simp [startWaiting, h]

/-- While a walk is under way the link's own moves leave of PW all but the wake asked for (R86). -/
theorem settle_pw_walking (h : p.pw.walk ≠ .none) : ∃ b, (settle p).pw = { p.pw with wakeAsked := b } :=
  settle_pw fun hw => absurd hw h

theorem settle_snapshot_going (h : p.pw.ending = none) (hw : p.pw.walk ≠ .none) (es : List (Word × Word)) :
    (settle (snapshotTaken es p)).pw.snapshot = some es := by
  obtain ⟨walk, snapshot⟩ := visit_walk es (entriesTaken es p)
  rw [snapshotTaken_going h]
  obtain ⟨b, hb⟩ := settle_pw_walking (p := visit es (entriesTaken es p)) (by rw [walk]; exact hw)
  rw [hb]
  exact snapshot

/-- A reload walk that an attach walk replaces writes no results, and the oldest walk that waits begins (R81, R85). -/
theorem settle_snapshot_replaced (h : p.pw.ending = some .superseded) (hw : p.pw.walk = .reload) (es : List (Word × Word)) :
    (settle (snapshotTaken es p)).pw.op = (if p.pw.waiting = [] then .idle else .snapshot) ∧
    (settle (snapshotTaken es p)).pw.counts = p.pw.counts := by
  rw [snapshotTaken_ended h, if_pos ⟨rfl, hw⟩]
  cases ho : p.pw.waiting with
  | nil =>
    rw [startWaiting_none (p := entriesTaken es p) ho]
    obtain ⟨b, hb⟩ := settle_pw_walking (p := entriesTaken es p) (by simp [entriesTaken, hw])
    rw [hb]
    exact ⟨rfl, rfl⟩
  | cons o os =>
    have begun := startWaiting_pw (p := entriesTaken es p) ho
    obtain ⟨b, hb⟩ := settle_pw_walking (p := startWaiting (entriesTaken es p)) (by simp [begun])
    rw [hb, begun]
    exact ⟨rfl, rfl⟩

/-- Any other walk that has ended during its snapshot goes on to write 32 NOT_RUN results (R84, R85). -/
theorem settle_snapshot_ended (h : p.pw.ending = some e) (hw : p.pw.walk ≠ .none)
    (hn : ¬ (e = .superseded ∧ p.pw.walk = .reload)) (es : List (Word × Word)) :
    (settle (snapshotTaken es p)).pw.op = .resultWrite ∧ (settle (snapshotTaken es p)).pw.ending = some e ∧
    (settle (snapshotTaken es p)).pw.results = List.replicate 32 .notRun ∧
    (settle (snapshotTaken es p)).pw.waiting = p.pw.waiting := by
  have ended := startResultWrite_pw e (entriesTaken es p)
  rw [snapshotTaken_ended h, if_neg hn]
  obtain ⟨b, hb⟩ := settle_pw_walking (p := startResultWrite e (entriesTaken es p)) (by rw [ended]; exact hw)
  rw [hb, ended]
  exact ⟨rfl, rfl, rfl, rfl⟩

/-! ### The end of a result write (R84, R85, R89) -/

/-- The part after the counts, BASE and the report, with the next walk begun, before a reload request hears of the end (R84, R85,
log entry 39). -/
def walkDone (e : WalkEnd) (p : Part) : Part :=
  let q := reportComplete e p.pw.walk p.pw.waiting
    (offerBase .profileDone { p with pw := { p.pw with counts := countResults p.pw.results } })
  startWaiting { q with pw := { q.pw with walk := .none, op := .idle, ending := none, snapshot := none } }

theorem resultsWritten_eq (e : WalkEnd) (p : Part) :
    resultsWritten e p = resultsWritten.runIfLive (finishReload e (countResults p.pw.results) (walkDone e p)) := rfl

/-- The next walk, or none, and the counts of the one that has ended. -/
theorem walkDone_pw (e : WalkEnd) (p : Part) :
    (walkDone e p).pw = match p.pw.waiting with
      | [] => { p.pw with
          walk := .none, op := .idle, ending := none, snapshot := none, counts := countResults p.pw.results }
      | o :: os => { p.pw with
          walk := .attach, op := .snapshot, ending := o, waiting := os, snapshot := none
          counts := countResults p.pw.results } := by
  unfold walkDone
  cases h : p.pw.waiting <;> simp [startWaiting, h]

theorem walkDone_current (e : WalkEnd) (p : Part) : (walkDone e p).pw.current = p.pw.current := by
  rw [walkDone_pw]
  cases p.pw.waiting <;> rfl

theorem walkDone_counts (e : WalkEnd) (p : Part) : (walkDone e p).pw.counts = countResults p.pw.results := by
  rw [walkDone_pw]
  cases p.pw.waiting <;> rfl

/-- What survives PW's requests survives from the walk's end on. -/
theorem WalkerCarried.settle_resultsWritten {P : Pw → Prop} (hP : WalkerCarried P) (h : P (walkDone e p).pw) :
    P (settle (resultsWritten e p)).pw := by
  have finished := hP.finishReload e (countResults p.pw.results) h
  rw [resultsWritten_eq]
  refine hP.settle ?_
  unfold resultsWritten.runIfLive
  split
  · exact hP.runWaiting finished
  · exact finished

/-- An attach walk that has waited begins its snapshot with the end that it has met (R85, log entry 38). -/
theorem settle_resultsWritten_waiting {o : Option WalkEnd} {os : List (Option WalkEnd)} (h : p.pw.waiting = o :: os) :
    (settle (resultsWritten e p)).pw.op = .snapshot ∧ (settle (resultsWritten e p)).pw.walk = .attach ∧
    (settle (resultsWritten e p)).pw.ending = o ∧ (settle (resultsWritten e p)).pw.waiting = os := by
  have begun := walkDone_pw e p
  rw [h] at begun
  have walking : (walkDone e p).pw.walk ≠ .none := by simp [begun]
  obtain ⟨b, c, hbc⟩ := (walking_carried walking).settle_resultsWritten (e := e) (p := p) ⟨_, _, rfl⟩
  rw [hbc, begun]
  exact ⟨rfl, rfl, rfl, rfl⟩

/-- Once the reload request has heard of the end, nothing more completes (R86, R89). -/
theorem settle_resultsWritten_rq (e : WalkEnd) (p : Part) :
    (settle (resultsWritten e p)).rq = (finishReload e (countResults p.pw.results) (walkDone e p)).rq := by
  rw [settle_rq, resultsWritten_eq]
  simp

/-- A running reload request ends with its walk: DONE with the counts, or FAILED by the walk's end (R89). -/
theorem finishReload_running (hc : p.pw.current = some (r, .running)) (hr : r.isReload = true) (c : WalkCounts) :
    finishReload .complete c p =
      finishRequest (completeDone r rcOk [word c.succeeded, word c.errored, word c.notRun]) p ∧
    finishReload .noReply c p = finishRequest (completeFailed r rcNoReply) p ∧
    finishReload .notAttached c p = finishRequest (completeFailed r rcNotAttached) p := by
  simp [finishReload, hc, hr]

/-! ### MODE ACTIVE after a complete attach walk (R65, R84) -/

/-- The end of a reload request reaches the line of a live or hibernating link alone (R86, R87). -/
theorem finishReload_bl (c : WalkCounts) (hl : p.bl.link.live = false) (hh : p.bl.link ≠ .hibernate) :
    (finishReload e c p).bl = p.bl := by
  have finished {f : Part → Part} (hf : ∀ q, (f q).bl = q.bl) : (finishRequest f p).bl = p.bl := by
    have done : (f { p with pw := { p.pw with current := none } }).bl = p.bl := hf _
    unfold finishRequest takeNext
    split
    · exact done
    · rw [takeRequests_bl _ (by rwa [done]) (by rwa [done]), done]
  unfold finishReload
  split
  · split
    · cases e with
      | complete | noReply | notAttached => exact finished (by simp)
      | superseded => rfl
    · rfl
  · rfl

theorem walkDone_bl (h : p.pw.walk = .attach) (hw : p.pw.waiting = []) (hl : p.bl.link = .profiling) :
    (walkDone .complete p).bl = { p.bl with qMode := some .active } := by
  simp [walkDone, reportComplete, h, hw, hl]

theorem resultsWritten_bl (h : p.pw.walk = .attach) (hw : p.pw.waiting = []) (hl : p.bl.link = .profiling) :
    (resultsWritten .complete p).bl = { p.bl with qMode := some .active } := by
  have done := walkDone_bl h hw hl
  have finished : (finishReload .complete (countResults p.pw.results) (walkDone .complete p)).bl =
      { p.bl with qMode := some .active } := by
    rw [finishReload_bl _ (by simp [done, hl, Link.live]) (by simp [done, hl]), done]
  rw [resultsWritten_eq, resultsWritten.runIfLive, if_neg (by simp [finished, hl, Link.live]), finished]

theorem settle_resultsWritten_mode (h : p.pw.walk = .attach) (hw : p.pw.waiting = []) (hl : p.bl.link = .profiling) :
    (settle (resultsWritten .complete p)).bl.qMode = some .active ∨
    (settle (resultsWritten .complete p)).bl.exch =
      some (.mode .active (settle (resultsWritten .complete p)).bl.quiet) := by
  have reported := resultsWritten_bl h hw hl
  rw [settle_of_not_attached (by simp [reported, hl, Link.attached]), pump_quiet]
  exact Bl.pump_mode _ _ (by rw [reported]) (by simp [reported, hl, Link.sendsMode])

/-! ### A detach during a held operation (R73, R85) -/

theorem endNewest_append (e : WalkEnd) (os : List (Option WalkEnd)) : endNewest e (os ++ [none]) = os ++ [some e] := by
  induction os with
  | nil => rfl
  | cons o os ih => cases os <;> simp_all [endNewest]

/-- An abandoned ATTR leaves PW's walks (R83, R88). -/
theorem abandonedTold_pw (gone : Bool) (p : Part) :
    ∃ f c, (abandonedTold gone p).pw = { p.pw with inFlight := f, current := c } := by
  unfold abandonedTold
  dsimp only
  split
  · split
    · exact ⟨none, none, by simp⟩
    · exact ⟨none, _, rfl⟩
  · exact ⟨none, p.pw.current, rfl⟩

theorem emptyQueue_pw (gone : Bool) (p : Part) : ∃ f c, (emptyQueue gone p).pw = { p.pw with inFlight := f, current := c } := by
  refine holds_ite (P := fun q => ∃ f c, q.pw = { p.pw with inFlight := f, current := c }) ?_ ⟨_, _, rfl⟩
  exact abandonedTold_pw gone _

/-- With no base to be had PW's current request may fail, and no other stays (R86). -/
theorem failRequest_pw (h : p.bl.link.dead = true) : ∃ c, (failRequest p).pw = { p.pw with current := c } := by
  have next {q : Part} (hq : q.bl = p.bl) : (takeNext q).pw = q.pw := by
    unfold takeNext
    split
    · rfl
    · exact takeRequests_pw_dead _ (by rwa [hq])
  unfold failRequest finishRequest
  split
  · exact ⟨none, by rw [next (by simp)]; simp⟩
  · split
    · exact ⟨none, by rw [next (by simp)]; simp⟩
    · exact ⟨p.pw.current, rfl⟩
  · exact ⟨p.pw.current, next rfl⟩

/-- The walk under way in a held operation goes on, and the newest of those that wait ends (R85). -/
theorem endWalk_waiting {os : List (Option WalkEnd)} (ho : p.pw.op ≠ .idle) (hw : p.pw.waiting = os ++ [none]) :
    (endWalk p).pw = { p.pw with waiting := os ++ [some .notAttached] } ∧ (endWalk p).bl = p.bl := by
  have ended : p.pw.endWalk .notAttached = { p.pw with waiting := os ++ [some .notAttached] } := by
    unfold Pw.endWalk
    split
    · next h => simp [hw] at h
    · rw [hw, endNewest_append]
  unfold endWalk
  split
  · exact absurd ‹_› ho
  · exact absurd ‹_› ho
  · exact ⟨ended, rfl⟩

theorem enterLink_detached_walks {os : List (Option WalkEnd)} (ho : p.pw.op ≠ .idle) (hw : p.pw.waiting = os ++ [none]) :
    (enterLink .detached p).pw.op = p.pw.op ∧ (enterLink .detached p).pw.walk = p.pw.walk ∧
    (enterLink .detached p).pw.waiting = os ++ [some .notAttached] := by
  obtain ⟨q, hpw, hlink, entered⟩ := enterLink_walker .detached p
  have gone {w : Part} (hop : w.pw.op = p.pw.op) (hwalk : w.pw.walk = p.pw.walk) (hwait : w.pw.waiting = p.pw.waiting)
      (hl : w.bl.link = .detached) : (failRequest (endWalk w)).pw.op = p.pw.op ∧
        (failRequest (endWalk w)).pw.walk = p.pw.walk ∧
        (failRequest (endWalk w)).pw.waiting = os ++ [some .notAttached] := by
    obtain ⟨ended, line⟩ := endWalk_waiting (p := w) (by rwa [hop]) (hwait.trans hw)
    obtain ⟨c, failed⟩ := failRequest_pw (p := endWalk w) (by rw [line, hl]; rfl)
    rw [failed, ended]
    exact ⟨hop, hwalk, rfl⟩
  rw [entered]
  unfold linkToldProfile
  dsimp only
  split
  · exact gone (by simp [hpw]) (by simp [hpw]) (by simp [hpw]) hlink
  · exact gone (by rw [hpw]) (by rw [hpw]) (by rw [hpw]) hlink

/-- A detach during a held operation ends the newest of the walks that wait, and leaves the one under way (R85). -/
theorem enterDetached_walks {os : List (Option WalkEnd)} (ho : p.pw.op ≠ .idle) (hw : p.pw.waiting = os ++ [none]) :
    (enterDetached p).pw.op = p.pw.op ∧ (enterDetached p).pw.walk = p.pw.walk ∧
    (enterDetached p).pw.waiting = os ++ [some .notAttached] := by
  let q := setReservation 0 { emptyQueue true (clearLinkFault p) with
    bl := { (emptyQueue true (clearLinkFault p)).bl.cancelTimers with
      expSeq := none, ovReply := none, ovStall := none, ident := none, status := none } }
  have emptied : ∃ f c, q.pw = { p.pw with inFlight := f, current := c } := by
    obtain ⟨f, c, h⟩ := emptyQueue_pw true (clearLinkFault p)
    exact ⟨f, c, by simp [q, h]⟩
  obtain ⟨f, c, hq⟩ := emptied
  have left := enterLink_detached_walks (p := q) (os := os) (by rwa [hq]) (by rwa [hq])
  rw [hq] at left
  simp only [enterDetached, offerBase_frame]
  exact left

/-- With a base gone the link makes no move, and PW stays as it is (R67 to R70). -/
theorem settle_gone_pw (h : p.bl.Gone) : (settle p).pw = p.pw := by
  rw [settle_silent (by rw [h.1.1]; rfl)]

theorem debounceExpired_gone (ha : filteredActive p.sl.inForce .bpres p.inp.bpres.level = false) (hl : p.bl.link ≠ .detached) :
    (debounceExpired .bpres p).pw = (enterDetached (debouncedTaken .bpres p)).pw := by
  have gone := enterDetached_gone (debouncedTaken .bpres p)
  have detached : debounceExpired .bpres p = settle (settle (enterDetached (debouncedTaken .bpres p))) := by
    simp [debounceExpired_eq, debouncedChange, presenceTold, PerInput.get, ha, debouncedTaken_frame, hl]
  rw [detached, settle_gone_pw (settle_gone gone), settle_gone_pw gone]

/-! ### The obligation -/

/-- Settles O29: by the operation that ends, by the end that the walk has met, and by the walk that waits. -/
theorem profileHeldOperations : Obligations.ProfileHeldOperations := by
  refine ⟨fun s ho hw hm => ⟨_, exec_profileSnapshotEnd ho hw, ?_⟩,
    fun e s ho he hw hm hl => ⟨_, exec_profileResultWriteEnd ho he hw, ?_⟩,
    fun e r s ho he hw hc hk => ⟨_, exec_profileResultWriteEnd ho he hw, ?_⟩,
    fun e s ho he hw hn => ⟨_, exec_profileSnapshotEnd ho hw, ?_⟩,
    fun e o os s ho he hw hos => ⟨_, exec_profileResultWriteEnd ho he hw, ?_⟩,
    fun os s ho hos hd ha hl => ⟨_, exec_debounceExpiry (k := .bpres) hd, ?_⟩⟩
  · obtain ⟨written, others⟩ := read_resultWords hm (ws := List.replicate 32 (word EntryResult.notRun.code)) rfl
    simp only [finishSnapshot_part, finishSnapshot_xm]
    refine ⟨fun n hn => ?_, others, fun he hwalk => settle_snapshot_going he hwalk _⟩
    rw [written n hn, List.getElem?_replicate, if_pos hn]
    rfl
  · obtain ⟨written, others⟩ := read_resultWords hm (ws := resultWords s.part.pw.results) (by simp [resultWords, hl])
    simp only [finishResultWrite_part, finishResultWrite_xm]
    refine ⟨fun n hn => ?_, others, (counts_carried _).settle_resultsWritten (walkDone_counts e s.part), ?_⟩
    · rw [written n hn, resultWords, List.getElem?_map, List.getElem?_eq_getElem (by rwa [hl])]
      rfl
    · rintro rfl hwalk hwait hlink
      exact settle_resultsWritten_mode hwalk hwait hlink
  · have current : (walkDone e s.part).pw.current = some (r, .running) := (walkDone_current e s.part).trans hc
    obtain ⟨done, noReply, gone⟩ :=
      finishReload_running current (isReload_of_reload hk) (countResults s.part.pw.results)
    simp only [CompletedWith, finishResultWrite_part, settle_resultsWritten_rq]
    refine ⟨?_, ?_, ?_⟩
    · rintro rfl
      exact done ▸ mem_finishRequest (mem_completeDone r _ _) _
    · rintro rfl
      exact noReply ▸ mem_finishRequest (mem_completeFailed r _) _
    · rintro rfl
      exact gone ▸ mem_finishRequest (mem_completeFailed r _) _
  · simp only [finishSnapshot_part]
    split
    · next h =>
      obtain ⟨rfl, hwalk⟩ := h
      exact settle_snapshot_replaced he hwalk _
    · next h => exact settle_snapshot_ended he hn h _
  · simp only [finishResultWrite_part]
    exact settle_resultsWritten_waiting hos
  · simp only [State.on_part, debounceExpired_gone ha hl]
    exact enterDetached_walks (p := debouncedTaken .bpres s.part) ho hos

end Sys2Proof.Machine

/-! The charge limits through CC's and PN's own operations (O50, O59): the setpoint never rises but where a window ends, and
keeps under every limit there too. -/

namespace Sys2Proof.Machine

variable {n : Nat} {p q : Part}

/-! ### The limits (R116, R123, R127, R128) -/

/-- The setpoint is at most n, and above 0 only in PRECHARGE and CHARGING outside a window and the contact guard; no window runs
under the guard (R116, R128). -/
def Placed (n : Nat) (p : Part) : Prop :=
  p.cc.setpoint ≤ n ∧
  (0 < p.cc.setpoint →
    (p.cc.session = .precharge ∨ p.cc.session = .charging) ∧ p.pn.phase = .idle ∧ p.cc.guard = none) ∧
  (p.cc.guard ≠ none → p.pn.phase = .idle)

/-- The budget limit is that of B and the reservation, and the setpoint keeps under it, under 500 and under the thermal limit
(R123, R127). -/
def Limited (p : Part) : Prop :=
  p.cc.budgetLimit = budgetLimitOf p.cc.budget p.cc.reservation ∧
  p.cc.setpoint ≤ p.cc.budgetLimit ∧ p.cc.setpoint ≤ minLimit 500 p.cc.thermalLimit

/-- The charge limits with n in the place of the ceiling. -/
def Capped (n : Nat) (p : Part) : Prop := Placed n p ∧ Limited p

theorem chargeInv_iff : ChargeInv p ↔ Capped p.sl.inForce.ceiling p := by
  simp only [ChargeInv, Capped, Placed, Limited]
  tauto

theorem Capped.le (h : Capped n p) : p.cc.setpoint ≤ n := h.1.1

theorem Capped.limit (h : Capped n p) : p.cc.budgetLimit = budgetLimitOf p.cc.budget p.cc.reservation := h.2.1

theorem Placed.idle_of_guard (h : Placed n p) (hg : p.cc.guard ≠ none) : p.pn.phase = .idle := h.2.2 hg

theorem Placed.mono {m : Nat} (h : Placed n p) (hm : p.cc.setpoint ≤ m) : Placed m p := ⟨hm, h.2⟩

theorem Capped.mono {m : Nat} (h : Capped n p) (hm : p.cc.setpoint ≤ m) : Capped m p := ⟨h.1.mono hm, h.2⟩

/-- In a window the setpoint is 0 and the guard is off (R116, R128). -/
theorem Placed.of_window (h : Placed n p) (hw : p.pn.phase ≠ .idle) : p.cc.setpoint = 0 ∧ p.cc.guard = none := by
  obtain ⟨-, place, guarded⟩ := h
  refine ⟨?_, by_contra fun hg => hw (guarded hg)⟩
  by_contra h0
  exact hw (place (by omega)).2.1

/-- What leaves CC and PN keeps the limits. -/
theorem Capped.congr (h : Capped n p) (hq : q.cc = p.cc ∧ q.pn = p.pn) : Capped n q := by
  simpa only [Capped, Placed, Limited, hq] using h

/-- A setpoint of 0 keeps under every limit. -/
theorem Capped.of_zero (hl : p.cc.budgetLimit = budgetLimitOf p.cc.budget p.cc.reservation) (h0 : p.cc.setpoint = 0)
    (hg : p.cc.guard ≠ none → p.pn.phase = .idle) : Capped n p := by
  refine ⟨⟨?_, ?_, hg⟩, hl, ?_, ?_⟩ <;> simp [h0]

/-! ### Reductions and pause causes (R114, R127) -/

theorem ceilingBound_eq (p : Part) : ceilingBound p = min p.sl.inForce.ceiling (minLimit 500 p.cc.thermalLimit) := by
  unfold ceilingBound
  cases p.cc.thermalLimit <;> simp only [minLimit] <;> omega

/-- A reduction brings a setpoint that stands in its place under every limit in force (R127). -/
theorem Placed.reduce (h : Placed n p) (hl : p.cc.budgetLimit = budgetLimitOf p.cc.budget p.cc.reservation) :
    Capped (min n p.sl.inForce.ceiling) (reduce p) := by
  have le := reduce_setpoint_le p
  have bound := reduce_setpoint_bound p
  rw [ceilingBound_eq] at bound
  obtain ⟨hn, place, guarded⟩ := h
  simp only [Capped, Placed, Limited, reduce_frame]
  rw [reduce_cc]
  refine ⟨⟨?_, fun h0 => place (Nat.lt_of_lt_of_le h0 le), guarded⟩, hl, ?_, ?_⟩ <;> dsimp only <;> omega

theorem Capped.enterPaused (h : Capped n p) (hi : p.pn.phase = .idle) : Capped n (enterPaused p) :=
  .of_zero h.limit rfl fun _ => hi

theorem Capped.reactToCauses (h : Capped n p) : Capped n (reactToCauses p) := by
  rcases reactToCauses_cases p with e | ⟨e, -, hi, -⟩ <;> rw [e]
  · exact h
  · exact h.enterPaused hi

/-- The limits brought up to date bind the setpoint again, whatever has changed of them (R123, R127, R129). -/
theorem Placed.relimit (h : Placed n p) (thermalSet : Bool) :
    Capped (min n p.sl.inForce.ceiling) (relimit thermalSet p) := by
  have reduced : Capped (min n p.sl.inForce.ceiling) (Machine.reduce
      { p with cc := { p.cc with budgetLimit := budgetLimitOf p.cc.budget p.cc.reservation } }) :=
    Placed.reduce (p := { p with cc := { p.cc with budgetLimit := budgetLimitOf p.cc.budget p.cc.reservation } }) h rfl
  rcases relimit_cases thermalSet p with ⟨e, -⟩ | ⟨e, -⟩ <;> rw [e]
  · exact reduced
  · exact reduced.reactToCauses

/-- The offers of a moment leave the limits (R120, R135). -/
theorem Capped.moment {f : Part → Part} (h : Capped n (f p)) : Capped n (moment f p) := by
  obtain ⟨m, k, hcc⟩ := moment_cc f p
  simpa only [Capped, Placed, Limited, hcc, moment_frame] using h

/-! ### Windows and the session (R103, R111, R112, R116) -/

theorem Capped.startWindow (h : Capped n p) (hg : p.cc.guard = none) : Capped n (startWindow p) :=
  .of_zero h.limit rfl fun hn => absurd hg hn

theorem Capped.startOrDue (h : Capped n p) : Capped n (startOrDue p) := by
  rcases startOrDue_cases p with ⟨hg, e⟩ | ⟨-, e⟩ <;> rw [e]
  · exact h.startWindow hg
  · exact h

/-- The session is in WAKING, before its first window (R111). -/
def wakingBegun (p : Part) : Part :=
  { p with cc := { p.cc with session := .waking, stateTimer := none, windowTimer := none, wakingWindows := 0 } }

theorem enterWakingSession_eq (p : Part) : enterWakingSession p = startOrDue (wakingBegun p) := rfl

/-- An entry into WAKING leaves no setpoint: a window starts, or the guard has cut it (R111, R116). -/
theorem Capped.enterWakingSession (h : Capped n p) : Capped n (enterWakingSession p) := by
  rw [enterWakingSession_eq]
  rcases startOrDue_cases (wakingBegun p) with ⟨hg, e⟩ | ⟨hg, e⟩ <;> rw [e]
  · exact .of_zero h.limit rfl fun hn => absurd hg hn
  · refine .of_zero h.limit ?_ fun _ => h.1.idle_of_guard hg
    by_contra h0
    exact hg (h.1.2.1 (Nat.pos_of_ne_zero h0)).2.2

theorem Capped.offer (h : Capped n p) (o : Offer) : Capped n (offer o p) := h.congr (by simp)

theorem Capped.enterSilent (h : Capped n p) : Capped n (enterSilent p) := by
  refine Capped.offer ?_ _
  exact .of_zero h.limit rfl h.1.2.2

theorem grantFor_le (c : Settings) (asked : Nat) (thermal : Option Nat) (b : Nat) :
    grantFor c asked thermal (some b) ≤ min (min c.ceiling (minLimit asked thermal)) b := by
  refine (trimCurrent_le _).trans ?_
  cases thermal <;> simp only [minLimit] <;> omega

theorem budgetLimitOf_le (b r : Nat) : budgetLimitOf b r ≤ 500 := Nat.min_le_left ..

/-- The precharge grant keeps under every limit (R112, R126). -/
theorem Capped.enterPrecharge (h : Capped n p) (hi : p.pn.phase = .idle) (hg : p.cc.guard = none) :
    Capped p.sl.inForce.ceiling (enterPrecharge p) := by
  have bound := grantFor_le p.sl.inForce p.sl.inForce.prechargeCurrent p.cc.thermalLimit p.cc.budgetLimit
  have most : p.cc.budgetLimit ≤ 500 := h.limit ▸ budgetLimitOf_le ..
  refine Capped.reactToCauses ⟨⟨?_, fun _ => ⟨.inl rfl, hi, hg⟩, fun _ => hi⟩, h.limit, ?_, ?_⟩ <;> dsimp only
  · omega
  · omega
  · revert bound
    cases p.cc.thermalLimit <;> simp only [minLimit] <;> omega

/-! ### The ends of a window (R106, R107, R131) -/

/-- What a failed window restores keeps under every limit (R107). -/
theorem Capped.restoreSetpoint (h : Capped n p) (hi : p.pn.phase = .idle) (hg : p.cc.guard = none) :
    Capped p.sl.inForce.ceiling (restoreSetpoint p) := by
  have restored (hs : p.cc.session = .precharge ∨ p.cc.session = .charging) :
      Capped p.sl.inForce.ceiling (Machine.reduce { p with cc := { p.cc with setpoint := p.pn.restore } }) := by
    have placed : Placed p.pn.restore { p with cc := { p.cc with setpoint := p.pn.restore } } :=
      ⟨le_rfl, fun _ => ⟨hs, hi, hg⟩, fun _ => hi⟩
    have reduced := placed.reduce h.limit
    exact reduced.mono (reduced.le.trans (Nat.min_le_right ..))
  unfold Machine.restoreSetpoint
  split
  · exact restored (.inl ‹_›)
  · exact restored (.inr ‹_›)
  · exact .of_zero h.limit rfl fun _ => hi

theorem Capped.countedFailure (h : Capped n p) : Capped n (countedFailure p) := by
  unfold Machine.countedFailure
  dsimp only
  split
  · exact Capped.enterSilent h
  · exact Capped.reactToCauses h

/-- What a failed window restores changes of CC the setpoint and the causes alone (R107). -/
theorem restoreSetpoint_cc (p : Part) :
    (restoreSetpoint p).cc =
      { p.cc with setpoint := (restoreSetpoint p).cc.setpoint, causes := (restoreSetpoint p).cc.causes } := by
  unfold restoreSetpoint
  split
  · exact reduce_cc _
  · exact reduce_cc _
  · rfl

/-- A failed window ends under every limit (R107, R111). -/
theorem Capped.failWindow (h : Capped n p) (hw : p.pn.phase ≠ .idle) (k : WindowFailure) :
    Capped p.sl.inForce.ceiling (failWindow k p) := by
  obtain ⟨zero, off⟩ := h.1.of_window hw
  have counted : Capped n { p with pn := countFailure k p.pn } := .of_zero h.limit zero fun _ => rfl
  have restored := counted.restoreSetpoint rfl off
  have idle : (Machine.restoreSetpoint { p with pn := countFailure k p.pn }).pn.phase = .idle := by
    rw [(restoreSetpoint_frame _).2.2.2.2.2.2.2.2.2.2.2.2.1]
    rfl
  have guard : (Machine.restoreSetpoint { p with pn := countFailure k p.pn }).cc.guard = none := by
    rw [restoreSetpoint_cc]
    exact off
  unfold Machine.failWindow
  dsimp only
  split
  · unfold wakingFailed
    split
    · exact restored
    · split
      · simpa using restored.enterPrecharge idle guard
      · exact restored.enterSilent
  iterate 3 exact restored.countedFailure
  · exact restored.reactToCauses
  · exact restored

/-- The session has its outcome and the setpoint the granted current, before the limits in force act (R106, R113). -/
def windowEnded (st : Session) (p : Part) : Part :=
  { p with
    pn := { p.pn with phase := .idle, failures := 0, outcome := none, granted := 0 }
    cc := { p.cc with
      session := st, stateTimer := none
      windowTimer := some ⟨p.tb, if st = .topped then p.sl.inForce.toppedPeriod else p.sl.inForce.chargePeriod⟩
      setpoint := if st = .charging then p.pn.granted else 0 } }

theorem endWindow_eq (st : Session) (p : Part) : endWindow st p = reactToCauses (reduce (windowEnded st p)) := by
  cases st <;> rfl

/-- The window of an accepted REPORT ends under every limit (R106, R128). -/
theorem Capped.endWindow (h : Capped n p) (hw : p.pn.phase ≠ .idle) (st : Session) :
    Capped p.sl.inForce.ceiling (endWindow st p) := by
  have off := (h.1.of_window hw).2
  rw [endWindow_eq]
  refine Capped.reactToCauses ?_
  have charging (h0 : 0 < (windowEnded st p).cc.setpoint) : st = .charging := by
    by_contra hst
    simp [windowEnded, hst] at h0
  have placed : Placed (windowEnded st p).cc.setpoint (windowEnded st p) :=
    ⟨le_rfl, fun h0 => ⟨.inr (charging h0), rfl, off⟩, fun _ => rfl⟩
  have reduced := placed.reduce h.limit
  exact reduced.mono (reduced.le.trans (Nat.min_le_right ..))

/-- A charge fault leaves no setpoint (R131). -/
theorem Capped.takeChargeFault (h : Capped n p) (k : ChargeFault) : Capped n (takeChargeFault k p) := by
  unfold Machine.takeChargeFault judgeFault
  dsimp only
  split
  · exact .of_zero h.limit rfl fun _ => rfl
  · split
    all_goals
      refine Capped.offer ?_ _
      exact .of_zero h.limit rfl fun _ => rfl

theorem Capped.offerCharge (h : Capped n p) : Capped n (offerCharge p) := by
  have read : Capped n (readCurrent p) := holds_ite h h
  exact read.offer _

theorem Capped.offerFault (h : Capped n p) (before : Part) (m : Option Nat) : Capped n (offerFault before m p) := by
  have offered : Capped n (if penKey p ≠ penKey before then offerPen p else p) := holds_ite (h.offer _) h
  unfold Machine.offerFault
  dsimp only
  split
  · refine Capped.offer ?_ _
    exact offered
  · exact offered.offerCharge

theorem Capped.endFaultWindow (h : Capped n p) : Capped n (endFaultWindow p) :=
  .offerFault (Capped.takeChargeFault (p := { p with pn := { p.pn with failures := 0 } }) h _) _ _

theorem Capped.takeOvercurrent (h : Capped n p) (m : Nat) : Capped n (takeOvercurrent m p) :=
  (h.takeChargeFault _).offerFault _ _

/-! ### REPORT (R105, R106) -/

/-- A REPORT comes within a window, so it finds no setpoint and no guard (R105, R128). -/
theorem Capped.acceptReport (h : Capped n p) (hw : p.pn.phase ≠ .idle) (i : BitVec 32) (r : PenReport) :
    Capped n (acceptReport i r p) := by
  obtain ⟨zero, off⟩ := h.1.of_window hw
  have identified : (applyPenId i p).cc.setpoint = 0 ∧ (applyPenId i p).cc.guard = none ∧
      (applyPenId i p).cc.budgetLimit = budgetLimitOf (applyPenId i p).cc.budget (applyPenId i p).cc.reservation := by
    unfold applyPenId
    split
    · exact ⟨zero, off, h.limit⟩
    · split <;> exact ⟨zero, off, h.limit⟩
  obtain ⟨zero, off, limit⟩ := identified
  exact .of_zero limit zero fun hg => absurd off hg

/-! ### PENH (R110, R116 to R118) -/

theorem Capped.guardOn (h : Capped n p) : Capped n (guardOn p) := by
  refine .of_zero ?_ (guardOn_fields p).2.1 fun _ => (guardOn_fields p).2.2.1
  unfold Machine.guardOn
  dsimp only
  split <;> exact h.limit

/-- The guard has cut the setpoint, and a window starts without one (R116, R117). -/
theorem Capped.guardEnd (h : Capped n p) (hg : p.cc.guard ≠ none) (since : Time) : Capped n (guardEnd since p) := by
  have zero : p.cc.setpoint = 0 := by
    by_contra h0
    exact hg (h.1.2.1 (Nat.pos_of_ne_zero h0)).2.2
  have window : Capped n (guardWindow since { p with cc := { p.cc with guard := none } }) :=
    .of_zero h.limit rfl fun hn => absurd rfl hn
  have off : Capped n { p with cc := { p.cc with guard := none } } := .of_zero h.limit zero fun hn => absurd rfl hn
  unfold Machine.guardEnd
  dsimp only
  split
  · exact window
  · exact window
  iterate 3 exact holds_ite window off
  · exact off
  · exact off

theorem Capped.rawPenh (h : Capped n p) (present : Bool) : Capped n (rawPenh present p) := by
  unfold Machine.rawPenh
  split
  · exact holds_ite h.guardOn.moment h
  · exact h
  · exact (h.guardEnd (by simp [*]) _).moment
  · exact h

/-- No setpoint stands in ABSENT, so none is carried into SETTLING (R110). -/
theorem Capped.penDocked (h : Capped n p) : Capped n (penDocked p) := by
  unfold Machine.penDocked
  split
  · next ha =>
    refine .of_zero h.limit ?_ h.1.2.2
    by_contra h0
    simpa [ha] using (h.1.2.1 (Nat.pos_of_ne_zero h0)).1
  · exact h

theorem Capped.penGone (h : Capped n p) : Capped n (penGone p) := by
  obtain ⟨cc, pn⟩ := penGone_fields p
  refine .of_zero ?_ ?_ fun _ => ?_
  · rw [cc]
    exact h.limit
  · rw [cc]
  · rw [pn]

theorem Capped.debouncedPenh (h : Capped n p) (present : Bool) : Capped n (debouncedPenh present p) := by
  refine Capped.moment ?_
  cases present
  · exact h.penGone
  · exact h.penDocked

/-! ### Requests and cooldown (R119, R133, R134) -/

theorem Capped.complete (h : Capped n p) (c : Completion) : Capped n (complete c p) := h.congr (by simp)

theorem Capped.cooldownEnded (h : Capped n p) : Capped n (cooldownEnded p) := (h.offer _).enterWakingSession

theorem Capped.penStop (h : Capped n p) (r : Request) : Capped n (penStop r p) :=
  holds_ite (h.complete _) (Capped.complete (Capped.moment (f := fun p => Machine.reactToCauses (setHostCause true p))
    (Capped.reactToCauses (p := setHostCause true p) h)) _)

theorem Capped.penResume (h : Capped n p) (r : Request) : Capped n (penResume r p) := by
  have silent : Capped n (resumeSilent p) := (Capped.offer (p := setHostCause false p) h _).enterWakingSession
  have host : Capped n (resumeHost p) := holds_ite (Capped.enterWakingSession (p := setHostCause false p) h) h
  exact holds_ite (h.complete _) (holds_ite (silent.moment.complete _)
    (holds_ite (host.moment.complete _) (h.complete _)))

theorem Capped.penClearLockout (h : Capped n p) (r : Request) : Capped n (penClearLockout r p) := by
  have opened : Capped n { clearFault .penLockout p with cc := { (clearFault .penLockout p).cc with history := none } } :=
    h.offer _
  have cleared : Capped n (lockoutCleared p) := opened.enterWakingSession
  exact holds_ite (h.complete _) (holds_ite (cleared.moment.complete _) (h.complete _))

end Sys2Proof.Machine

/-! The charge limits through the link's, the host's and the settings' changes (O50, O59): they reach CC only through
a reduction. -/

namespace Sys2Proof.Machine

variable {n : Nat} {p q : Part} {s : State}

/-! ### Reservation, host state and settings (R76, R122, R123, R129) -/

/-- What reaches neither CC nor PN keeps the limits (R32, R62). -/
theorem capped_freely (n : Nat) : FreelyCarried (Capped n) where
  content _ _ h := h.offer _
  line _ _ h := h
  keys _ _ h := h
  advisor _ _ _ _ h := h
  rotation _ _ h := h
  posture _ _ _ h := h
  walker _ _ h := h
  queues _ _ h := h
  port _ _ h := h

theorem capped_carried (n : Nat) : Carried (Capped n) := (capped_freely n).carried

theorem Capped.chargeReservation (h : Capped n p) (r : Nat) : Capped n (chargeReservation r p) := by
  have placed : Placed n { p with cc := { p.cc with reservation := r } } := h.1
  have limited := placed.relimit false
  exact Capped.moment (limited.mono (limited.le.trans (Nat.min_le_left ..)))

theorem Capped.setReservation (h : Capped n p) (r : Nat) : Capped n (setReservation r p) :=
  holds_ite h (Capped.chargeReservation (p := { p with bl := { p.bl with reservation := r } }) h r)

theorem Capped.chargeHostState (h : Capped n p) (k : HostState) : Capped n (chargeHostState k p) := by
  have placed : Placed n { p with cc := { p.cc with budget := budgetOf p.sl.inForce k } } := h.1
  have limited := placed.relimit false
  have moved := limited.mono (limited.le.trans (Nat.min_le_left ..))
  exact holds_ite h (Capped.moment (f := fun p => relimit false { p with cc := { p.cc with budget := _ } }) moved)

theorem Capped.setHost (h : Capped n p) (r : Request) : Capped n (setHost r p) := by
  have changed (k : HostState) : Capped n (changeHostState k p) := by
    have told := Capped.chargeHostState
      (p := { p with sa := { p.sa with hostState := k }, sp := sensorHostState k p.tb p.sp }) h k
    exact told.congr (by simp [changeHostState])
  unfold Machine.setHost
  split
  · exact h.complete _
  · exact Capped.complete (holds_ite h (changed _)) _

theorem rethermal_placed (h : Placed n p) (c : Settings) : Placed n (rethermal c p) := by
  unfold rethermal
  split
  · exact h
  · exact h

/-- New settings bring the setpoint under the new ceiling and every other limit (R129). -/
theorem Capped.chargeSettings {old : Settings} (h : Capped n p) (hn : n ≤ old.ceiling) (k : HostState) :
    Capped (min n p.sl.inForce.ceiling) (chargeSettings old k p) := by
  unfold Machine.chargeSettings
  dsimp only
  split
  · have budgeted : Placed n { p with cc := { p.cc with budget := budgetOf p.sl.inForce k } } := h.1
    have thermal (b : Bool) : Capped (min n p.sl.inForce.ceiling)
        (Machine.relimit b (rethermal p.sl.inForce { p with cc := { p.cc with budget := budgetOf p.sl.inForce k } })) := by
      simpa using (rethermal_placed budgeted p.sl.inForce).relimit b
    have limited := holds_ite (P := fun q => ∀ b, Capped (min n p.sl.inForce.ceiling) (Machine.relimit b q))
      (c := (old.ceiling != p.sl.inForce.ceiling || old.tDerate != p.sl.inForce.tDerate ||
        old.tResume != p.sl.inForce.tResume || old.tStop != p.sl.inForce.tStop) = true)
      thermal fun b => budgeted.relimit b
    exact Capped.moment (limited _)
  · next hc =>
    have same : old.ceiling = p.sl.inForce.ceiling := by
      simp only [chargeSettingsChanged, Bool.not_eq_true, Bool.or_eq_false_iff, bne_eq_false_iff_eq] at hc
      exact hc.1.1.1.2
    exact h.mono (by have := h.le; omega)

/-! ### The base link (R64, R71 to R74, R76) -/

theorem Capped.clearLinkFault (h : Capped n p) : Capped n (clearLinkFault p) := h.congr (by simp)

theorem Capped.enterPowering (h : Capped n p) (e : BaseEvent) : Capped n (enterPowering e p) := by
  refine (capped_carried n).offerBase _ ((capped_carried n).enterLink _ (Capped.setReservation ?_ _))
  exact h.clearLinkFault

theorem Capped.enterStopped (h : Capped n p) (new : Link) (f : FaultName) (e : BaseEvent) :
    Capped n (enterStopped new f e p) := by
  refine (capped_carried n).offerBase _ (Capped.offer ((capped_carried n).enterLink _ (Capped.setReservation ?_ _)) _)
  exact (capped_carried n).emptyQueue true h

theorem Capped.enterDetached (h : Capped n p) : Capped n (enterDetached p) := by
  refine (capped_carried n).offerBase _ ((capped_carried n).enterLink _ (Capped.setReservation ?_ _))
  exact (capped_carried n).emptyQueue true h.clearLinkFault

theorem Capped.takeHello (h : Capped n p) (hello : Hello) : Capped n (takeHello hello p) := by
  refine holds_ite ((capped_carried n).offerBase _ ((capped_carried n).enterLink _ (Capped.setReservation ?_ _)))
    (Capped.enterStopped ?_ _ _ _)
  · exact h
  · exact h

theorem Capped.restartBase (h : Capped n p) (hello : Hello) : Capped n (restartBase hello p) := by
  refine Capped.takeHello ((capped_carried n).offerBase _ ?_) _
  exact (capped_carried n).emptyQueue false h

theorem Capped.helloFrame (h : Capped n p) (hello : Hello) : Capped n (helloFrame hello p) := by
  unfold Machine.helloFrame
  split
  · exact h
  · exact h.takeHello _
  iterate 5 exact h.restartBase _
  iterate 5 exact h

theorem Capped.statusFrame (h : Capped n p) (st : BaseStatus) (held : List Byte) : Capped n (statusFrame st held p) := by
  have reserved : Capped n (Machine.setReservation (statusReservation p.bl st.draw)
      { p with bl := { p.bl with status := some st } }) :=
    Capped.setReservation (p := { p with bl := { p.bl with status := some st } }) h _
  exact holds_ite ((capped_carried n).answerStatus _ _
    (holds_ite ((capped_carried n).offerBase _ reserved) reserved)) h

theorem Capped.statusReception (h : Capped n p) (seq : BitVec 4) (st : BaseStatus) (held : List Byte) :
    Capped n (statusReception seq st held p) :=
  holds_ite ((capped_carried n).settle (((capped_carried n).seqCheck seq h).statusFrame st held))
    ((capped_carried n).countDiscard _ h)

theorem Capped.replyExpired (h : Capped n p) : Capped n (replyExpired p) := by
  have ended : Capped n (endExchange { p with bl := { p.bl with noReply := bump p.bl.noReply 1 } }) := h
  refine holds_ite ((capped_carried n).settle ?_) ((capped_carried n).settle (Capped.enterStopped
    (holds_ite ((capped_carried n).unansweredTold ended) ended) _ _ _))
  exact h

theorem Capped.activateExpired (h : Capped n p) : Capped n (activateExpired p) := by
  have identifying {b : Bl} : Capped n (enterLink .identifying { p with bl := b }) := (capped_carried n).enterLink _ h
  unfold Machine.activateExpired
  dsimp only
  split
  · refine (capped_carried n).settle ?_
    split
    · exact identifying.takeHello _
    · exact identifying
  · exact (capped_carried n).settle h
  · exact h

theorem Capped.helloExpired (h : Capped n p) : Capped n (helloExpired p) := by
  refine holds_ite ((capped_carried n).settle ((capped_carried n).enterResetting h))
    ((capped_carried n).settle (Capped.enterStopped ?_ _ _ _))
  exact h

theorem Capped.presenceTold (h : Capped n p) (present : Bool) : Capped n (presenceTold present p) :=
  holds_ite (holds_ite ((capped_carried n).settle (h.enterPowering _)) h)
    (holds_ite h ((capped_carried n).settle h.enterDetached))

theorem Capped.retryBase (h : Capped n p) (r : Request) : Capped n (retryBase r p) := by
  have retried : Capped n (completeDone r rcOk [] (settle (Machine.enterPowering .retried p))) :=
    Capped.complete ((capped_carried n).settle (h.enterPowering _)) _
  unfold Machine.retryBase
  split
  · exact retried
  · exact retried
  · exact h.complete _
  · exact h.complete _

/-! ### The inputs (R13 to R15) -/

theorem Capped.debouncedChange (h : Capped n p) (k : Input) (active : Bool) : Capped n (debouncedChange k active p) := by
  cases k
  · exact (capped_carried n).lidTold _ ((capped_carried n).evaluate _ h)
  · exact (capped_carried n).evaluate _ h
  · exact (capped_carried n).penTold _ (h.debouncedPenh _)
  · exact h.presenceTold _

theorem Capped.debounceExpired (h : Capped n p) (k : Input) : Capped n (debounceExpired k p) := by
  refine (capped_carried n).settle (Capped.debouncedChange ?_ _ _)
  exact h

theorem Capped.rawChange (h : Capped n p) (k : Input) (active : Bool) : Capped n (rawChange k active p) := by
  cases k
  · exact h
  · exact h
  · exact h.rawPenh _
  · exact h

theorem Capped.levelChanged (h : Capped n p) (k : Input) (level : Bool) : Capped n (levelChanged k level p) :=
  Capped.rawChange (p := setInput k { p.inp.get k with level := level } p) h k _

theorem Capped.inputSettings (h : Capped n p) (old : Settings) (k : Input) : Capped n (inputSettings old k p) := by
  have raw (active : Bool) : Capped n (Machine.rawChange k active (setInput k { p.inp.get k with timer := none } p)) :=
    Capped.rawChange (p := setInput k { p.inp.get k with timer := none } p) h k active
  refine holds_ite h (holds_ite (raw _) (Capped.debouncedChange ?_ _ _))
  exact raw _

theorem Capped.inputsSettings (h : Capped n p) (old : Settings) : Capped n (inputsSettings old p) :=
  (((h.inputSettings old .lidh).inputSettings old .foldh).inputSettings old .penh).inputSettings old .bpres

/-! ### New settings come into force (R129, R172) -/

theorem Capped.nuSettings (h : Capped n p) (old : Settings) : Capped n (nuSettings old p) := h.congr (by simp)

/-- New settings never raise the setpoint, and bring it under the new ceiling (R129). -/
theorem Capped.bringIntoForce (h : Capped n p) (hn : n ≤ p.sl.inForce.ceiling) (new : Settings) :
    Capped (min n new.ceiling) (bringIntoForce new p) := by
  have moved : Capped n (orientationSettings p.sl.inForce (postureSettings p.sl.inForce (angleSettings p.sl.inForce
      (Machine.inputsSettings p.sl.inForce { p with sl := { p.sl with inForce := new } })))) :=
    Capped.congr (Capped.inputsSettings (p := { p with sl := { p.sl with inForce := new } }) h p.sl.inForce) (by simp)
  have charged (k : HostState) := moved.chargeSettings hn k
  simp only [orientationSettings_frame, postureSettings_frame, angleSettings_frame, inputsSettings_frame] at charged
  exact (capped_carried _).settle (.nuSettings ((capped_carried _).advisorSettings _ (charged _)) _)

theorem applied_inForce (new : Settings) (code : Word) (p : Part) : (applied new code p).sl.inForce = new := by
  unfold applied
  dsimp only
  split <;> simp [bringIntoForce_sl]

theorem Capped.applied (h : Capped n p) (hn : n ≤ p.sl.inForce.ceiling) (new : Settings) (code : Word) :
    Capped (min n new.ceiling) (applied new code p) := by
  have cleared := (h.bringIntoForce hn new).congr (q := clearRejected (Machine.bringIntoForce new p)) (by simp)
  unfold Machine.applied
  dsimp only
  split
  · exact cleared.congr (by simp)
  · exact cleared

end Sys2Proof.Machine

/-! Every command keeps the charge limits, and the setpoint rises only as a window ends (O50, O59). -/

namespace Sys2Proof.Machine

variable {n : Nat} {p q : Part} {s : State}

/-! ### Commands that reach neither CC nor PN -/

/-- CC, PN and the settings in force stand as they did. -/
def ChargeKept (before p : Part) : Prop := p.cc = before.cc ∧ p.pn = before.pn ∧ p.sl.inForce = before.sl.inForce

theorem ChargeKept.refl (p : Part) : ChargeKept p p := ⟨rfl, rfl, rfl⟩

theorem chargeKept_portCarried (before : Part) : PortCarried (ChargeKept before) where
  port _ _ h := h
  queues _ _ h := h
  serve _ _ h := by simpa [ChargeKept] using h
  release _ _ h := by simpa [ChargeKept] using h
  badService _ h := by simpa [ChargeKept] using h

/-- A command that reaches neither CC nor PN leaves both, and the settings in force. -/
theorem chargeKept_step {i : Instr} (hc : Block.charge ∉ Instr.reaches i) (hp : Block.penLink ∉ Instr.reaches i)
    (s : State) : Completes i s fun t => ChargeKept s.part t.part := by
  by_cases ha : Instr.isHostAccess i = true
  · exact (chargeKept_portCarried s.part).hostAccess ha (.refl _)
  cases i with
  | acknowledge | take | endService | attention | xmWordWrite | read | write | update | portRead | unknownCommand
  | transactionEnd => exact absurd rfl ha
  | lineBreakReceived | frameGapTimeout | frameDiscard | exchangeSent => exact ⟨_, rfl, by simp [ChargeKept]⟩
  | keys | motion | reply =>
    refine ⟨_, rfl, ?_⟩
    simp only [State.on_part, receive]
    split <;> simp [ChargeKept]
  | timeCapture | countersRead | countersBadArg | badKind =>
    refine ⟨_, rfl, ?_⟩
    unfold takeOwn
    split <;> simp [ChargeKept]
  | applySettings | lockSettings =>
    refine ⟨_, rfl, ?_⟩
    unfold takeSettings
    split <;> simp [ChargeKept, takeApply, lockTaken]
  | penControlBadArg =>
    refine ⟨_, rfl, ?_⟩
    unfold takePenControl
    split <;> simp [ChargeKept]
  | resetnRelease | tbTick | holdTimerExpiry | postureDwellExpiry | orientationDwellExpiry | powerGoodExpiry
  | stallIdleExpiry | minimumHibernateExpiry | baseAttribute | profileReload | inactivityExpiry | graceExpiry
  | wakeRepeatExpiry | resetWorkEnd | configurationStepEnd | sampleDue | sampleArrival | faultAttemptDue | faultAttemptEnd
  | lineResetEnd | wakeBreakEnd | profileSnapshotEnd | profileResultWriteEnd | recordPublicationEnd | wakePulseEnd
  | slotCompletionEnd =>
    simp only [Completes, exec, execResetnRelease, execTbTick, execHoldTimerExpiry, execPostureDwellExpiry,
      execOrientationDwellExpiry, execPowerGoodExpiry, execStallIdleExpiry, execMinimumHibernateExpiry, execBaseAttribute,
      execProfileReload, execInactivityExpiry, execGraceExpiry, execWakeRepeatExpiry, execResetWorkEnd,
      execConfigurationStepEnd, execSampleDue, execSampleArrival, execFaultAttemptDue, execFaultAttemptEnd, execLineResetEnd,
      execWakeBreakEnd, execProfileSnapshotEnd, execProfileResultWriteEnd, execRecordPublicationEnd, execWakePulseEnd,
      execSlotCompletionEnd]
    (repeat' split) <;>
      exact ⟨_, rfl, by simp [ChargeKept, finishWork, finishSnapshot, finishResultWrite, finishPublication]⟩
  | _ => simp [Instr.reaches, allBlocks, attachReach, penReach] at hc hp

/-- The offers of a REFRESH leave the limits (R185). -/
theorem Capped.refreshOffers (h : Capped n p) : Capped n (refreshOffers p) := by
  refine Capped.offer (Capped.offerCharge (Capped.offer ?_ _)) _
  exact h.congr (by simp [offerBaseNow])

/-! ### Every command (R107, R112, R127, R128) -/

/-- From p to q the charge limits are kept, and a setpoint that rises does so as a window ends. -/
def Bounded (p q : Part) : Prop :=
  ChargeInv q ∧ (p.cc.setpoint < q.cc.setpoint → p.pn.phase ≠ .idle ∧ q.pn.phase = .idle)

theorem Bounded.refl (h : ChargeInv p) : Bounded p p := ⟨h, fun hr => absurd hr (Nat.lt_irrefl _)⟩

/-- The setpoint does not rise, and the settings in force stand. -/
theorem Capped.bounded (h : Capped p.cc.setpoint q) (hp : ChargeInv p) (hs : q.sl.inForce = p.sl.inForce) : Bounded p q := by
  refine ⟨chargeInv_iff.mpr (h.mono ?_), fun hr => absurd hr (Nat.not_lt.mpr h.le)⟩
  rw [hs]
  exact h.le.trans (chargeInv_iff.mp hp).le

/-- The setpoint does not rise, and goes under the ceiling of the settings that come into force. -/
theorem Capped.bounded_new {new : Settings} (h : Capped (min p.cc.setpoint new.ceiling) q) (hs : q.sl.inForce = new) :
    Bounded p q := by
  have le := h.le
  refine ⟨chargeInv_iff.mpr (h.mono ?_), fun hr => ?_⟩
  · rw [hs]
    omega
  · omega

/-- A window ends under the ceiling. -/
theorem Capped.bounded_window (h : Capped p.sl.inForce.ceiling q) (hw : p.pn.phase ≠ .idle) (hi : q.pn.phase = .idle)
    (hs : q.sl.inForce = p.sl.inForce) : Bounded p q :=
  ⟨chargeInv_iff.mpr (hs ▸ h), fun _ => ⟨hw, hi⟩⟩

theorem failWindow_phase (k : WindowFailure) (p : Part) : (failWindow k p).pn.phase = .idle := by
  simp only [failWindow, wakingFailed, countedFailure]
  (repeat' split) <;> simp [countFailure]

theorem bounded_failIn (h : ChargeInv s.part) {ph : Phase} (hph : ph ≠ .idle) (k : WindowFailure) :
    Bounded s.part (failIn ph k s).part := by
  unfold failIn
  split
  · next hw =>
    have inWindow : s.part.pn.phase ≠ .idle := by rwa [hw]
    have failed := (chargeInv_iff.mp h).failWindow inWindow k
    exact failed.moment.bounded_window inWindow (by simp [failWindow_phase]) (by simp)
  · exact .refl h

/-- A step within a window leaves the setpoint at 0 (R128). -/
theorem bounded_inWindow {w : Pn} (h : ChargeInv p) (hw : p.pn.phase ≠ .idle) : Bounded p { p with pn := w } := by
  have limits := chargeInv_iff.mp h
  obtain ⟨zero, off⟩ := limits.1.of_window hw
  exact Capped.bounded (.of_zero limits.limit zero fun hg => absurd off hg) h rfl

theorem bounded_stepPhase (h : ChargeInv s.part) {before : Phase} (hb : before ≠ .idle) (next : Phase) :
    Bounded s.part (stepPhase before next s).part := by
  unfold stepPhase
  split
  · next hw => exact bounded_inWindow h (by rwa [hw])
  · exact .refl h

theorem bounded_takePenControl {want : Request → Bool} {f : Request → Part → Part} (h : ChargeInv s.part)
    (hf : ∀ r {n p}, Capped n p → Capped n (f r p)) (hs : ∀ r p, (f r p).sl = p.sl) :
    Bounded s.part (takePenControl want f s).part := by
  unfold takePenControl
  split
  · next r rs _ =>
    have limits := chargeInv_iff.mp h
    have taken : Capped s.part.cc.setpoint { s.part with rq := { s.part.rq with cc := rs } } := limits.mono le_rfl
    exact (hf r taken).bounded h (by simp [hs])
  · exact .refl h

/-- A reset leaves no setpoint (R109, R121). -/
theorem bounded_reset {new : Settings} (hq : q.cc = Cc.reset new ∧ q.pn = Pn.reset) : Bounded p q := by
  obtain ⟨hc, hn⟩ := hq
  have start : Capped 0 q := .of_zero (by rw [hc]; rfl) (by rw [hc]; rfl) fun _ => by rw [hn]; rfl
  have le := start.le
  exact ⟨chargeInv_iff.mpr (start.mono (by omega)), fun hr => by omega⟩

theorem bounded_applied (h : ChargeInv p) (new : Settings) (code : Word) : Bounded p (applied new code p) := by
  have limits := chargeInv_iff.mp h
  exact ((limits.mono le_rfl).applied limits.le new code).bounded_new (applied_inForce ..)

theorem bounded_snapshotJudged (h : ChargeInv p) (ws : List Word) : Bounded p (snapshotJudged ws p) := by
  have limits : Capped p.cc.setpoint p := (chargeInv_iff.mp h).mono le_rfl
  unfold snapshotJudged
  split
  · split
    · exact Capped.bounded (limits.congr (by simp)) h (by simp)
    · exact .refl h
  · dsimp only
    split
    · exact bounded_applied h _ _
    · exact Capped.bounded (limits.congr (by simp)) h (by simp)

/-- Every command keeps the charge limits, and raises the setpoint only where it ends a window. -/
theorem bounded_step (i : Instr) (h : ChargeInv s.part) : Completes i s fun t => Bounded s.part t.part := by
  have limits : Capped s.part.cc.setpoint s.part := (chargeInv_iff.mp h).mono le_rfl
  by_cases hk : Block.charge ∉ Instr.reaches i ∧ Block.penLink ∉ Instr.reaches i
  · obtain ⟨t, ht, hcc, hpn, hs⟩ := chargeKept_step hk.1 hk.2 s
    exact ⟨t, ht, (limits.congr ⟨hcc, hpn⟩).bounded h hs⟩
  have inWindow {ph : Phase} (hw : s.part.pn.phase = ph) (hn : ph ≠ .idle) : s.part.pn.phase ≠ .idle := by rwa [hw]
  cases i with
  | fullReset => exact ⟨_, rfl, bounded_reset ⟨rfl, rfl⟩⟩
  | softReset => exact completes_gate (fun _ => bounded_reset
      (new := (softApply (s.xm.readAll settingsBase 224)).1) (by simp [softReset, Part.reset])) (.refl h)
  | filteredLevelChange k high =>
    simp only [Completes, exec, execFilteredLevelChange]
    split
    · exact ⟨s, rfl, .refl h⟩
    · split
      · exact ⟨_, rfl, Capped.bounded limits h rfl⟩
      · exact ⟨_, rfl, (limits.levelChanged k high).bounded h (by simp)⟩
  | debounceExpiry k => exact completes_gate (fun _ => (limits.debounceExpired k).bounded h (by simp)) (.refl h)
  | hello m seq cls revision accessory =>
    have counted := (capped_carried _).countNoise m limits
    refine ⟨_, rfl, Capped.bounded (holds_ite ((capped_carried _).settle (counted.helloFrame _)) counted) h ?_⟩
    simp only [State.on_part, receive]
    split <;> simp
  | status m seq mode flags draw held =>
    have counted := (capped_carried _).countNoise m limits
    refine ⟨_, rfl, Capped.bounded (holds_ite (counted.statusReception seq _ held) counted) h ?_⟩
    simp only [State.on_part, receive]
    split <;> simp
  | replyTimerExpiry => exact completes_gate (fun _ => limits.replyExpired.bounded h (by simp)) (.refl h)
  | activateTimeExpiry => exact completes_gate (fun _ => limits.activateExpired.bounded h (by simp)) (.refl h)
  | helloTimerExpiry => exact completes_gate (fun _ => limits.helloExpired.bounded h (by simp)) (.refl h)
  | baseRetry =>
    simp only [Completes, exec, execBaseRetry]
    split
    · next r rs _ =>
      have taken : Capped s.part.cc.setpoint { s.part with rq := { s.part.rq with bl := rs } } := limits
      exact ⟨_, rfl, (taken.retryBase r).bounded h (by simp)⟩
    · exact ⟨s, rfl, .refl h⟩
  | settlingExpiry | prechargeExpiry =>
    exact completes_gate (fun _ => limits.enterWakingSession.moment.bounded h (by simp)) (.refl h)
  | windowDue => exact completes_gate (fun _ => limits.startOrDue.moment.bounded h (by simp)) (.refl h)
  | cooldownExpiry => exact completes_gate (fun _ => limits.cooldownEnded.moment.bounded h (by simp)) (.refl h)
  | quietEnd | breakEnd | pollSent | syncStart | reportStart => exact ⟨_, rfl, bounded_stepPhase h (by simp) _⟩
  | syncWaitExpiry | syncMeasureTimeout | reportWaitExpiry | reportGapTimeout =>
    exact ⟨_, rfl, bounded_failIn h (by simp) _⟩
  | syncReceived =>
    simp only [Completes, exec, execSyncReceived]
    split
    · next hw => exact ⟨_, rfl, bounded_inWindow h (inWindow hw.1 (by simp))⟩
    · exact ⟨_, rfl, bounded_failIn h (by simp) _⟩
  | report =>
    simp only [Completes, exec, execReport]
    split
    · next hw => exact ⟨_, rfl, (limits.acceptReport (inWindow hw.1 (by simp)) _ _).moment.bounded h (by simp)⟩
    · exact ⟨_, rfl, bounded_failIn h (by simp) _⟩
  | grantSent =>
    simp only [Completes, exec, execGrantSent]
    split
    · next st hw _ =>
      have within := inWindow hw (by simp)
      exact ⟨_, rfl, (limits.endWindow within st).moment.bounded_window within (by simp [endWindow]) (by simp)⟩
    · exact ⟨_, rfl, limits.endFaultWindow.bounded h (by simp)⟩
    · exact ⟨s, rfl, .refl h⟩
  | overcurrent m => exact completes_gate (fun _ => (limits.takeOvercurrent _).bounded h (by simp)) (.refl h)
  | faultHistoryExpiry => exact completes_gate (fun _ => Capped.bounded limits h rfl) (.refl h)
  | penControlStop => exact ⟨_, rfl, bounded_takePenControl h (fun r _ _ hp => hp.penStop r) (by simp)⟩
  | penControlResume => exact ⟨_, rfl, bounded_takePenControl h (fun r _ _ hp => hp.penResume r) (by simp)⟩
  | penControlClearLockout =>
    exact ⟨_, rfl, bounded_takePenControl h (fun r _ _ hp => hp.penClearLockout r) (by simp)⟩
  | setHostState =>
    simp only [Completes, exec, execSetHostState]
    split
    · next r rs _ =>
      have taken : Capped s.part.cc.setpoint { s.part with rq := { s.part.rq with sa := rs } } := limits
      exact ⟨_, rfl, (taken.setHost r).bounded h (by simp)⟩
    · exact ⟨s, rfl, .refl h⟩
  | settingsSnapshotEnd =>
    simp only [Completes, exec, execSettingsSnapshotEnd]
    split
    · exact ⟨_, rfl, bounded_snapshotJudged h _⟩
    · exact ⟨s, rfl, .refl h⟩
  | settingsWriteBackEnd =>
    simp only [Completes, exec, execSettingsWriteBackEnd]
    split
    · exact ⟨_, rfl, bounded_applied h _ _⟩
    · exact ⟨s, rfl, .refl h⟩
  | countersReadAndClear =>
    refine ⟨_, rfl, ?_⟩
    unfold takeOwn
    split
    · next r rs _ =>
      have cleared : Capped s.part.cc.setpoint (clearCounters { s.part with rq := { s.part.rq with rq := rs } }) := limits
      exact (cleared.complete _).bounded h (by simp [clearCounters])
    · exact .refl h
  | refresh =>
    simp only [Completes, exec, execRefresh]
    split
    · next r rs _ =>
      have taken : Capped s.part.cc.setpoint { s.part with rq := { s.part.rq with nu := rs } } := limits
      exact ⟨_, rfl, (taken.refreshOffers.complete _).bounded h (by simp)⟩
    · exact ⟨s, rfl, .refl h⟩
  | _ => exact absurd (by simp [Instr.reaches, linkReach, offerReach]) hk

/-- Settles O50: what each command does to CC and PN keeps the limits. -/
theorem chargeLimitsHoldInEveryStep : Obligations.ChargeLimitsHoldInEveryStep := by
  intro i s h
  obtain ⟨t, ht, bounded⟩ := bounded_step i h
  exact ⟨t, ht, bounded.1⟩

/-- Settles O59: only the ends of a window raise the setpoint. -/
theorem setpointRisesOnlyAtAWindowsEnd : Obligations.SetpointRisesOnlyAtAWindowsEnd := by
  intro i s h
  obtain ⟨t, ht, bounded⟩ := bounded_step i h
  exact ⟨t, ht, bounded.2⟩

end Sys2Proof.Machine

/-! The talk window's start and its phases (O31): the entry into WAKING, the window that falls due, and the next phase. -/

namespace Sys2Proof.Machine

variable {p q : Part} {s : State}

/-! ### The entry into WAKING (R110 to R112, R116, R133) -/

/-- From p to q the session has entered WAKING with its first window, or under the guard with the window due flag (R111). -/
def EntersWaking (p q : Part) : Prop :=
  q.cc.session = .waking ∧ q.cc.stateTimer = none ∧ q.cc.windowTimer = none ∧
  q.cc.prechargeRounds = p.cc.prechargeRounds ∧
  (p.cc.guard = none →
    q.pn.phase = .quiet ∧ q.cc.wakingWindows = 1 ∧ q.cc.setpoint = 0 ∧ q.pn.restore = p.cc.setpoint) ∧
  (p.cc.guard ≠ none →
    q.cc.windowDue = true ∧ q.cc.wakingWindows = 0 ∧ q.pn.phase = p.pn.phase)

theorem enterWakingSession_enters (p : Part) : EntersWaking p (enterWakingSession p) := by
  rw [enterWakingSession_eq]
  rcases startOrDue_cases (wakingBegun p) with ⟨hg, e⟩ | ⟨hg, e⟩ <;> rw [e]
  · exact ⟨rfl, rfl, rfl, rfl, fun _ => ⟨rfl, rfl, rfl, rfl⟩, fun hn => absurd hg hn⟩
  · exact ⟨rfl, rfl, rfl, rfl, fun hn => absurd hn hg, fun _ => ⟨rfl, rfl, rfl⟩⟩

theorem enterWakingSession_history (p : Part) : (enterWakingSession p).cc.history = p.cc.history := by
  rw [enterWakingSession_eq]
  rcases startOrDue_cases (wakingBegun p) with ⟨-, e⟩ | ⟨-, e⟩ <;> rw [e] <;> rfl

/-- The offers of a moment leave the entry (R120, R135). -/
theorem EntersWaking.moment {f : Part → Part} (h : EntersWaking p (f q)) : EntersWaking p (moment f q) := by
  obtain ⟨m, k, hcc⟩ := moment_cc f q
  simpa only [EntersWaking, hcc, moment_frame] using h

/-- What leaves CC and PN before the entry leaves the entry. -/
theorem EntersWaking.of_frame {r : Part} (h : EntersWaking r q) (hf : r.cc = p.cc ∧ r.pn = p.pn) : EntersWaking p q := by
  simpa only [EntersWaking, hf] using h

theorem moment_history (f : Part → Part) (p : Part) : (moment f p).cc.history = (f p).cc.history := by
  obtain ⟨m, k, hcc⟩ := moment_cc f p
  rw [hcc]

/-- The end of COOLDOWN enters WAKING (R133). -/
theorem cooldownEnded_enters (p : Part) : EntersWaking p (cooldownEnded p) :=
  (enterWakingSession_enters _).of_frame (by simp)

/-- PEN_COOLDOWN has left at the end of COOLDOWN (R133, R178). -/
theorem cooldownEnded_inactive (hw : p.resetWork = none) :
    (cooldownEnded p).nu.faults &&& FaultName.penCooldown.set = 0#7 := by
  simpa [cooldownEnded] using (clearFault_inactive .penCooldown p hw).1

/-! ### A window that falls due (R113, R116) -/

/-- From p to q a window has started, or the window due flag waits for the guard's end (R103, R113, R116). -/
def FallsDue (p q : Part) : Prop :=
  q.cc.session = p.cc.session ∧ q.cc.windowTimer = none ∧
  (p.cc.guard = none →
    q.pn.phase = .quiet ∧ q.cc.setpoint = 0 ∧ q.cc.windowDue = false ∧ q.pn.restore = p.cc.setpoint ∧
    q.cc.wakingWindows = (if p.cc.session = .waking then p.cc.wakingWindows + 1 else p.cc.wakingWindows)) ∧
  (p.cc.guard ≠ none →
    q.cc.windowDue = true ∧ q.pn.phase = p.pn.phase ∧ q.cc.setpoint = p.cc.setpoint)

theorem startOrDue_fallsDue (p : Part) : FallsDue p (startOrDue p) := by
  rcases startOrDue_cases p with ⟨hg, e⟩ | ⟨hg, e⟩ <;> rw [e]
  · exact ⟨rfl, rfl, fun _ => ⟨rfl, rfl, rfl, rfl, rfl⟩, fun hn => absurd hg hn⟩
  · exact ⟨rfl, rfl, fun hn => absurd hn hg, fun _ => ⟨rfl, rfl, rfl⟩⟩

theorem FallsDue.moment {f : Part → Part} (h : FallsDue p (f q)) : FallsDue p (moment f q) := by
  obtain ⟨m, k, hcc⟩ := moment_cc f q
  simpa only [FallsDue, hcc, moment_frame] using h

theorem exec_windowDue (hd : timerDue s.part.cc.windowTimer s.part.tb = true) :
    exec .windowDue s = .next (s.on (moment startOrDue)) := by
  simp [exec, execWindowDue, hd]

/-! ### The phases (R103 to R105) -/

theorem stepPhase_of_eq {before : Phase} (next : Phase) (h : s.part.pn.phase = before) :
    stepPhase before next s = { s with part := { s.part with pn := { s.part.pn with phase := next } } } := by
  simp [stepPhase, h, State.on, setPhase]

theorem syncGood_iff (bitTime : Nat) (char : Byte) (stopHigh : Bool) :
    syncGood bitTime char stopHigh = true ↔
      4427 ≤ 10 * bitTime ∧ 10 * bitTime ≤ 5990 ∧ char = 0x55#8 ∧ stopHigh = true := by
  simp [syncGood, and_assoc]

theorem exec_syncReceived_good {bitTime : Nat} {char : Byte} {stopHigh : Bool} (hp : s.part.pn.phase = .sync)
    (hg : syncGood bitTime char stopHigh = true) :
    exec (.syncReceived bitTime char stopHigh) s = .next (s.on (acceptSync bitTime)) := by
  simp [exec, execSyncReceived, hp, hg]

/-- Settles O31: each start by its case of the guard, each phase by the step that leaves it. -/
theorem windowsBeginAndAdvance : Obligations.WindowsBeginAndAdvance := by
  refine ⟨fun s hs hd => ⟨s.on (moment enterWakingSession), ?_, (enterWakingSession_enters s.part).moment⟩,
    fun s hs hd => ⟨s.on (moment enterWakingSession), ?_, (enterWakingSession_enters s.part).moment⟩,
    fun s hs hd => ⟨s.on (moment cooldownEnded), ?_, ?_⟩,
    fun s hd => ⟨_, exec_windowDue hd, (startOrDue_fallsDue s.part).moment⟩,
    fun s => ⟨?_, ?_, ?_, ?_, ?_⟩, fun bitTime s hp hl hu => ?_, fun n => ?_⟩
  · simp [exec, execSettlingExpiry, stateDue, hs, hd]
  · simp [exec, execPrechargeExpiry, stateDue, hs, hd]
  · simp [exec, execCooldownExpiry, stateDue, hs, hd]
  · obtain ⟨session, timer, window, rounds, free, guarded⟩ := (cooldownEnded_enters s.part).moment
    refine ⟨session, timer, window, rounds, free, guarded, ?_, fun hw => ?_⟩
    · simp [moment_history, cooldownEnded, enterWakingSession_history]
    · simp [FaultActive, moment_faults, cooldownEnded_inactive hw]
  · exact fun h => congrArg _ (stepPhase_of_eq .breaking h)
  · exact fun h => congrArg _ (stepPhase_of_eq .poll h)
  · exact fun h => congrArg _ (stepPhase_of_eq .waitSync h)
  · exact fun h => congrArg _ (stepPhase_of_eq .sync h)
  · exact fun h => congrArg _ (stepPhase_of_eq .report h)
  · exact exec_syncReceived_good hp ((syncGood_iff ..).mpr ⟨hl, hu, rfl, rfl⟩)
  · cases h : n.phase <;> simp [Pn.sends, h, pollCharacter]

end Sys2Proof.Machine

/-! Failed windows (O32): what a failure restores, the session's reaction to it, and the counters. -/

namespace Sys2Proof.Machine

variable {p : Part} {s : State}

/-! ### Pause causes (R114) -/

theorem reactToCauses_of_none (ha : p.cc.causes.any = false) : reactToCauses p = p := by
  simp [reactToCauses, ha]

theorem reactToCauses_pauses (ha : p.cc.causes.any = true) (hi : p.pn.phase = .idle)
    (hs : p.cc.session = .precharge ∨ p.cc.session = .charging) : reactToCauses p = enterPaused p := by
  simp [reactToCauses, ha, hi, hs]

theorem reactToCauses_causes (p : Part) : (reactToCauses p).cc.causes = p.cc.causes := by
  rcases reactToCauses_cases p with e | ⟨e, -⟩ <;> rw [e]
  rfl

theorem reactToCauses_prechargeRounds (p : Part) : (reactToCauses p).cc.prechargeRounds = p.cc.prechargeRounds := by
  rcases reactToCauses_cases p with e | ⟨e, -⟩ <;> rw [e]
  rfl

/-! ### What a failure restores (R107, R127) -/

/-- The window has failed and is counted, and the setpoint is restored, before the session reacts (R107). -/
def windowLost (k : WindowFailure) (p : Part) : Part := restoreSetpoint { p with pn := countFailure k p.pn }

theorem windowLost_frame (k : WindowFailure) (p : Part) :
    (windowLost k p).tb = p.tb ∧ (windowLost k p).resetWork = p.resetWork ∧ (windowLost k p).pn = countFailure k p.pn ∧
    (windowLost k p).sl = p.sl := by
  simp [windowLost]

theorem windowLost_cc (k : WindowFailure) (p : Part) :
    (windowLost k p).cc =
      { p.cc with setpoint := (windowLost k p).cc.setpoint, causes := (windowLost k p).cc.causes } :=
  restoreSetpoint_cc _

theorem windowLost_session (k : WindowFailure) (p : Part) : (windowLost k p).cc.session = p.cc.session := by
  rw [windowLost_cc]

theorem trimCurrent_eq (b : Nat) : trimCurrent b = if b < 20 then 0 else b / 10 * 10 := by
  unfold trimCurrent floor10
  split <;> split <;> omega

/-- The bounds of a restored setpoint are those of `restoredSetpoint` (R127). -/
theorem bounds_eq (p : Part) :
    min (ceilingBound p) p.cc.budgetLimit =
      min (min 500 p.sl.inForce.ceiling) (minLimit p.cc.budgetLimit p.cc.thermalLimit) := by
  unfold ceilingBound
  cases p.cc.thermalLimit with
  | none => rfl
  | some m =>
    simp only [minLimit]
    omega

theorem windowLost_setpoint (k : WindowFailure) (p : Part) :
    (windowLost k p).cc.setpoint =
      if p.cc.session = .precharge ∨ p.cc.session = .charging then restoredSetpoint p else 0 := by
  have restored : (reduce { p with pn := countFailure k p.pn, cc := { p.cc with setpoint := p.pn.restore } }).cc.setpoint =
      restoredSetpoint p := by
    rw [reduce_setpoint, bounds_eq, trimCurrent_eq]
    rfl
  unfold windowLost restoreSetpoint
  split
  · next h => rw [if_pos (.inl h)]; exact restored
  · next h => rw [if_pos (.inr h)]; exact restored
  · next hp hc => rw [if_neg fun h => h.elim hp hc]

theorem restoredSetpoint_le (p : Part) : restoredSetpoint p ≤ p.pn.restore := by
  unfold restoredSetpoint
  dsimp only
  split
  · exact le_rfl
  · split <;> omega

/-! ### The session's reaction (R107, R111) -/

theorem failWindow_waking (k : WindowFailure) (h : p.cc.session = .waking) :
    failWindow k p = wakingFailed (windowLost k p) := by
  have session := (windowLost_session k p).trans h
  rw [windowLost] at *
  simp [failWindow, session]

theorem failWindow_precharge (k : WindowFailure) (h : p.cc.session = .precharge) :
    failWindow k p = reactToCauses (windowLost k p) := by
  have session := (windowLost_session k p).trans h
  rw [windowLost] at *
  simp [failWindow, session]

theorem failWindow_counted (k : WindowFailure) (h : p.cc.session ∈ [.charging, .topped, .paused]) :
    failWindow k p = countedFailure (windowLost k p) := by
  have session := windowLost_session k p
  rw [windowLost] at *
  simp only [List.mem_cons, List.not_mem_nil, or_false] at h
  rcases h with h | h | h <;> simp [failWindow, session, h]

theorem failWindow_other (k : WindowFailure) (h : p.cc.session ∉ [.waking, .precharge, .charging, .topped, .paused]) :
    failWindow k p = windowLost k p := by
  have session := windowLost_session k p
  rw [windowLost] at *
  cases hs : p.cc.session <;> simp_all [failWindow]

/-- A failed window leaves PENIO idle and its counters advanced; CHARGING, TOPPED and PAUSED count it in a run (R107). -/
theorem failWindow_pn (k : WindowFailure) (p : Part) :
    (failWindow k p).pn =
      { countFailure k p.pn with
        failures := if p.cc.session ∈ [.charging, .topped, .paused] then p.pn.failures + 1 else p.pn.failures } := by
  have lost := (windowLost_frame k p).2.2.1
  by_cases hc : p.cc.session ∈ [.charging, .topped, .paused]
  · rw [failWindow_counted k hc, if_pos hc]
    simp only [countedFailure]
    split <;> simp [lost, countFailure]
  rw [if_neg hc]
  by_cases hw : p.cc.session = .waking
  · rw [failWindow_waking k hw]
    simp only [wakingFailed]
    (repeat' split) <;> simp [lost, countFailure]
  by_cases hp : p.cc.session = .precharge
  · rw [failWindow_precharge k hp]
    simp [lost, countFailure]
  · rw [failWindow_other k (by simp_all), lost]
    rfl

/-- SILENT with its fault (R115, R178). -/
theorem enterSilent_gone (hw : p.resetWork = s.part.resetWork) : GoneSilent s (s.withPart (enterSilent p)) := by
  refine ⟨by simp [enterSilent], by simp [enterSilent], by simp [enterSilent], fun hn => ?_⟩
  refine (raiseFault_active .penSilent _ ?_).1
  exact hw.trans hn

theorem enterPaused_failed (ht : p.tb = s.part.tb) (hs : p.sl = s.part.sl) :
    FailedIntoPause s (s.withPart (enterPaused p)) := by
  simp [FailedIntoPause, enterPaused, startTimer, ht, hs]

/-- A failed window in WAKING (R111). -/
theorem failWindow_waking_fields (k : WindowFailure) (h : s.part.cc.session = .waking) :
    (s.part.cc.wakingWindows < 3 →
      (failWindow k s.part).cc.session = .waking ∧ (failWindow k s.part).cc.setpoint = 0 ∧
      (failWindow k s.part).cc.windowTimer = some ⟨s.part.tb, 50⟩) ∧
    (3 ≤ s.part.cc.wakingWindows → s.part.cc.prechargeRounds < 2 →
      ((failWindow k s.part).cc.session = .precharge ∨
        ((failWindow k s.part).cc.session = .paused ∧ (failWindow k s.part).cc.causes.any = true)) ∧
      (failWindow k s.part).cc.prechargeRounds = s.part.cc.prechargeRounds + 1) ∧
    (3 ≤ s.part.cc.wakingWindows → 2 ≤ s.part.cc.prechargeRounds →
      GoneSilent s (s.withPart (failWindow k s.part))) := by
  obtain ⟨tb, work, pn, sl⟩ := windowLost_frame k s.part
  have windows : (windowLost k s.part).cc.wakingWindows = s.part.cc.wakingWindows := by rw [windowLost_cc]
  have rounds : (windowLost k s.part).cc.prechargeRounds = s.part.cc.prechargeRounds := by rw [windowLost_cc]
  have session := (windowLost_session k s.part).trans h
  have setpoint : (windowLost k s.part).cc.setpoint = 0 := by simp [windowLost_setpoint, h]
  rw [failWindow_waking k h, wakingFailed, windows, rounds]
  refine ⟨fun h3 => ?_, fun h3 h2 => ?_, fun h3 h2 => ?_⟩
  · simp [if_pos h3, session, setpoint, startTimer, tb]
  · rw [if_neg (by omega), if_pos h2, enterPrecharge]
    refine ⟨?_, by rw [reactToCauses_prechargeRounds]; exact congrArg (· + 1) rounds⟩
    rw [reactToCauses_causes]
    rcases reactToCauses_cases _ with e | ⟨e, ha, -⟩ <;> rw [e]
    · exact .inl rfl
    · exact .inr ⟨rfl, ha⟩
  · rw [if_neg (by omega), if_neg (by omega)]
    exact enterSilent_gone work

/-- A failure in a run is counted, and the next window is due in 50 ms (R107). -/
def retryDue (p : Part) : Part :=
  { p with pn := { p.pn with failures := p.pn.failures + 1 }, cc := { p.cc with windowTimer := some ⟨p.tb, 50⟩ } }

theorem countedFailure_third (h : 3 ≤ p.pn.failures + 1) :
    countedFailure p = enterSilent { p with pn := { p.pn with failures := p.pn.failures + 1 } } := by
  simp only [countedFailure]
  rw [if_pos h]

theorem countedFailure_retry (h : p.pn.failures + 1 < 3) : countedFailure p = reactToCauses (retryDue p) := by
  simp only [countedFailure]
  rw [if_neg (by omega)]
  rfl

/-- A failed window in CHARGING, TOPPED or PAUSED (R107, R114). -/
theorem failWindow_counted_fields (k : WindowFailure) (h : s.part.cc.session ∈ [.charging, .topped, .paused]) :
    (3 ≤ s.part.pn.failures + 1 → GoneSilent s (s.withPart (failWindow k s.part))) ∧
    (s.part.pn.failures + 1 < 3 →
      if s.part.cc.session = .charging ∧ (failWindow k s.part).cc.causes.any = true then
        FailedIntoPause s (s.withPart (failWindow k s.part))
      else (failWindow k s.part).cc.session = s.part.cc.session ∧
        (failWindow k s.part).cc.windowTimer = some ⟨s.part.tb, 50⟩) := by
  obtain ⟨tb, work, pn, sl⟩ := windowLost_frame k s.part
  have failures : (windowLost k s.part).pn.failures = s.part.pn.failures := by rw [pn]; rfl
  have session : (retryDue (windowLost k s.part)).cc.session = s.part.cc.session := windowLost_session k s.part
  rw [failWindow_counted k h]
  refine ⟨fun h3 => ?_, fun h3 => ?_⟩
  · rw [countedFailure_third (by rwa [failures])]
    exact enterSilent_gone work
  · rw [countedFailure_retry (by rwa [failures]), reactToCauses_causes]
    split
    · next hp =>
      have idle : (retryDue (windowLost k s.part)).pn.phase = .idle := by simp [retryDue, pn, countFailure]
      rw [reactToCauses_pauses hp.2 idle (.inr (session.trans hp.1))]
      exact enterPaused_failed tb sl
    · next hp =>
      have stays : reactToCauses (retryDue (windowLost k s.part)) = retryDue (windowLost k s.part) := by
        rcases reactToCauses_cases (retryDue (windowLost k s.part)) with e | ⟨-, ha, -, hs | hs⟩
        · exact e
        · rw [← session, hs] at h
          simp at h
        · exact absurd ⟨session ▸ hs, ha⟩ hp
      rw [stays]
      exact ⟨session, by rw [retryDue, tb]⟩

/-- A failed window in PRECHARGE (R107, R114). -/
theorem failWindow_precharge_fields (k : WindowFailure) (h : s.part.cc.session = .precharge) :
    if (failWindow k s.part).cc.causes.any = true then FailedIntoPause s (s.withPart (failWindow k s.part))
    else (failWindow k s.part).cc.session = .precharge ∧
      (failWindow k s.part).cc.stateTimer = s.part.cc.stateTimer ∧
      (failWindow k s.part).cc.windowTimer = s.part.cc.windowTimer := by
  obtain ⟨tb, work, pn, sl⟩ := windowLost_frame k s.part
  rw [failWindow_precharge k h, reactToCauses_causes]
  split
  · next ha =>
    rw [reactToCauses_pauses ha (by rw [pn]; rfl) (.inl ((windowLost_session k s.part).trans h))]
    exact enterPaused_failed tb sl
  · next ha =>
    rw [reactToCauses_of_none (by simpa using ha), windowLost_cc]
    exact ⟨h, rfl, rfl⟩

/-! ### The setpoint after a failed window (R107, R127) -/

theorem enterSilent_setpoint (p : Part) : (enterSilent p).cc.setpoint = 0 := by simp [enterSilent]

theorem countedFailure_setpoint_le (p : Part) : (countedFailure p).cc.setpoint ≤ p.cc.setpoint := by
  simp only [countedFailure]
  split
  · simp [enterSilent_setpoint]
  · exact reactToCauses_setpoint_le _

/-- Outside WAKING the session's reaction never raises what the failure restored. -/
theorem failWindow_setpoint_le (k : WindowFailure) (h : p.cc.session ≠ .waking) :
    (failWindow k p).cc.setpoint ≤ (windowLost k p).cc.setpoint := by
  by_cases hc : p.cc.session ∈ [.charging, .topped, .paused]
  · rw [failWindow_counted k hc]
    exact countedFailure_setpoint_le _
  by_cases hp : p.cc.session = .precharge
  · rw [failWindow_precharge k hp]
    exact reactToCauses_setpoint_le _
  · rw [failWindow_other k (by simp_all)]

/-- Where CHARGING or PRECHARGE stays, what the failure restored stands. -/
theorem failWindow_setpoint_kept (k : WindowFailure) (h : p.cc.session ∈ [.precharge, .charging])
    (hs : (failWindow k p).cc.session = p.cc.session) : (failWindow k p).cc.setpoint = (windowLost k p).cc.setpoint := by
  have stays {q : Part} (hq : (reactToCauses q).cc.session = p.cc.session) : reactToCauses q = q := by
    rcases reactToCauses_cases q with e | ⟨e, -⟩
    · exact e
    · rw [e] at hq
      simp [← hq, enterPaused] at h
  simp only [List.mem_cons, List.not_mem_nil, or_false] at h
  rcases h with h | h
  · rw [failWindow_precharge k h] at hs ⊢
    rw [stays hs]
  · rw [failWindow_counted k (by simp [h]), countedFailure] at hs ⊢
    dsimp only at hs ⊢
    split at hs
    · simp [enterSilent, h] at hs
    · next hn => rw [if_neg hn, stays hs]

/-! ### The obligation -/

/-- Every failed window is one that R107 and R111 describe. -/
theorem failWindow_failed (k : WindowFailure) (s : State) : WindowFailed s (s.withPart (failWindow k s.part)) := by
  refine ⟨?_, failWindow_waking_fields k, fun h => ⟨?_, failWindow_counted_fields k h⟩, failWindow_precharge_fields k,
    fun h => ?_, fun h hs => ?_, fun h => ?_⟩
  · simp [failWindow_pn, countFailure, bump_eq]
  · simp only [State.withPart_part, failWindow_pn, if_pos h]
  · refine (failWindow_setpoint_le k h).trans ?_
    rw [windowLost_setpoint]
    split
    · exact restoredSetpoint_le _
    · exact Nat.zero_le _
  · rw [State.withPart_part, failWindow_setpoint_kept k h hs, windowLost_setpoint, if_pos (by simpa using h)]
  · have zero : (windowLost k s.part).cc.setpoint = 0 := by rcases h with h | h <;> simp [windowLost_setpoint, h]
    exact Nat.le_zero.mp (zero ▸ failWindow_setpoint_le k (by rcases h with h | h <;> simp [h]))

/-- What R107 says of a failed window is about the pen link, the session and the faults, not the readings. -/
theorem WindowFailed.of_agree {u t : State} {m k : Nat} (h : WindowFailed s u) (hpn : t.part.pn = u.part.pn)
    (hcc : t.part.cc = { u.part.cc with measured := m, readings := k }) (hf : t.part.nu.faults = u.part.nu.faults) :
    WindowFailed s t := by
  have silent : GoneSilent s t ↔ GoneSilent s u := by simp only [GoneSilent, FaultActive, hcc, hf]
  have paused : FailedIntoPause s t ↔ FailedIntoPause s u := by simp only [FailedIntoPause, hcc]
  simp only [WindowFailed, silent, paused, hpn, hcc]
  exact h

/-- The offers of a moment leave what R107 says (R120, R135). -/
theorem WindowFailed.moment {f : Part → Part} (h : WindowFailed s (s.withPart (f p))) :
    WindowFailed s (s.withPart (moment f p)) := by
  obtain ⟨m, k, hcc⟩ := moment_cc f p
  exact h.of_agree (by simp) hcc (moment_faults f p)

theorem failIn_of_eq {ph : Phase} (k : WindowFailure) (h : s.part.pn.phase = ph) :
    failIn ph k s = s.withPart (moment (failWindow k) s.part) := by
  simp [failIn, h, State.on, State.withPart]

/-- A window that fails in a phase fails as R107 says, and counts a SYNC error or a bad frame by its reason. -/
theorem failIn_failed {ph : Phase} (k : WindowFailure) (h : s.part.pn.phase = ph) :
    WindowFailed s (failIn ph k s) ∧
    (failIn ph k s).part.pn.syncErrors = (countFailure k s.part.pn).syncErrors ∧
    (failIn ph k s).part.pn.badFrames = (countFailure k s.part.pn).badFrames := by
  rw [failIn_of_eq k h]
  refine ⟨(failWindow_failed k s).moment, ?_⟩
  simp [failWindow_pn]

theorem exec_syncReceived_bad {bitTime : Nat} {char : Byte} {stopHigh : Bool}
    (hb : 10 * bitTime < 4427 ∨ 5990 < 10 * bitTime ∨ char ≠ 0x55#8 ∨ stopHigh = false) :
    exec (.syncReceived bitTime char stopHigh) s = .next (failIn .sync .syncError s) := by
  have bad : ¬ (s.part.pn.phase = .sync ∧ syncGood bitTime char stopHigh = true) := by
    rw [syncGood_iff]
    rintro ⟨-, hl, hu, hc, hs⟩
    rcases hb with hb | hb | hb | hb
    · omega
    · omega
    · exact hb hc
    · simp [hs] at hb
  exact if_neg bad

theorem exec_report_bad {framing : Bool} {penId : BitVec 32} {battery : Word} {temp soc : Byte} {asked : Word}
    {flags check : Byte} (hb : framing = true ∨ reportSum penId battery temp soc asked flags check ≠ 0#8) :
    exec (.report framing penId battery temp soc asked flags check) s = .next (failIn .report .badFrame s) := by
  have bad : ¬ (s.part.pn.phase = .report ∧ (!framing) = true ∧
      reportSum penId battery temp soc asked flags check = 0#8) := by
    rintro ⟨-, hf, hs⟩
    rcases hb with hb | hb
    · simp [hb] at hf
    · exact hb hs
  exact if_neg bad

/-- Settles O32: by what each reason counts, every failed window being one that R107 and R111 describe. -/
theorem failedWindows : Obligations.FailedWindows := by
  refine ⟨fun s => ⟨fun h => ⟨_, rfl, failIn_failed .noSync h⟩, fun h => ⟨_, rfl, failIn_failed .syncError h⟩,
    fun h => ⟨_, rfl, failIn_failed .noReport h⟩, fun h => ⟨_, rfl, failIn_failed .badFrame h⟩⟩,
    fun bitTime char stopHigh s h hb => ⟨_, exec_syncReceived_bad hb, failIn_failed .syncError h⟩,
    fun framing penId battery temp soc asked flags check s h hb => ⟨_, exec_report_bad hb, failIn_failed .badFrame h⟩⟩

end Sys2Proof.Machine

/-! Accepted REPORTs (O33): what is kept, the grant and the pause causes, the outcome, and the thermal limit's table. -/

namespace Sys2Proof.Machine

variable {p : Part} {s : State}

/-! ### The report that is kept (R105, R108) -/

theorem reportOf_eq (battery : Word) (temp soc : Byte) (asked : Word) (flags : Byte) :
    reportOf battery temp soc asked flags =
      { battery := battery.toNat, temperature := max (-40) (min 125 temp.toInt), soc := min 100 soc.toNat
        requested := min 1000 asked.toNat, full := flags.getLsbD 0, fault := flags.getLsbD 1 } := by
  have clamped (t : Int) : (if t < -40 then -40 else if 125 < t then 125 else t) = max (-40) (min 125 t) := by
    split
    · omega
    · split <;> omega
  rw [reportOf, clamped]

theorem applyPenId_pn (i : BitVec 32) (p : Part) : (applyPenId i p).pn = { p.pn with penId := some i } := by
  unfold applyPenId
  split
  · rfl
  · next j hj =>
    split
    · next same => rw [same, ← hj]
    · rfl

/-- The fault history outlives a REPORT of the pen already known, or of the first one (R108). -/
theorem applyPenId_cc (i : BitVec 32) (p : Part) :
    (applyPenId i p).cc =
      { p.cc with history := if p.pn.penId = none ∨ p.pn.penId = some i then p.cc.history else none } := by
  unfold applyPenId
  split
  · next unknown => rw [if_pos (.inl unknown)]
  · next j hj =>
    split
    · next same => rw [if_pos (.inr (same ▸ hj))]
    · next other => rw [if_neg (by simp [hj, Ne.symm other])]

/-! ### The grant, the causes and the outcome (R106, R113, R124, R125) -/

/-- The pause causes after an accepted REPORT (R124, R125). -/
def causesAfter (r : PenReport) (p : Part) : Causes :=
  let thermal := thermalAfter p.sl.inForce p.cc.causes.thermal r.temperature
  { p.cc.causes with
    thermal := thermal
    budget := budgetCause p.sl.inForce r.requested (some (thermalLimitOf p.sl.inForce thermal r.temperature)) p.cc.budgetLimit }

/-- What an accepted REPORT makes of the window's end (R106, R113, R131). -/
def outcomeAfter (r : PenReport) (p : Part) : WindowOutcome :=
  if r.fault then .penFault else .session (outcomeState p.sl.inForce p.cc.session r (causesAfter r p))

theorem acceptReport_cc (i : BitVec 32) (r : PenReport) (p : Part) :
    (acceptReport i r p).cc =
      { p.cc with
        history := if p.pn.penId = none ∨ p.pn.penId = some i then p.cc.history else none
        prechargeRounds := 0
        thermalLimit := some (thermalLimitOf p.sl.inForce (causesAfter r p).thermal r.temperature)
        grant := grantFor p.sl.inForce r.requested
          (some (thermalLimitOf p.sl.inForce (causesAfter r p).thermal r.temperature)) (some p.cc.budgetLimit)
        causes := causesAfter r p } := by
  simp [acceptReport, sendGrant, computeGrant, applyPenId_cc, causesAfter]

theorem acceptReport_pn (i : BitVec 32) (r : PenReport) (p : Part) :
    (acceptReport i r p).pn =
      { p.pn with
        phase := .grant, penId := some i, report := some r, outcome := some (outcomeAfter r p)
        granted := if outcomeAfter r p = .session .charging then (acceptReport i r p).cc.grant else 0
        grantFrame := grantBytes
          (if outcomeAfter r p = .session .charging then (acceptReport i r p).cc.grant else 0) } := by
  simp [acceptReport, sendGrant, computeGrant, applyPenId_cc, applyPenId_pn, causesAfter, outcomeAfter]

theorem outcomeAfter_penFault {r : PenReport} (hf : r.fault = true) : outcomeAfter r p = .penFault := by
  simp [outcomeAfter, hf]

theorem outcomeAfter_topped {r : PenReport} (hf : r.fault = false)
    (h : r.full = true ∨ (p.cc.session = .topped ∧ p.sl.inForce.rechargeThreshold ≤ r.soc)) :
    outcomeAfter r p = .session .topped := by
  rcases h with h | h
  · simp [outcomeAfter, outcomeState, hf, h]
  · simp [outcomeAfter, outcomeState, hf, h]

theorem outcomeAfter_resumed {r : PenReport} (hf : r.fault = false) (hn : r.full = false)
    (h : ¬ (p.cc.session = .topped ∧ p.sl.inForce.rechargeThreshold ≤ r.soc)) :
    outcomeAfter r p = .session (if (causesAfter r p).any = true then .paused else .charging) := by
  simp [outcomeAfter, outcomeState, hf, hn, h]

/-! ### The thermal limit (R124) -/

/-- Rounding down to a multiple of 10 the quotient of two lengths: the greatest such whose product keeps under. -/
theorem floor10_div_spec (n d : Nat) (hd : 0 < d) :
    floor10 (n / d) % 10 = 0 ∧ floor10 (n / d) * d ≤ n ∧ n < (floor10 (n / d) + 10) * d := by
  have below : floor10 (n / d) ≤ n / d := Nat.div_mul_le_self _ _
  have above : n / d < floor10 (n / d) + 10 := by unfold floor10; omega
  refine ⟨Nat.mul_mod_left _ _, (Nat.mul_le_mul_right d below).trans (Nat.div_mul_le_self n d), ?_⟩
  exact (Nat.div_lt_iff_lt_mul hd).mp above

theorem thermalLimitOf_derated {c : Settings} {temp : Int} (hl : (c.tDerate : Int) < temp) (hu : temp < (c.tStop : Int)) :
    thermalLimitOf c false temp = floor10 (c.ceiling * ((c.tStop : Int) - temp).toNat / (c.tStop - c.tDerate)) := by
  simp [thermalLimitOf, hu, not_le.mpr hl]

/-- Between the derating and the stop temperature the limit is the greatest multiple of 10 under the line (R124). -/
theorem thermalLimitOf_derated_spec {c : Settings} {temp : Int} (hl : (c.tDerate : Int) < temp)
    (hu : temp < (c.tStop : Int)) :
    thermalLimitOf c false temp % 10 = 0 ∧
    (thermalLimitOf c false temp : Int) * ((c.tStop : Int) - c.tDerate) ≤ (c.ceiling : Int) * ((c.tStop : Int) - temp) ∧
    (c.ceiling : Int) * ((c.tStop : Int) - temp) <
      ((thermalLimitOf c false temp : Int) + 10) * ((c.tStop : Int) - c.tDerate) := by
  have spread : ((c.tStop - c.tDerate : Nat) : Int) = (c.tStop : Int) - c.tDerate := by omega
  have left : ((((c.tStop : Int) - temp).toNat : Nat) : Int) = (c.tStop : Int) - temp := by omega
  obtain ⟨tens, le, lt⟩ :=
    floor10_div_spec (c.ceiling * ((c.tStop : Int) - temp).toNat) (c.tStop - c.tDerate) (by omega)
  rw [thermalLimitOf_derated hl hu, ← spread, ← left]
  exact ⟨tens, mod_cast le, mod_cast lt⟩

/-! ### The obligation -/

theorem exec_report_good {penId : BitVec 32} {battery : Word} {temp soc : Byte} {asked : Word} {flags check : Byte}
    (h : s.part.pn.phase = .report) (hs : reportSum penId battery temp soc asked flags check = 0#8) :
    exec (.report false penId battery temp soc asked flags check) s =
      .next (s.withPart (moment (acceptReport penId (reportOf battery temp soc asked flags)) s.part)) :=
  if_pos ⟨h, rfl, hs⟩

theorem thermalAfter_spec (c : Settings) (before : Bool) (temp : Int) :
    ((c.tStop : Int) ≤ temp → thermalAfter c before temp = true) ∧
    (temp < (c.tStop : Int) → before = true → temp ≤ (c.tResume : Int) → thermalAfter c before temp = false) ∧
    (temp < (c.tStop : Int) → ¬ (before = true ∧ temp ≤ (c.tResume : Int)) → thermalAfter c before temp = before) := by
  refine ⟨fun h => if_pos h, fun h hb hr => ?_, fun h hb => ?_⟩
  · rw [thermalAfter, if_neg (not_le.mpr h), if_pos ⟨hb, hr⟩]
  · rw [thermalAfter, if_neg (not_le.mpr h), if_neg hb]

/-- Settles O33, by the fields that an accepted REPORT writes and the bounds of the thermal limit. -/
theorem reportAccepted : Obligations.ReportAccepted := by
  refine ⟨fun penId battery temp soc asked flags check s h hs => ⟨_, exec_report_good h hs, ?_⟩, thermalAfter_spec,
    fun c temp => ⟨rfl, fun h => by simp [thermalLimitOf, h], thermalLimitOf_derated_spec⟩, by decide⟩
  obtain ⟨m, k, hcc⟩ := moment_cc (acceptReport penId (reportOf battery temp soc asked flags)) s.part
  rw [reportOf_eq] at hcc ⊢
  simp only [State.withPart_part, moment_frame, hcc, acceptReport_pn, acceptReport_cc, Option.some.injEq]
  exact ⟨⟨trivial, trivial, trivial⟩, trivial, trivial, rfl, trivial, trivial, trivial, trivial,
    fun hf => outcomeAfter_penFault hf, fun hf ht => outcomeAfter_topped hf (.inl ht),
    fun hf ht hr => outcomeAfter_resumed hf ht hr, fun hf hr hq => outcomeAfter_topped hf (.inr ⟨hr, hq⟩)⟩

end Sys2Proof.Machine

/-! The end of the GRANT (O35): the session takes its outcome within the limits, or a charge fault is taken. -/

namespace Sys2Proof.Machine

variable {p : Part} {s : State}

/-! ### The session takes its outcome (R113, R127, R128) -/

/-- An ended window leaves the outcome, or PAUSED where a cause stands (R128). -/
theorem endWindow_session (st : Session) (p : Part) :
    (endWindow st p = reduce (windowEnded st p) ∧ (endWindow st p).cc.session = st) ∨
    (endWindow st p = enterPaused (reduce (windowEnded st p)) ∧ (endWindow st p).cc.causes.any = true) := by
  have session : (reduce (windowEnded st p)).cc.session = st := by rw [reduce_cc]; rfl
  rw [endWindow_eq]
  rcases reactToCauses_cases (reduce (windowEnded st p)) with e | ⟨e, ha, -⟩
  · exact .inl ⟨e, by rw [e]; exact session⟩
  · exact .inr ⟨e, by rw [e]; exact ha⟩

theorem endWindow_windowTimer (st : Session) (p : Part) :
    (endWindow st p).cc.windowTimer = some ⟨p.tb,
      if (endWindow st p).cc.session = .topped then p.sl.inForce.toppedPeriod else p.sl.inForce.chargePeriod⟩ := by
  rcases endWindow_session st p with ⟨e, hs⟩ | ⟨e, -⟩
  · rw [hs, e, reduce_cc]
    rfl
  · rw [e]
    simp [enterPaused, startTimer, windowEnded]

theorem endWindow_setpoint_le (st : Session) (p : Part) :
    (endWindow st p).cc.setpoint ≤ (windowEnded st p).cc.setpoint ∧
    (endWindow st p).cc.setpoint ≤ min (ceilingBound p) p.cc.budgetLimit := by
  rw [endWindow_eq]
  exact ⟨(reactToCauses_setpoint_le _).trans (reduce_setpoint_le _),
    (reactToCauses_setpoint_le _).trans (reduce_setpoint_bound (windowEnded st p))⟩

/-- Outside CHARGING no window ends with a setpoint (R128). -/
theorem endWindow_setpoint_zero {st : Session} (h : (endWindow st p).cc.session ≠ .charging) :
    (endWindow st p).cc.setpoint = 0 := by
  rcases endWindow_session st p with ⟨-, hs⟩ | ⟨e, -⟩
  · have zero : (windowEnded st p).cc.setpoint = 0 := if_neg (hs ▸ h)
    exact Nat.le_zero.mp (zero ▸ (endWindow_setpoint_le st p).1)
  · rw [e]
    rfl

/-- A grant under every limit in force, with no cause standing, is what CHARGING goes on with (R113). -/
theorem endWindow_charging (hn : p.cc.causes.any = false) (hg : p.pn.granted ≤ min (ceilingBound p) p.cc.budgetLimit) :
    (endWindow .charging p).cc.session = .charging ∧ (endWindow .charging p).cc.setpoint = p.pn.granted := by
  have fits : (windowEnded .charging p).cc.setpoint ≤ reducedBound (windowEnded .charging p) := by
    have bound : reducedBound (windowEnded .charging p) = min (min p.pn.granted (ceilingBound p)) p.cc.budgetLimit := rfl
    rw [bound]
    change p.pn.granted ≤ _
    omega
  have whole : endWindow .charging p = windowEnded .charging p := by
    rw [endWindow_eq, reduce, if_pos fits]
    exact reactToCauses_of_none hn
  rw [whole]
  exact ⟨rfl, rfl⟩

/-! ### The pen's own fault (R106, R131) -/

/-- The offers after a charge fault change of CC the readings alone, and of the faults nothing (R135). -/
theorem offerFault_none (before q : Part) :
    (∃ m k, (offerFault before none q).cc = { q.cc with measured := m, readings := k }) ∧
    (offerFault before none q).nu.faults = q.nu.faults ∧ (offerFault before none q).nu.lastFault = q.nu.lastFault := by
  have charge (r : Part) :
      (∃ m k, (offerCharge r).cc = { r.cc with measured := m, readings := k }) ∧
      (offerCharge r).nu.faults = r.nu.faults ∧ (offerCharge r).nu.lastFault = r.nu.lastFault := by
    simp only [offerCharge, offer_frame, offer_content_faults, readCurrent]
    split
    · exact ⟨⟨_, _, rfl⟩, rfl, rfl⟩
    · exact ⟨⟨0, r.cc.readings, rfl⟩, rfl, rfl⟩
  simp only [offerFault]
  split
  · obtain ⟨cc, faults, last⟩ := charge (offerPen q)
    simp only [offerPen, offer_frame, offer_content_faults] at cc faults last ⊢
    exact ⟨cc, faults, last⟩
  · exact charge q

theorem takeChargeFault_pn (k : ChargeFault) (p : Part) :
    (takeChargeFault k p).pn = { p.pn with phase := .idle, outcome := none, granted := 0 } := by
  simp [takeChargeFault, abandonWindow]

theorem judgeFault_lockout (h : p.cc.session = .lockout) : judgeFault p = p := by
  simp [judgeFault, h]

/-- COOLDOWN with its timer and the history (R131). -/
def cooldownEntered (p : Part) : Part :=
  { p with cc := { p.cc with
      session := .cooldown, stateTimer := some ⟨p.tb, 5000⟩, history := some ⟨p.tb, 60000⟩
      windowTimer := none, windowDue := false } }

/-- LOCKOUT without a timer or a history (R131). -/
def lockoutEntered (p : Part) : Part :=
  { p with cc := { p.cc with
      session := .lockout, stateTimer := none, history := none, windowTimer := none, windowDue := false } }

/-- The first charge fault within the history's time goes to COOLDOWN (R131). -/
theorem judgeFault_first (h : p.cc.session ≠ .lockout) (hh : p.cc.history = none) :
    judgeFault p = offer (.faults (some .penCooldown) (leavingAtFault p.cc.session false)) (cooldownEntered p) := by
  cases hs : p.cc.session <;> simp_all [judgeFault, cooldownEntered, startTimer]

/-- A further one goes to LOCKOUT (R131). -/
theorem judgeFault_again (h : p.cc.session ≠ .lockout) (hh : p.cc.history ≠ none) :
    judgeFault p = offer (.faults (some .penLockout) (leavingAtFault p.cc.session true)) (lockoutEntered p) := by
  obtain ⟨since, hh⟩ := Option.ne_none_iff_exists'.mp hh
  cases hs : p.cc.session <;> simp_all [judgeFault, lockoutEntered]

/-- A fault that is raised joins the set with its code, whatever leaves at the same moment (R178). -/
theorem offer_joins {f : FaultName} {leave : FaultSet} (h : p.resetWork = none) :
    (offer (.faults (some f) leave) p).nu.faults &&& f.set ≠ 0#7 ∧
    (offer (.faults (some f) leave) p).nu.lastFault = some f := by
  rw [and_set_ne_zero_iff, offer, h]
  exact ⟨by simp [takeOffer_holdsFault, Offer.joins], by simp [takeOffer_lastFault, Offer.joins]⟩

/-- PEN_COOLDOWN leaves at the entry into LOCKOUT (R131). -/
theorem offer_penLockout_leaves (st : Session) (h : p.resetWork = none) :
    (offer (.faults (some .penLockout) (leavingAtFault st true)) p).nu.faults &&& FaultName.penCooldown.set = 0#7 := by
  have leaves : holdsFault .penCooldown (leavingAtFault st true) = true := by cases st <;> rfl
  rw [and_set_eq_zero_iff, offer, h]
  simp [takeOffer_holdsFault, Offer.joins, Offer.leaves, leaves]

/-- The window is given up, and the fault is noted, before it is judged against the history (R131). -/
def faultNoted (k : ChargeFault) (p : Part) : Part :=
  { abandonWindow p with cc := { p.cc with lastFault := k, setpoint := 0 } }

theorem takeChargeFault_eq (k : ChargeFault) (p : Part) : takeChargeFault k p = judgeFault (faultNoted k p) := rfl

/-- A charge fault is what R131 says, whatever the pen link's counters are set to before. -/
theorem takeChargeFault_faulted (k : ChargeFault) (n : Pn) (s : State) :
    ChargeFaulted k s (s.withPart (takeChargeFault k { s.part with pn := n })) := by
  rw [takeChargeFault_eq]
  set q := faultNoted k { s.part with pn := n }
  by_cases hl : s.part.cc.session = .lockout
  · rw [judgeFault_lockout (p := q) hl]
    exact ⟨⟨rfl, rfl, rfl⟩, fun h => absurd hl h, fun h => absurd hl h, fun _ => ⟨hl, rfl⟩⟩
  by_cases hh : s.part.cc.history = none
  · rw [judgeFault_first (p := q) hl hh]
    simp only [ChargeFaulted, State.withPart_part, offer_frame]
    exact ⟨⟨rfl, rfl, rfl⟩, fun _ _ => ⟨rfl, rfl, rfl, offer_joins (p := cooldownEntered q)⟩, fun _ h => absurd hh h,
      fun h => absurd h hl⟩
  · rw [judgeFault_again (p := q) hl hh]
    simp only [ChargeFaulted, State.withPart_part, offer_frame]
    refine ⟨⟨rfl, rfl, rfl⟩, fun _ h => absurd h hh, fun _ _ => ⟨rfl, rfl, rfl, fun hw => ?_⟩, fun h => absurd h hl⟩
    obtain ⟨active, last⟩ := offer_joins (p := lockoutEntered q) (f := .penLockout) (leave := leavingAtFault _ true) hw
    exact ⟨active, not_not.mpr (offer_penLockout_leaves _ hw), last⟩

/-- The offers after it leave what R131 says (R120, R135). -/
theorem ChargeFaulted.offerFault {k : ChargeFault} {q before : Part} (h : ChargeFaulted k s (s.withPart q)) :
    ChargeFaulted k s (s.withPart (offerFault before none q)) := by
  obtain ⟨⟨m, n, hcc⟩, faults, last⟩ := offerFault_none before q
  simpa only [ChargeFaulted, FaultActive, State.withPart_part, hcc, faults, last, offerFault_frame] using h

/-! ### The obligation -/

theorem exec_grantSent_session {st : Session} (h : s.part.pn.phase = .grant)
    (ho : s.part.pn.outcome = some (.session st)) :
    exec .grantSent s = .next (s.withPart (moment (endWindow st) s.part)) := by
  simp [exec, execGrantSent, h, ho, State.on, State.withPart]

theorem exec_grantSent_penFault (h : s.part.pn.phase = .grant) (ho : s.part.pn.outcome = some .penFault) :
    exec .grantSent s = .next (s.withPart (endFaultWindow s.part)) := by
  simp [exec, execGrantSent, h, ho, State.on, State.withPart]

/-- Settles O35, by the two ways that an ended window leaves the session, and by what a charge fault writes. -/
theorem grantSent : Obligations.GrantSent := by
  refine ⟨fun st s h ho => ⟨_, exec_grantSent_session h ho, ?_⟩, fun s h ho => ⟨_, exec_grantSent_penFault h ho, ?_⟩⟩
  · obtain ⟨m, k, hcc⟩ := moment_cc (endWindow st) s.part
    obtain ⟨granted, limits⟩ := endWindow_setpoint_le st s.part
    have most : (windowEnded st s.part).cc.setpoint ≤ s.part.pn.granted := by
      simp only [windowEnded]
      split <;> omega
    have bounds := ceilingBound_eq s.part
    have pn : (endWindow st s.part).pn = (windowEnded st s.part).pn := by simp [endWindow_eq]
    simp only [State.withPart_part, moment_frame, hcc, pn]
    refine ⟨⟨rfl, rfl, rfl⟩, ?_, endWindow_windowTimer st s.part, endWindow_setpoint_zero, ⟨?_, ?_, ?_, ?_⟩, ?_⟩
    · rcases endWindow_session st s.part with ⟨-, hs⟩ | ⟨e, ha⟩
      · exact .inl hs
      · exact .inr ⟨by rw [e]; rfl, ha⟩
    iterate 4 omega
    · rintro rfl hn hc hb ht
      exact endWindow_charging hn (by omega)
  · have failures : (endFaultWindow s.part).pn.failures = 0 := by
      simp [endFaultWindow, takeChargeFault_pn]
    exact ⟨(takeChargeFault_faulted .penReported _ s).offerFault, failures⟩

end Sys2Proof.Machine

/-! PEN_CONTROL requests (O37): STOP, RESUME and CLEAR_LOCKOUT in the states that allow them. -/

namespace Sys2Proof.Machine

variable {p : Part} {s : State} {r : Request} {rs : List Request}

/-! ### The request is taken and completed (R119, R165) -/

/-- The part as CC takes the request at the head of its queue. -/
def ccTaken (rs : List Request) (p : Part) : Part := { p with rq := { p.rq with cc := rs } }

theorem takePenControl_head {want : Request → Bool} (f : Request → Part → Part) (hq : s.part.rq.cc = r :: rs)
    (hw : want r = true) : takePenControl want f s = s.withPart (f r (ccTaken rs s.part)) := by
  simp [takePenControl, headOf, hq, hw, State.on, State.withPart, ccTaken]

theorem isPenControl_of_arg {n : Nat} (hk : r.kind = 7#16) (ha : r.arg 0 = n) : r.isPenControl n = true := by
  simp [Request.isPenControl, Request.is, hk, ha]

theorem isBadPenControl_of_arg (hk : r.kind = 7#16) (ha : r.arg 0 = 0 ∨ 3 < r.arg 0) : r.isBadPenControl = true := by
  simpa [Request.isBadPenControl, Request.is, hk] using ha

theorem completeDone_completes (f : Part → Part) (p : Part) :
    CompletedWith r true rcOk [] (s.withPart (completeDone r rcOk [] (moment f p))) := by
  simp [CompletedWith]

/-- A failed request changes nothing of CC (R119). -/
theorem completeFailed_fails (code : Word) :
    (completeFailed r code (ccTaken rs s.part)).cc = s.part.cc ∧
    CompletedWith r false code [] (s.withPart (completeFailed r code (ccTaken rs s.part))) := by
  simp [CompletedWith, ccTaken]

theorem penStop_taken (r : Request) (rs : List Request) (p : Part) : (penStop r (ccTaken rs p)).rq.cc = rs := by
  unfold penStop
  split <;> simp [ccTaken]

theorem penResume_taken (r : Request) (rs : List Request) (p : Part) : (penResume r (ccTaken rs p)).rq.cc = rs := by
  unfold penResume
  (repeat' split) <;> simp [ccTaken]

theorem penClearLockout_taken (r : Request) (rs : List Request) (p : Part) :
    (penClearLockout r (ccTaken rs p)).rq.cc = rs := by
  unfold penClearLockout
  (repeat' split) <;> simp [ccTaken]

/-- The offers of a moment leave the session, its causes and its timers (R120, R135). -/
theorem completeDone_moment (f : Part → Part) (p : Part) :
    ∃ m k, (completeDone r rcOk [] (moment f p)).cc = { (f p).cc with measured := m, readings := k } := by
  simpa only [completeDone_frame] using moment_cc f p

theorem enterWakingSession_causes (p : Part) : (enterWakingSession p).cc.causes = p.cc.causes := by
  rw [enterWakingSession_eq]
  rcases startOrDue_cases (wakingBegun p) with ⟨-, e⟩ | ⟨-, e⟩ <;> rw [e] <;> rfl

/-- In ABSENT every form completes NO_PEN (R119). -/
theorem pen_absent (h : p.cc.session = .absent) :
    penStop r (ccTaken rs p) = completeFailed r rcNoPen (ccTaken rs p) ∧
    penResume r (ccTaken rs p) = completeFailed r rcNoPen (ccTaken rs p) ∧
    penClearLockout r (ccTaken rs p) = completeFailed r rcNoPen (ccTaken rs p) :=
  ⟨if_pos h, if_pos h, if_pos h⟩

/-! ### STOP (R114, R134) -/

theorem reactToCauses_setHostCause (hi : p.pn.phase = .idle) (hs : p.cc.session = .charging ∨ p.cc.session = .precharge) :
    reactToCauses (setHostCause true p) = enterPaused (setHostCause true p) :=
  reactToCauses_pauses (by simp [setHostCause, Causes.any]) hi hs.symm

theorem penStop_stops (h : s.part.cc.session ≠ .absent) :
    CompletedWith r true rcOk [] (s.withPart (penStop r (ccTaken rs s.part))) ∧
    (penStop r (ccTaken rs s.part)).cc.causes.host = true ∧
    (s.part.cc.session = .charging ∨ s.part.cc.session = .precharge → s.part.pn.phase = .idle →
      (penStop r (ccTaken rs s.part)).cc.session = .paused ∧ (penStop r (ccTaken rs s.part)).cc.setpoint = 0 ∧
      (penStop r (ccTaken rs s.part)).cc.windowTimer = some ⟨s.part.tb, s.part.sl.inForce.chargePeriod⟩) := by
  have stop : penStop r (ccTaken rs s.part) =
      completeDone r rcOk [] (moment (fun p => reactToCauses (setHostCause true p)) (ccTaken rs s.part)) := if_neg h
  obtain ⟨m, k, hcc⟩ :=
    completeDone_moment (r := r) (fun p => reactToCauses (setHostCause true p)) (ccTaken rs s.part)
  rw [stop]
  refine ⟨completeDone_completes .., ?_, fun hs hi => ?_⟩
  · rw [hcc]
    exact congrArg Causes.host (reactToCauses_causes _)
  · rw [hcc, reactToCauses_setHostCause (p := ccTaken rs s.part) hi hs]
    exact ⟨rfl, rfl, rfl⟩

/-! ### RESUME (R114, R115, R134) -/

theorem resumeSilent_wakes (p : Part) :
    (resumeSilent p).cc.session = .waking ∧ (resumeSilent p).cc.causes.host = false ∧
    (p.resetWork = none → (resumeSilent p).nu.faults &&& FaultName.penSilent.set = 0#7) := by
  refine ⟨(enterWakingSession_enters _).1, ?_, fun hw => ?_⟩
  · rw [resumeSilent, enterWakingSession_causes]
    simp [setHostCause]
  · simpa [resumeSilent] using (clearFault_inactive .penSilent (setHostCause false p) hw).1

theorem resumeHost_causes (p : Part) : (resumeHost p).cc.causes = { p.cc.causes with host := false } := by
  unfold resumeHost
  dsimp only
  split
  · exact enterWakingSession_causes _
  · rfl

theorem resumeHost_session (p : Part) :
    (resumeHost p).cc.session =
      if p.cc.session = .paused ∧ p.pn.phase = .idle ∧ p.cc.causes.thermal = false ∧ p.cc.causes.budget = false
      then .waking else p.cc.session := by
  have empty : (!(setHostCause false p).cc.causes.any) = true ↔
      p.cc.causes.thermal = false ∧ p.cc.causes.budget = false := by
    simp [setHostCause, Causes.any]
  unfold resumeHost
  dsimp only
  split
  · next h =>
    obtain ⟨empties, paused, idle⟩ := h
    rw [if_pos ⟨paused, idle, empty.mp empties⟩]
    exact (enterWakingSession_enters _).1
  · next h =>
    rw [if_neg fun ⟨paused, idle, thermal, budget⟩ => h ⟨empty.mpr ⟨thermal, budget⟩, paused, idle⟩]
    rfl

theorem penResume_silent (h : s.part.cc.session = .silent) :
    CompletedWith r true rcOk [] (s.withPart (penResume r (ccTaken rs s.part))) ∧
    (penResume r (ccTaken rs s.part)).cc.session = .waking ∧
    (penResume r (ccTaken rs s.part)).cc.causes.host = false ∧
    (s.part.resetWork = none → ¬ FaultActive .penSilent (s.withPart (penResume r (ccTaken rs s.part)))) := by
  have resume : penResume r (ccTaken rs s.part) = completeDone r rcOk [] (moment resumeSilent (ccTaken rs s.part)) := by
    simp [penResume, ccTaken, h]
  obtain ⟨waking, host, gone⟩ := resumeSilent_wakes (ccTaken rs s.part)
  obtain ⟨m, k, hcc⟩ := completeDone_moment (r := r) resumeSilent (ccTaken rs s.part)
  rw [resume, hcc]
  refine ⟨completeDone_completes .., waking, host, fun hw => not_not.mpr ?_⟩
  simpa [moment_faults] using gone hw

theorem penResume_host (hp : s.part.cc.session ≠ .absent) (hs : s.part.cc.session ≠ .silent)
    (hh : s.part.cc.causes.host = true) :
    CompletedWith r true rcOk [] (s.withPart (penResume r (ccTaken rs s.part))) ∧
    (penResume r (ccTaken rs s.part)).cc.causes = { s.part.cc.causes with host := false } ∧
    (penResume r (ccTaken rs s.part)).cc.session =
      if s.part.cc.session = .paused ∧ s.part.pn.phase = .idle ∧ s.part.cc.causes.thermal = false ∧
        s.part.cc.causes.budget = false then .waking else s.part.cc.session := by
  have resume : penResume r (ccTaken rs s.part) = completeDone r rcOk [] (moment resumeHost (ccTaken rs s.part)) := by
    simp [penResume, ccTaken, hp, hs, hh]
  obtain ⟨m, k, hcc⟩ := completeDone_moment (r := r) resumeHost (ccTaken rs s.part)
  rw [resume, hcc]
  exact ⟨completeDone_completes .., resumeHost_causes _, resumeHost_session _⟩

theorem penResume_wrong (hp : s.part.cc.session ≠ .absent) (hs : s.part.cc.session ≠ .silent)
    (hh : s.part.cc.causes.host = false) :
    penResume r (ccTaken rs s.part) = completeFailed r rcWrongState (ccTaken rs s.part) := by
  simp [penResume, ccTaken, hp, hs, hh]

/-! ### CLEAR_LOCKOUT (R132, R134) -/

theorem lockoutCleared_wakes (p : Part) :
    (lockoutCleared p).cc.session = .waking ∧ (lockoutCleared p).cc.history = none ∧
    (p.resetWork = none → (lockoutCleared p).nu.faults &&& FaultName.penLockout.set = 0#7) := by
  refine ⟨(enterWakingSession_enters _).1, ?_, fun hw => ?_⟩
  · rw [lockoutCleared, enterWakingSession_history]
  · simpa [lockoutCleared] using (clearFault_inactive .penLockout p hw).1

theorem penClearLockout_clears (h : s.part.cc.session = .lockout) :
    CompletedWith r true rcOk [] (s.withPart (penClearLockout r (ccTaken rs s.part))) ∧
    (penClearLockout r (ccTaken rs s.part)).cc.session = .waking ∧
    (penClearLockout r (ccTaken rs s.part)).cc.history = none ∧
    (s.part.resetWork = none → ¬ FaultActive .penLockout (s.withPart (penClearLockout r (ccTaken rs s.part)))) := by
  have clear : penClearLockout r (ccTaken rs s.part) =
      completeDone r rcOk [] (moment lockoutCleared (ccTaken rs s.part)) := by
    simp [penClearLockout, ccTaken, h]
  obtain ⟨waking, history, gone⟩ := lockoutCleared_wakes (ccTaken rs s.part)
  obtain ⟨m, k, hcc⟩ := completeDone_moment (r := r) lockoutCleared (ccTaken rs s.part)
  rw [clear, hcc]
  refine ⟨completeDone_completes .., waking, history, fun hw => not_not.mpr ?_⟩
  simpa [moment_faults] using gone hw

theorem penClearLockout_wrong (hp : s.part.cc.session ≠ .absent) (hs : s.part.cc.session ≠ .lockout) :
    penClearLockout r (ccTaken rs s.part) = completeFailed r rcWrongState (ccTaken rs s.part) := by
  simp [penClearLockout, ccTaken, hp, hs]

/-! ### The obligation -/

theorem exec_penControlStop (hq : s.part.rq.cc = r :: rs) (hk : r.kind = 7#16) (ha : r.arg 0 = 1) :
    exec .penControlStop s = .next (s.withPart (penStop r (ccTaken rs s.part))) :=
  congrArg _ (takePenControl_head penStop hq (isPenControl_of_arg hk ha))

theorem exec_penControlResume (hq : s.part.rq.cc = r :: rs) (hk : r.kind = 7#16) (ha : r.arg 0 = 2) :
    exec .penControlResume s = .next (s.withPart (penResume r (ccTaken rs s.part))) :=
  congrArg _ (takePenControl_head penResume hq (isPenControl_of_arg hk ha))

theorem exec_penControlClearLockout (hq : s.part.rq.cc = r :: rs) (hk : r.kind = 7#16) (ha : r.arg 0 = 3) :
    exec .penControlClearLockout s = .next (s.withPart (penClearLockout r (ccTaken rs s.part))) :=
  congrArg _ (takePenControl_head penClearLockout hq (isPenControl_of_arg hk ha))

theorem exec_penControlBadArg (hq : s.part.rq.cc = r :: rs) (hk : r.kind = 7#16) (ha : r.arg 0 = 0 ∨ 3 < r.arg 0) :
    exec .penControlBadArg s = .next (s.withPart (penBadArg r (ccTaken rs s.part))) :=
  congrArg _ (takePenControl_head penBadArg hq (isBadPenControl_of_arg hk ha))

/-- Settles O37, by the session that each form finds. -/
theorem penControlRequests : Obligations.PenControlRequests := by
  refine ⟨fun r rs s hq hk ha => ⟨_, exec_penControlStop hq hk ha, penStop_taken .., fun h => ?_, penStop_stops⟩,
    fun r rs s hq hk ha => ⟨_, exec_penControlResume hq hk ha, penResume_taken .., fun h => ?_, penResume_silent,
      penResume_host, fun h hs hh => ?_⟩,
    fun r rs s hq hk ha => ⟨_, exec_penControlClearLockout hq hk ha, penClearLockout_taken .., fun h => ?_,
      penClearLockout_clears, fun h hs => ?_⟩,
    fun r rs s hq hk ha => ⟨_, exec_penControlBadArg hq hk ha, by simp [penBadArg, ccTaken], completeFailed_fails _⟩⟩
  · rw [(pen_absent h).1]
    exact completeFailed_fails _
  · rw [(pen_absent h).2.1]
    exact completeFailed_fails _
  · rw [penResume_wrong h hs hh]
    exact completeFailed_fails _
  · rw [(pen_absent h).2.2]
    exact completeFailed_fails _
  · rw [penClearLockout_wrong h hs]
    exact completeFailed_fails _

end Sys2Proof.Machine

/-! Grants and budget limits (O34): each is the greatest multiple of 10 under its bounds. -/

namespace Sys2Proof.Machine

/-! ### A current rounded down (R123, R125) -/

theorem trimCurrent_multiple (n : Nat) : trimCurrent n % 10 = 0 := by
  rw [trimCurrent_eq]
  split
  · rfl
  · exact Nat.mul_mod_left ..

theorem trimCurrent_zero_or_least (n : Nat) : trimCurrent n = 0 ∨ 20 ≤ trimCurrent n := by
  rw [trimCurrent_eq]
  split
  · exact .inl rfl
  · exact .inr (by omega)

/-- A multiple of 10 that is not above n is not above n rounded down. -/
theorem le_div_mul_ten {g n : Nat} (hm : g % 10 = 0) (hn : g ≤ n) : g ≤ n / 10 * 10 := by omega

/-- From 20 on, rounding down takes no multiple of 10 away (R125). -/
theorem le_trimCurrent {g n : Nat} (hm : g % 10 = 0) (hl : 20 ≤ g) (hn : g ≤ n) : g ≤ trimCurrent n := by
  rw [trimCurrent_eq, if_neg (by omega)]
  exact le_div_mul_ten hm hn

/-! ### The grant (R125) -/

theorem le_grantFor {c : Settings} {asked th b g : Nat} (hm : g % 10 = 0) (hl : 20 ≤ g) (ha : g ≤ asked)
    (hc : g ≤ c.ceiling) (ht : g ≤ th) (hb : g ≤ b) : g ≤ grantFor c asked (some th) (some b) :=
  le_trimCurrent hm hl (Nat.le_min.mpr ⟨Nat.le_min.mpr ⟨Nat.le_min.mpr ⟨ha, hc⟩, ht⟩, hb⟩)

/-! ### The budget limit (R123) -/

theorem budgetLimitOf_multiple (b r : Nat) : budgetLimitOf b r % 10 = 0 := by
  rcases Nat.le_total 500 ((b - r) / 5 / 10 * 10) with h | h
  · rw [budgetLimitOf, Nat.min_eq_left h]
  · rw [budgetLimitOf, Nat.min_eq_right h]
    exact Nat.mul_mod_left ..

theorem five_mul_budgetLimitOf_le (b r : Nat) : 5 * budgetLimitOf b r ≤ b - r :=
  calc
    5 * budgetLimitOf b r ≤ 5 * ((b - r) / 5 / 10 * 10) := Nat.mul_le_mul_left 5 (Nat.min_le_right ..)
    _ ≤ 5 * ((b - r) / 5) := Nat.mul_le_mul_left 5 (Nat.div_mul_le_self ..)
    _ ≤ b - r := Nat.mul_div_le ..

theorem le_budgetLimitOf {b r g : Nat} (hm : g % 10 = 0) (hg : g ≤ 500) (hb : 5 * g ≤ b - r) : g ≤ budgetLimitOf b r :=
  Nat.le_min.mpr ⟨hg, le_div_mul_ten hm (by omega)⟩

/-! ### The obligation -/

/-- Settles O34, by the rounding of the least bound, and the table by evaluation. -/
theorem grantsAndBudgetLimitsKeepTheirBounds : Obligations.GrantsAndBudgetLimitsKeepTheirBounds := by
  refine ⟨fun c asked th b g => ⟨?_, trimCurrent_multiple _, trimCurrent_zero_or_least _, le_grantFor⟩,
    fun b r g => ⟨budgetLimitOf_le b r, budgetLimitOf_multiple b r, five_mul_budgetLimitOf_le b r, le_budgetLimitOf⟩,
    by decide⟩
  have least := grantFor_le c asked (some th) b
  simp only [minLimit] at least
  omega

end Sys2Proof.Machine

/-! Overcurrents and the fault history (O36): the monitor's measurement makes a charge fault, and the history runs out. -/

namespace Sys2Proof.Machine

variable {p : Part} {s : State}

/-! ### The overcurrent is taken and shown (R130, R131, R135) -/

/-- With a measurement given, the offers after a charge fault put it in the place of CC's reading, and of the faults change
nothing (R130, R135). -/
theorem offerFault_measured (before : Part) (m : Nat) (q : Part) :
    (offerFault before (some m) q).cc = { q.cc with measured := m } ∧
    (offerFault before (some m) q).nu.faults = q.nu.faults ∧
    (offerFault before (some m) q).nu.lastFault = q.nu.lastFault := by
  simp only [offerFault]
  split <;> simp [offerPen]

/-- CHARGE is offered last at a charge fault, whatever changed (R135). -/
theorem offerFault_measured_waits (before : Part) (m : Nat) {q : Part} (h : q.resetWork = none) :
    ClassWaits .charge (offerFault before (some m) q) := by
  simp only [offerFault]
  refine offer_waits (.charge _) ?_
  split <;> simpa [offerPen] using h

theorem takeOvercurrent_faulted (m : Nat) (s : State) :
    ChargeFaulted .overcurrent s (s.withPart (takeOvercurrent m s.part)) := by
  obtain ⟨cc, faults, last⟩ := offerFault_measured s.part m (takeChargeFault .overcurrent s.part)
  have taken := takeChargeFault_faulted .overcurrent s.part.pn s
  simpa only [ChargeFaulted, FaultActive, State.withPart_part, takeOvercurrent, cc, faults, last, offerFault_frame]
    using taken

theorem takeOvercurrent_measured (m : Nat) (p : Part) : (takeOvercurrent m p).cc.measured = m := by
  rw [takeOvercurrent, (offerFault_measured ..).1]

theorem takeOvercurrent_waits (m : Nat) (h : p.resetWork = none) : ClassWaits .charge (takeOvercurrent m p) :=
  offerFault_measured_waits _ _ (by simpa using h)

/-! ### The obligation -/

theorem exec_overcurrent {m : BitVec 10} (ht : talkUse s.part.pn.phase = false) (hs : s.part.cc.session ≠ .absent)
    (hm : s.part.cc.setpoint + 50 < m.toNat) :
    exec (.overcurrent m) s = .next (s.withPart (takeOvercurrent m.toNat s.part)) := by
  have seen : overcurrentSeen m.toNat s.part = true := by simp [overcurrentSeen, monitorRuns, ht, hs, hm]
  simp [exec, execOvercurrent, seen, State.on, State.withPart]

theorem exec_faultHistoryExpiry (h : timerDue s.part.cc.history s.part.tb = true) :
    exec .faultHistoryExpiry s = .next { s with part := { s.part with cc := { s.part.cc with history := none } } } := by
  simp [exec, execFaultHistoryExpiry, h, State.on]

/-- Settles O36, by what an overcurrent taken writes and offers, and by the expiry's own command. -/
theorem chargeFaults : Obligations.ChargeFaults :=
  ⟨fun _ s ht hs hm => ⟨_, exec_overcurrent ht hs hm, takeOvercurrent_faulted _ s, takeOvercurrent_measured ..,
    takeOvercurrent_waits _⟩, fun _ => exec_faultHistoryExpiry⟩

end Sys2Proof.Machine

/-! What the other blocks do around an answer of SA (O39): it leaves SA, and all that an advice is made of, alone. -/

namespace Sys2Proof.Machine

variable {p q r : Part}

/-! ### What leaves SA and its advice alone -/

/-- What an advice is made of stands in `q` as in `p`: SA's state, ADVICE's record, the time, the settings and the reset's
work (R149, R174). -/
structure Unadvised (p q : Part) : Prop where
  sa : q.sa = p.sa
  advice : q.nu.classes.get .advice = p.nu.classes.get .advice
  tb : q.tb = p.tb
  sl : q.sl = p.sl
  resetWork : q.resetWork = p.resetWork

namespace Unadvised

theorem refl (p : Part) : Unadvised p p := ⟨rfl, rfl, rfl, rfl, rfl⟩

theorem trans (h : Unadvised p q) (k : Unadvised q r) : Unadvised p r :=
  ⟨k.sa.trans h.sa, k.advice.trans h.advice, k.tb.trans h.tb, k.sl.trans h.sl, k.resetWork.trans h.resetWork⟩

/-- A change of other blocks before it. -/
theorem after (h : Unadvised q r) (hq : q.sa = p.sa ∧ q.nu = p.nu ∧ q.tb = p.tb ∧ q.sl = p.sl ∧ q.resetWork = p.resetWork) :
    Unadvised p r := by
  obtain ⟨hsa, hnu, htb, hsl, hwork⟩ := hq
  exact trans ⟨hsa, by rw [hnu], htb, hsl, hwork⟩ h

theorem ite {c : Prop} [Decidable c] (hq : Unadvised p q) (hr : Unadvised p r) : Unadvised p (if c then q else r) :=
  holds_ite hq hr

/-- An offer of another class's content (R175). -/
theorem offer (c : Content) (hc : NoticeClass.advice ≠ c.cls) : Unadvised p (offer (.content c) p) :=
  ⟨by simp, offer_other_class c p hc, by simp, by simp, by simp⟩

/-- A change of the active fault set offers FAULT alone (R178). -/
theorem clearFault (f : FaultName) : Unadvised p (clearFault f p) := by
  refine ⟨by simp, ?_, by simp, by simp, by simp⟩
  unfold Machine.clearFault Machine.offer
  split
  · rfl
  · exact absorb_other _ _ (by simp [Content.cls])

/-- One moment at CC offers PEN and CHARGE alone (R120, R135). -/
theorem moment {f : Part → Part} (h : Unadvised p (f p)) : Unadvised p (moment f p) := by
  have pen : Unadvised p (if penKey (f p) ≠ penKey p then offerPen (f p) else f p) :=
    ite (h.trans (offer (.pen _) (by simp [Content.cls]))) h
  refine ite (pen.trans ?_) pen
  have read (q : Part) : Unadvised q (readCurrent q) := ite ⟨rfl, rfl, rfl, rfl, rfl⟩ ⟨rfl, rfl, rfl, rfl, rfl⟩
  exact (read _).trans (offer (.charge _) (by simp [Content.cls]))

theorem setReservation (n : Nat) : Unadvised p (setReservation n p) := by
  refine ite (refl p) ?_
  have limited (q : Part) : Unadvised q (relimit false { q with cc := { q.cc with reservation := n } }) := by
    constructor <;> simp
  exact (Unadvised.moment (limited _)).after ⟨rfl, rfl, rfl, rfl, rfl⟩

theorem debouncedPenh (present : Bool) : Unadvised p (debouncedPenh present p) := by
  refine moment ?_
  cases present with
  | true => constructor <;> simp
  | false =>
    simp only [Bool.false_eq_true, if_false, penGone]
    split
    · exact (clearFault _).after ⟨rfl, rfl, rfl, rfl, rfl⟩
    · exact ⟨rfl, rfl, rfl, rfl, rfl⟩

theorem clearLinkFault : Unadvised p (clearLinkFault p) := by
  unfold Machine.clearLinkFault
  split
  · exact clearFault _
  · exact clearFault _
  · exact refl p

theorem emptyQueue (gone : Bool) : Unadvised p (emptyQueue gone p) := by constructor <;> simp

theorem offerIfQueued (n : Nat) : Unadvised p (offerIfQueued n p) :=
  ite (offer .keys (by simp [Content.cls])) (refl p)

theorem linkToldKeys (old new : Link) : Unadvised p (linkToldKeys old new p) :=
  ite ((offerIfQueued _).after ⟨rfl, rfl, rfl, rfl, rfl⟩) (refl p)

theorem offerBase (e : BaseEvent) : Unadvised p (offerBase e p) := offer (.base _) (by simp [Content.cls])

theorem decided (p : Part) : Unadvised p (decided p) :=
  ⟨by simp [Machine.decided], decideSuppression_other_class (by simp) _, by simp [Machine.decided],
    by simp [Machine.decided], by simp [Machine.decided]⟩

/-- An evaluation of PC that publishes no posture tells SA nothing (R42, R45). -/
theorem evaluatePosture (h : p.bl.link.attached = false → p.pc.published = .detached) :
    Unadvised p (evaluatePosture p) := by
  have published : (Machine.decided p).pc.published = p.pc.published := by
    cases hl : p.bl.link.attached with
    | true => exact decided_published hl
    | false => rw [decided_unattached hl, h hl]
  rw [evaluatePosture_eq]
  simp only [handOn, published, if_true]
  refine ite (decided p) ((decided p).trans ?_)
  exact (offer (.posture _) (by simp [Content.cls])).after ⟨rfl, rfl, rfl, rfl, rfl⟩

end Unadvised

/-- A wake is pending although the minimum time has passed: `WakeOverdue`, of the part alone (R70). -/
abbrev Overdue (p : Part) : Prop :=
  p.bl.link = .hibernate ∧ p.bl.pendingWake = true ∧ p.bl.minHibTimer = none

/-- The part as SA is told of an entry into a link state: KT, PC and PW have been told (R62). -/
def linkHeard (new : Link) (p : Part) : Part :=
  linkToldProfile p.bl.link new (evaluatePosture (linkToldKeys p.bl.link new { p with bl := p.bl.changeLink new }))

theorem enterLink_eq (new : Link) (p : Part) : enterLink new p = linkTold p.bl.link new (linkHeard new p) := rfl

namespace Unadvised

theorem linkHeard {new : Link} (h : new.attached = false → p.pc.published = .detached) :
    Unadvised p (linkHeard new p) := by
  let q := Machine.linkToldKeys p.bl.link new { p with bl := p.bl.changeLink new }
  have keys : Unadvised p q := (linkToldKeys _ _).after ⟨rfl, rfl, rfl, rfl, rfl⟩
  have evaluated : Unadvised q (Machine.evaluatePosture q) := evaluatePosture (by simpa [q, Bl.changeLink] using h)
  exact (keys.trans evaluated).trans (by constructor <;> simp [Machine.linkHeard, q])

/-- An entry into an attached state publishes no posture, and is no activity (R42, R142). -/
theorem enterLink {new : Link} (h : new.attached = true) : Unadvised p (enterLink new p) := by
  have heard : Unadvised p (Machine.linkHeard new p) := linkHeard (by simp [h])
  rw [enterLink_eq]
  cases new <;> first | exact heard | simp [Link.attached] at h

/-- Without an overdue wake the link's own moves enter attached states alone (R67 to R70). -/
theorem settleWith (restart : Bool) (h : ¬ Overdue p) :
    Unadvised p (settleWith restart p) := by
  have waked : wakeIfPending p = p := if_neg h
  have roused : Unadvised p (rouseIfQueued p) := ite ((enterLink rfl).after ⟨rfl, rfl, rfl, rfl, rfl⟩) (refl p)
  have hibernated : Unadvised (rouseIfQueued p) (hibernateIfDue (rouseIfQueued p)) :=
    ite (((enterLink rfl).trans (offerBase _)).after ⟨rfl, rfl, rfl, rfl, rfl⟩) (refl _)
  rw [Machine.settleWith, waked]
  exact (roused.trans hibernated).trans (by constructor <;> simp)

theorem settle (h : ¬ Overdue p) :
    Unadvised p (settle p) := settleWith false h

/-- SA and ADVICE's record stand as they did, so also but for the posture. -/
theorem hushed (h : Unadvised p q) : Hushed p.sa (p.nu.classes.get .advice) q := ⟨⟨p.sa.posture, h.sa⟩, h.advice⟩

end Unadvised

/-- SA and its advice stand where nothing more touches them. -/
theorem Hushed.unadvised {a : Sa} {cell : ClassCell} (h : Hushed a cell p) (k : Unadvised p q) : Hushed a cell q :=
  ⟨by rw [k.sa]; exact h.1, k.advice.trans h.2⟩

end Sys2Proof.Machine

/-! An activity, a wake cause, and SA's two timers (O39): what SA's state and ADVICE's record are after each. -/

namespace Sys2Proof.Machine

variable {p q : Part} {s t : State}

/-! ### An activity, and a wake cause (R142, R147 to R149) -/

theorem Unadvised.restarted (h : Unadvised p q) : restarted q = restarted p := by
  rw [Machine.restarted, Machine.restarted, h.tb, h.sl]

/-- An activity taken while the host runs, with nothing after it that touches SA or its advice (R142). -/
theorem activityTaken_of (hq : Unadvised s.part q) (hr : s.part.sa.hostState = .running)
    (ht : Unadvised (activity q) t.part) : ActivityTaken s t := by
  have running : q.sa.hostState = .running := by rwa [hq.sa]
  refine ⟨?_, fun hi => ?_, fun hi => ?_⟩
  · rw [InactivityRestarted, ht.sa, activity_inactivity running, hq.restarted]
    rfl
  · rw [activity_idle running (by rwa [hq.sa])] at ht
    have undimmed := ht.sa
    rw [advise_sa] at undimmed
    refine ⟨by rw [undimmed], by rw [undimmed], ?_⟩
    refine advised_of_advise (k := .undim) (causes := 0#6) ht.advice ⟨_, undimmed⟩ ?_ hq.advice hq.tb hq.resetWork
    rw [hq.sa]
  · rw [activity_awake running (by rwa [hq.sa])] at ht
    rw [ht.sa, hq.sa]
    exact ⟨rfl, rfl, ht.advice.trans hq.advice⟩

/-- While the host runs no wake cause is taken with an activity (R147). -/
theorem wakeCause_activity (hr : p.sa.hostState = .running) (hw : p.sa.advisor ≠ .watching) (c : AdviceCause) :
    wakeCause c (activity p) = activity p := by
  refine if_neg ?_
  by_cases hi : p.sa.advisor = .idle
  · rw [activity_idle hr hi, advise_sa]
    simp
  · rwa [activity_awake hr hi]

theorem wakeCause_watching (hw : p.sa.advisor = .watching) (c : AdviceCause) : wakeCause c p = adviseWake c p := if_pos hw

theorem adviseWake_advice (c : AdviceCause) (p : Part) :
    (adviseWake c p).nu.classes.get .advice = (advise .wake c.set p).nu.classes.get .advice := by
  unfold adviseWake
  dsimp only
  split <;> rfl

/-- A wake advised orders a hibernating link to STALL, so that its wake is pending (R70, R148). -/
theorem adviseWake_order (hl : p.bl.link = .hibernate) (c : AdviceCause) :
    (adviseWake c p).bl.target = .stall ∧ (adviseWake c p).bl.pendingWake = true := by
  simp [adviseWake, orderTarget, hl]

/-- The part as SA has advised a wake. -/
theorem adviseWake_hushed (h : Unadvised p q) (c : AdviceCause) :
    Hushed p.sa ((advise .wake c.set q).nu.classes.get .advice) (adviseWake c q) :=
  ⟨⟨p.sa.posture, by simpa using h.sa⟩, adviseWake_advice c q⟩

/-- A wake advised in WATCHING, with nothing after it that touches SA, but for the posture, or its advice (R147 to R149). -/
theorem wakeAdvised_of {c : AdviceCause} (hq : Unadvised s.part q) (hw : s.part.sa.advisor = .watching)
    (ht : Hushed s.part.sa ((advise .wake c.set q).nu.classes.get .advice) t.part)
    (hl : s.part.bl.link = .hibernate → t.part.bl.target = .stall ∧
      (t.part.bl.link = .waking ∨ (t.part.bl.link = .hibernate ∧ t.part.bl.pendingWake = true))) :
    WakeAdvised (c.set.setWidth 16) s.part.sa.posture s t := by
  obtain ⟨⟨y, hsa⟩, hadvice⟩ := ht
  refine ⟨by rw [hsa, hw], ?_, hl⟩
  exact advised_of_advise (k := .wake) hadvice ⟨y, by rw [hsa, hq.sa]⟩ (by rw [hq.sa]) hq.advice hq.tb hq.resetWork

/-- A pending wake is carried out, or waits for the minimum time (R70). -/
theorem settle_pendingWake (hl : p.bl.link = .hibernate) (ht : p.bl.target = .stall) (hw : p.bl.pendingWake = true) :
    (settle p).bl.target = .stall ∧
    ((settle p).bl.link = .waking ∨ ((settle p).bl.link = .hibernate ∧ (settle p).bl.pendingWake = true)) := by
  rw [settle_of_hibernate hl, pump_target, pump_link, pump_pendingWake, wakeIfPending]
  split
  · refine ⟨?_, .inl (by simp [enterWaking])⟩
    rcases (enterWaking_order p).1 with order | ⟨-, order⟩
    · exact order.trans ht
    · exact order
  · exact ⟨ht, .inr ⟨hl, hw⟩⟩

/-- A wake cause taken in WATCHING, and the link's own moves after it (R147, R148). -/
theorem settle_wakeCause_advised {c : AdviceCause} (hq : Unadvised s.part q) (hn : s.part.sa.hostState ≠ .running)
    (hw : s.part.sa.advisor = .watching) (hl : q.bl.link = s.part.bl.link) (ht : t.part = settle (wakeCause c q)) :
    WakeAdvised (c.set.setWidth 16) s.part.sa.posture s t := by
  have watching : q.sa.advisor = .watching := by rwa [hq.sa]
  rw [wakeCause_watching watching] at ht
  refine wakeAdvised_of hq hw (by rw [ht]; exact (adviseWake_hushed hq c).settle hn) fun hh => ?_
  obtain ⟨target, pending⟩ := adviseWake_order (hl.trans hh) c
  rw [ht]
  exact settle_pendingWake (by simpa [hl] using hh) target pending

/-! ### The timers (R143, R145) -/

/-- An advice given is under way once the reset's work has ended (R149, R175). -/
theorem advise_underWay (k : AdviceKind) (causes : BitVec 6) (hw : p.resetWork = none) :
    ((advise k causes p).nu.classes.get .advice).publishing ≠ none ∨
    ((advise k causes p).nu.classes.get .advice).shadow ≠ none := by
  rw [advise, offer_taken _ _ hw]
  exact absorb_underWay _ _ (by simp)

theorem exec_inactivityExpiry (h : timerDue s.part.sa.inactivity s.part.tb = true) :
    exec .inactivityExpiry s = .next (s.on inactivityExpired) := by
  simp [exec, execInactivityExpiry, h]

theorem exec_graceExpiry (h : timerDue s.part.sa.grace s.part.tb = true) :
    exec .graceExpiry s = .next (s.on graceExpired) := by
  simp [exec, execGraceExpiry, h]

/-- In ACTIVE the display is dimmed (R143). -/
theorem inactivityExpired_dims (ha : p.sa.advisor = .active) (hk : p.sl.inForce.keepAwake = false) :
    (inactivityExpired p).sa = { p.sa with inactivity := none, advisor := .idle, dimmed := true } ∧
    (p.resetWork = none → NoticeUnderWay .advice (s.withPart (inactivityExpired p))) := by
  have dims : inactivityExpired p =
      advise .dim 0#6 { p with sa := { p.sa with inactivity := none, advisor := .idle, dimmed := true } } := by
    simp [inactivityExpired, ha, hk]
  rw [dims, advise_sa]
  exact ⟨rfl, fun hw => advise_underWay .dim 0#6 hw⟩

theorem inactivityExpired_other (h : ¬ (p.sa.advisor = .active ∧ p.sl.inForce.keepAwake = false)) :
    inactivityExpired p = { p with sa := { p.sa with inactivity := none } } :=
  if_neg (by simpa using h)

/-- In CLOSE_PENDING sleep is advised (R145). -/
theorem graceExpired_advises (ha : p.sa.advisor = .closePending) :
    (graceExpired p).sa = { p.sa with grace := none, advisor := .sleepAdvised } ∧
    (p.resetWork = none → NoticeUnderWay .advice (s.withPart (graceExpired p))) := by
  have advises : graceExpired p =
      advise .sleep AdviceCause.lid.set { p with sa := { p.sa with grace := none, advisor := .sleepAdvised } } := if_pos ha
  rw [advises, advise_sa]
  exact ⟨rfl, fun hw => advise_underWay .sleep _ hw⟩

theorem graceExpired_other (ha : p.sa.advisor ≠ .closePending) :
    graceExpired p = { p with sa := { p.sa with grace := none } } := if_neg ha

end Sys2Proof.Machine

/-! The inputs and the orientation as SA hears of them (O39): a rotation published, PENH, the base attached and detached, and
LIDH. -/

namespace Sys2Proof.Machine

variable {p q : Part} {s t : State}

/-! ### Orientation and PENH (R50, R142, R147) -/

theorem rotationExpired_taken {x : Rotation} (hc : s.part.ot.candidate = some x) (hr : s.part.sa.hostState = .running) :
    ActivityTaken s (s.on rotationExpired) := by
  have offered : Unadvised s.part (offerOrientation { s.part with ot :=
      { s.part.ot with rotation := x, candidate := none, dwell := none, time := s.part.tb } }) :=
    (Unadvised.offer (.orientation _) (by simp [Content.cls])).after ⟨rfl, rfl, rfl, rfl, rfl⟩
  refine activityTaken_of offered hr ?_
  rw [State.on_part, rotationExpired_of_candidate hc]
  exact .refl _

/-- The part as SA is told of a debounced change of PENH: CC has been told (R14, R110, R118). -/
def penHeard (p : Part) : Part :=
  debouncedPenh (filteredActive p.sl.inForce .penh p.inp.penh.level) (debouncedTaken .penh p)

theorem penHeard_unadvised (p : Part) : Unadvised p (penHeard p) :=
  (Unadvised.debouncedPenh _).after ⟨rfl, rfl, rfl, rfl, rfl⟩

theorem penHeard_bl (p : Part) : (penHeard p).bl = p.bl := by simp [penHeard, debouncedTaken]

theorem debounceExpired_penh_eq (p : Part) : debounceExpired .penh p =
    settle (penTold (filteredActive p.sl.inForce .penh p.inp.penh.level) (penHeard p)) := rfl

/-- While the host runs a change of PENH is an activity alone (R142, R147). -/
theorem penTold_running (hr : p.sa.hostState = .running) (hw : p.sa.advisor ≠ .watching) (present : Bool) :
    penTold present p = activity p := by
  simp only [penTold, wakeCause_activity hr hw, ite_self]

/-- Otherwise a pen removed is the cause of a wake, where that is on (R147). -/
theorem penTold_notRunning (hn : p.sa.hostState ≠ .running) (present : Bool) :
    penTold present p =
      if present = false ∧ p.sl.inForce.penWake = true then wakeCause .penRemoved p else p := by
  simp [penTold, activity_notRunning hn]

theorem debounceExpired_penh_taken (ho : ¬ WakeOverdue s) (hr : s.part.sa.hostState = .running)
    (hw : s.part.sa.advisor ≠ .watching) : ActivityTaken s (s.on (debounceExpired .penh)) := by
  have heard := penHeard_unadvised s.part
  refine activityTaken_of heard hr ?_
  rw [State.on_part, debounceExpired_penh_eq, penTold_running (by rwa [heard.sa]) (by rwa [heard.sa])]
  exact .settle (by simpa [penHeard_bl] using ho)

theorem debounceExpired_penh_wakes (hn : s.part.sa.hostState ≠ .running) (hw : s.part.sa.advisor = .watching) :
    if filteredActive s.part.sl.inForce .penh s.part.inp.penh.level = false ∧ s.part.sl.inForce.penWake = true
    then WakeAdvised 8#16 s.part.sa.posture s (s.on (debounceExpired .penh))
    else (debounceExpired .penh s.part).nu.classes.get .advice = s.part.nu.classes.get .advice := by
  have heard := penHeard_unadvised s.part
  rw [debounceExpired_penh_eq, penTold_notRunning (by rwa [heard.sa]), heard.sl]
  split
  · next hc =>
    refine settle_wakeCause_advised (c := .penRemoved) heard hn hw (by rw [penHeard_bl]) ?_
    rw [State.on_part, debounceExpired_penh_eq, penTold_notRunning (by rwa [heard.sa]), heard.sl, if_pos hc]
  · exact (heard.hushed.settle hn).2

/-! ### The base attached and detached (R62, R142, R147) -/

/-- The part as the link enters POWERING at an attach (R64). -/
def attaching (p : Part) : Part :=
  setReservation 1200 { clearLinkFault p with bl := { (clearLinkFault p).bl with
    helloAttempts := 0, txSeq := 0#4, expSeq := none, powerTimer := startTimer (clearLinkFault p).tb 5 } }

theorem attaching_unadvised (p : Part) : Unadvised p (attaching p) :=
  Unadvised.clearLinkFault.trans ((Unadvised.setReservation _).after ⟨rfl, rfl, rfl, rfl, rfl⟩)

/-- The part as SA is told of an attach, DETACHED being published (R62, R64). -/
def attachHeard (p : Part) : Part := linkHeard .powering (attaching (debouncedTaken .bpres p))

theorem attachHeard_unadvised (hp : p.pc.published = .detached) : Unadvised p (attachHeard p) :=
  ((attaching_unadvised _).trans (.linkHeard fun _ => by simpa [attaching, debouncedTaken] using hp)).after
    ⟨rfl, rfl, rfl, rfl, rfl⟩

theorem enterPowering_of_detached (hl : p.bl.link = .detached) :
    enterPowering .attached (debouncedTaken .bpres p) =
      offerBase .attached (wakeCause .baseAttached (activity (attachHeard p))) := by
  have detached : (attaching (debouncedTaken .bpres p)).bl.link = .detached := by
    simpa [attaching, setReservation_bl, debouncedTaken] using hl
  have told := enterLink_eq .powering (attaching (debouncedTaken .bpres p))
  rw [detached] at told
  exact congrArg (offerBase .attached) told

theorem debounceExpired_attach (ha : filteredActive p.sl.inForce .bpres p.inp.bpres.level = true)
    (hl : p.bl.link = .detached) :
    debounceExpired .bpres p = settle (settle (enterPowering .attached (debouncedTaken .bpres p))) := by
  simp [debounceExpired_eq, debouncedChange, presenceTold, PerInput.get, ha, debouncedTaken_frame, hl]

theorem debounceExpired_detach (ha : filteredActive p.sl.inForce .bpres p.inp.bpres.level = false)
    (hl : p.bl.link ≠ .detached) :
    debounceExpired .bpres p = settle (settle (enterDetached (debouncedTaken .bpres p))) := by
  simp [debounceExpired_eq, debouncedChange, presenceTold, PerInput.get, ha, debouncedTaken_frame, hl]

section
variable (ha : filteredActive s.part.sl.inForce .bpres s.part.inp.bpres.level = true) (hl : s.part.bl.link = .detached)
  (hp : s.part.pc.published = .detached)
include ha hl hp

theorem attach_taken (hr : s.part.sa.hostState = .running) (hw : s.part.sa.advisor ≠ .watching) :
    ActivityTaken s (s.on (debounceExpired .bpres)) := by
  have heard := attachHeard_unadvised hp
  have powering : (enterPowering .attached (debouncedTaken .bpres s.part)).bl.link = .powering := (enterPowering_bl ..).1
  refine activityTaken_of heard hr ?_
  rw [State.on_part, debounceExpired_attach ha hl]
  have entered := enterPowering_of_detached hl
  rw [wakeCause_activity (by rwa [heard.sa]) (by rwa [heard.sa])] at entered
  refine Unadvised.trans ?_ ((Unadvised.settle (by simp [powering])).trans
    (.settle (by simp [(settle_powering powering).1])))
  rw [entered]
  exact .offerBase _

theorem attach_wakes (hn : s.part.sa.hostState ≠ .running) (hw : s.part.sa.advisor = .watching) :
    WakeAdvised 16#16 s.part.sa.posture s (s.on (debounceExpired .bpres)) := by
  have heard := attachHeard_unadvised hp
  refine wakeAdvised_of (c := .baseAttached) heard hw ?_ (by simp [hl])
  rw [State.on_part, debounceExpired_attach ha hl, enterPowering_of_detached hl, activity_notRunning (by rwa [heard.sa]),
    wakeCause_watching (by rwa [heard.sa])]
  exact (((adviseWake_hushed heard _).offerBase _).settle hn).settle hn

end

/-- The part as the link enters DETACHED (R73). -/
def detaching (p : Part) : Part :=
  let q := emptyQueue true (clearLinkFault p)
  setReservation 0 { q with bl := { q.bl.cancelTimers with
    expSeq := none, ovReply := none, ovStall := none, ident := none, status := none } }

theorem enterDetached_eq (p : Part) : enterDetached p = offerBase .detached (enterLink .detached (detaching p)) := rfl

theorem detaching_unadvised (p : Part) : Unadvised p (detaching p) :=
  (Unadvised.clearLinkFault.trans (.emptyQueue true)).trans
    ((Unadvised.setReservation 0).after ⟨rfl, rfl, rfl, rfl, rfl⟩)

/-- While the host runs DETACHED leaves ACTIVE, and brings IDLE back to it at most (R142). -/
theorem tellPosture_detached_awake (hd : p.pc.published = .detached) (hr : p.sa.hostState = .running)
    (ha : p.sa.advisor = .active ∨ p.sa.advisor = .idle) :
    (tellPosture p).sa.advisor = .active ∨ (tellPosture p).sa.advisor = .idle := by
  have told : (tellPosture p).sa = (postureRunning .detached (advisorHears .detached p)).sa := by
    unfold tellPosture
    rw [hd, postureTold_running hr]
    dsimp only
    split <;> rfl
  have running : (advisorHears .detached p).sa.hostState = .running := (orientationTold_hostState _ p).trans hr
  have taken {q : Part} (hq : q.sa.hostState = .running) (hi : q.sa.advisor = .active ∨ q.sa.advisor = .idle) :
      (postureRunning .detached q).sa.advisor = .active := by
    rcases hi with hi | hi
    · rw [postureRunning_active (.inl (by simp)) hq hi, hi]
    · rw [postureRunning_idle (.inl (by simp)) hq hi, advise_sa]
  rw [told]
  refine .inl (taken running ?_)
  rcases ha with ha | ha
  · obtain ⟨⟨i, heard⟩, -⟩ := advisorHears_awake (x := .detached) hr (by simp [ha])
    exact .inl (by rw [heard, ha])
  · rcases advisorHears_idle (x := .detached) hr ha with heard | ⟨i, heard⟩
    · exact .inr (by rw [heard, ha])
    · exact .inl (by rw [heard])

theorem evaluatePosture_hostState (p : Part) : (evaluatePosture p).sa.hostState = p.sa.hostState :=
  ((undisturbed_carried p).carried.evaluate p (.refl p)).2.2.1.1

theorem evaluatePosture_unattached_awake (hl : p.bl.link.attached = false) (hr : p.sa.hostState = .running)
    (ha : p.sa.advisor = .active ∨ p.sa.advisor = .idle) :
    (evaluatePosture p).sa.advisor = .active ∨ (evaluatePosture p).sa.advisor = .idle := by
  by_cases hp : p.pc.published = .detached
  · rwa [(Unadvised.evaluatePosture fun _ => hp).sa]
  · have sa := (Unadvised.decided p).sa
    have published := decided_unattached hl
    rw [evaluatePosture_eq, (handOn_of_changed (by rw [published]; exact Ne.symm hp)).1]
    exact tellPosture_detached_awake published (by rwa [sa]) (by rwa [sa])

/-- The part as SA is told of a detach (R62, R73). -/
def detachHeard (p : Part) : Part := linkHeard .detached (detaching (debouncedTaken .bpres p))

/-- What PC evaluates at a detach. -/
def detachEvaluated (p : Part) : Part :=
  let q := detaching (debouncedTaken .bpres p)
  linkToldKeys q.bl.link .detached { q with bl := q.bl.changeLink .detached }

theorem detachEvaluated_unadvised (p : Part) : Unadvised p (detachEvaluated p) := by
  have keys (q : Part) : Unadvised q (linkToldKeys q.bl.link .detached { q with bl := q.bl.changeLink .detached }) :=
    (Unadvised.linkToldKeys _ _).after ⟨rfl, rfl, rfl, rfl, rfl⟩
  exact ((detaching_unadvised (debouncedTaken .bpres p)).trans (keys _)).after ⟨rfl, rfl, rfl, rfl, rfl⟩

theorem detachHeard_frame (p : Part) :
    (detachHeard p).sa = (evaluatePosture (detachEvaluated p)).sa ∧ (detachHeard p).tb = p.tb ∧
    (detachHeard p).sl = p.sl := by
  have evaluated := detachEvaluated_unadvised p
  have heard : detachHeard p = linkToldProfile (detaching (debouncedTaken .bpres p)).bl.link .detached
    (evaluatePosture (detachEvaluated p)) := rfl
  rw [heard]
  simp [evaluated.tb, evaluated.sl]

/-- A detach is an activity (R142). -/
theorem activity_awakes (hr : p.sa.hostState = .running) (ha : p.sa.advisor = .active ∨ p.sa.advisor = .idle) :
    (activity p).sa.advisor = .active := by
  rcases ha with ha | ha
  · rw [activity_awake hr (by simp [ha]), ha]
  · rw [activity_idle hr ha, advise_sa]

section
variable (ha : filteredActive s.part.sl.inForce .bpres s.part.inp.bpres.level = false) (hl : s.part.bl.link ≠ .detached)
include ha hl

theorem detach_taken (hr : s.part.sa.hostState = .running) :
    InactivityRestarted s (s.on (debounceExpired .bpres)) ∧
    (s.part.sa.advisor = .active ∨ s.part.sa.advisor = .idle →
      (debounceExpired .bpres s.part).sa.advisor = .active) := by
  obtain ⟨hsa, htb, hsl⟩ := detachHeard_frame s.part
  have evaluated := detachEvaluated_unadvised s.part
  have running : (detachHeard s.part).sa.hostState = .running := by rwa [hsa, evaluatePosture_hostState, evaluated.sa]
  have gone := enterDetached_gone (debouncedTaken .bpres s.part)
  have settled : Unadvised (enterDetached (debouncedTaken .bpres s.part)) (debounceExpired .bpres s.part) := by
    rw [debounceExpired_detach ha hl]
    exact (Unadvised.settle (by simp [gone.1.1])).trans (.settle (by simp [(settle_gone gone).1.1]))
  have sa : (debounceExpired .bpres s.part).sa = (activity (detachHeard s.part)).sa :=
    ((Unadvised.offerBase .detached).trans settled).sa
  refine ⟨?_, fun hi => ?_⟩
  · rw [InactivityRestarted, State.on_part, sa, activity_inactivity running, restarted, htb, hsl]
  · rw [sa]
    refine activity_awakes running ?_
    rw [hsa]
    exact evaluatePosture_unattached_awake (by simp [detachEvaluated, Bl.changeLink, Link.attached]) (by rwa [evaluated.sa])
      (by rwa [evaluated.sa])

theorem detach_hushed (hn : s.part.sa.hostState ≠ .running) :
    (debounceExpired .bpres s.part).sa.inactivity = s.part.sa.inactivity ∧
    (debounceExpired .bpres s.part).nu.classes.get .advice = s.part.nu.classes.get .advice := by
  have taken := (detaching_unadvised (debouncedTaken .bpres s.part)).hushed
  have hushed := (((taken.enterLink hn (new := .detached) (by simp)).offerBase .detached).settle hn).settle hn
  rw [debounceExpired_detach ha hl, enterDetached_eq]
  obtain ⟨⟨x, hsa⟩, hadvice⟩ := hushed
  exact ⟨by rw [hsa]; rfl, hadvice⟩

end

/-! ### LIDH (R147) -/

/-- The part as SA is told of a debounced change of LIDH: PC has evaluated it (R14, R35). -/
def lidHeard (p : Part) : Part := evaluatePosture (debouncedTaken .lidh p)

theorem lidHeard_unadvised (hl : p.bl.link.attached = true) : Unadvised p (lidHeard p) := by
  refine (Unadvised.evaluatePosture ?_).after ⟨rfl, rfl, rfl, rfl, rfl⟩
  simp [debouncedTaken_frame, hl]

theorem debounceExpired_lidh_eq (p : Part) : debounceExpired .lidh p =
    settle (lidTold (filteredActive p.sl.inForce .lidh p.inp.lidh.level) (lidHeard p)) := rfl

theorem debounceExpired_lidh_wakes (hl : s.part.bl.link.attached = true) (hn : s.part.sa.hostState ≠ .running)
    (hw : s.part.sa.advisor = .watching) :
    if filteredActive s.part.sl.inForce .lidh s.part.inp.lidh.level = false ∧ s.part.sa.posture = .closed
    then WakeAdvised 2#16 .closed s (s.on (debounceExpired .lidh))
    else (debounceExpired .lidh s.part).nu.classes.get .advice = s.part.nu.classes.get .advice := by
  have heard := lidHeard_unadvised hl
  have told (active : Bool) : lidTold active (lidHeard s.part) =
      if active = false ∧ s.part.sa.posture = .closed then wakeCause .lidOpen (lidHeard s.part) else lidHeard s.part := by
    simp [lidTold, heard.sa]
  rw [debounceExpired_lidh_eq, told]
  split
  · next hc =>
    have woken := settle_wakeCause_advised (c := .lidOpen) (t := s.on (debounceExpired .lidh)) heard hn hw
      (by simp [lidHeard, debouncedTaken]) (by rw [State.on_part, debounceExpired_lidh_eq, told, if_pos hc])
    rwa [hc.2] at woken
  · exact (heard.hushed.settle hn).2

end Sys2Proof.Machine

/-! Lid motion and key presses as SA hears of them (O39), and the obligation. -/

namespace Sys2Proof.Machine

variable {p q : Part} {s t : State}

/-! ### Lid motion (R141, R142, R147) -/

theorem movedBeyond_iff (n : Nat) (a b : Int × Int × Int) :
    movedBeyond n a b = true ↔
      n < (a.1 - b.1).natAbs ∨ n < (a.2.1 - b.2.1).natAbs ∨ n < (a.2.2 - b.2.2).natAbs := by
  simp only [movedBeyond, Bool.or_eq_true, decide_eq_true_eq, Int.ofNat_lt, or_assoc]

theorem pickupPosture_iff (x : Posture) : pickupPosture x = true ↔ x ∈ [.tablet, .flat, .detached] := by
  cases x <;> decide

/-- The part with this lid sample as the one before the next (R141). -/
def sampleStored (v : Reading) (p : Part) : Part := { p with sa := { p.sa with previous := some v } }

theorem Unadvised.sampleStored (h : Unadvised p q) (v : Reading) : Unadvised (sampleStored v p) (sampleStored v q) :=
  ⟨congrArg (fun a : Sa => { a with previous := some v }) h.sa, h.advice, h.tb, h.sl, h.resetWork⟩

/-- A sample after one that stood is lid motion where it differs by more than the threshold (R141, R147). -/
theorem lidSampleTold_eq {v before : Reading} (hb : p.sa.previous = some before) :
    lidSampleTold v.1 v.2.1 v.2.2 false p =
      if movedBeyond p.sl.inForce.pickupThreshold v before = true then
        if p.sl.inForce.pickupWake = true ∧ pickupPosture (activity (sampleStored v p)).sa.posture = true then
          wakeCause .pickup (activity (sampleStored v p))
        else activity (sampleStored v p)
      else sampleStored v p := by
  have wake : (activity (sampleStored v p)).sl.inForce.pickupWake = p.sl.inForce.pickupWake := by simp [sampleStored]
  rw [← wake]
  simp only [lidSampleTold, hb]
  rfl

/-- PC evaluates the delivery of a lid sample, and OT takes it (R32). -/
theorem lidSampleAngle_taken (v : Reading) (p : Part) : lidSampleAngle v p = orientationDelivery
    ⟨(lidSampleAngle v p).ae.delivery, some (p.sl.inForce.lidMap.apply v), p.tb⟩ (evaluatePosture (sampleTaken v p)) := by
  conv_lhs => rw [lidSampleAngle_eq]
  rfl

theorem lidSampleAngle_bl (v : Reading) (p : Part) : (lidSampleAngle v p).bl = (evaluatePosture (sampleTaken v p)).bl := by
  rw [lidSampleAngle_taken]
  simp

/-- A lid sample publishes no posture (R42). -/
theorem lidSampleAngle_unadvised (v : Reading) (hp : PostureInv p) : Unadvised p (lidSampleAngle v p) := by
  have evaluated : Unadvised (sampleTaken v p) (evaluatePosture (sampleTaken v p)) := .evaluatePosture fun hl => (hp hl).1
  rw [lidSampleAngle_taken]
  exact (evaluated.trans (by constructor <;> simp)).after ⟨rfl, rfl, rfl, rfl, rfl⟩

theorem lidSampleAngle_pendingWake (v : Reading) (hl : p.bl.link = .hibernate) :
    (lidSampleAngle v p).bl.pendingWake = p.bl.pendingWake := by
  have link : (sampleTaken v p).bl.link = .hibernate := hl
  obtain ⟨on, bl⟩ := decided_bl (p := sampleTaken v p) (by rw [link]; rfl)
  rw [lidSampleAngle_bl, (evaluatePosture_attached (by rw [link]; rfl)).2.1, bl]
  rfl

/-- The part as SA is told of a lid sample: AE has taken it, and PC and OT its delivery (R8, R32). -/
def sampleDelivered (v : Reading) (p : Part) : Part := lidSampleAngle v (sampleHeard p)

theorem sampleDelivered_unadvised (v : Reading) (hp : PostureInv p) : Unadvised p (sampleDelivered v p) :=
  (lidSampleAngle_unadvised (p := sampleHeard p) v hp).after ⟨rfl, rfl, rfl, rfl, rfl⟩

theorem sampleDelivered_link (v : Reading) (p : Part) : (sampleDelivered v p).bl.link = p.bl.link := by
  simp [sampleDelivered, lidSampleAngle_bl, sampleTaken, sampleHeard]

theorem sampleDelivered_overdue (v : Reading) (ho : ¬ WakeOverdue s) :
    ¬ Overdue (sampleDelivered v s.part) := by
  rintro ⟨hl, hw, ht⟩
  rw [sampleDelivered_link] at hl
  refine ho ⟨hl, ?_, by simpa [sampleDelivered, lidSampleAngle_bl, sampleTaken, sampleHeard] using ht⟩
  rwa [sampleDelivered, lidSampleAngle_pendingWake (p := sampleHeard s.part) v hl] at hw

theorem sampleEnded_unfresh (due : Time) (v : Reading) (hf : p.sp.fresh = false) :
    sampleEnded due (some v) p = settle (lidSampleTold v.1 v.2.1 v.2.2 false (sampleDelivered v p)) := by
  rw [sampleEnded_some, hf]
  rfl

section
variable {v before : Reading} (due : Time) (hf : s.part.sp.fresh = false) (hp : PostureInv s.part)
  (hb : s.part.sa.previous = some before)
include hf hp hb

/-- A sample that is no lid motion is stored alone (R141). -/
theorem sample_still (hm : movedBeyond s.part.sl.inForce.pickupThreshold v before = false) (ho : ¬ WakeOverdue s) :
    (sampleEnded due (some v) s.part).sa = { s.part.sa with previous := some v } := by
  have delivered := sampleDelivered_unadvised v hp
  rw [sampleEnded_unfresh due v hf, lidSampleTold_eq (by rwa [delivered.sa]), delivered.sl,
    if_neg (by simp [hm])]
  exact ((delivered.sampleStored v).trans (.settle (sampleDelivered_overdue v ho))).sa

/-- Lid motion while the host runs is an activity (R142). -/
theorem sample_taken (hm : movedBeyond s.part.sl.inForce.pickupThreshold v before = true) (ho : ¬ WakeOverdue s)
    (hr : s.part.sa.hostState = .running) (hw : s.part.sa.advisor ≠ .watching) :
    ActivityTaken s (s.on (sampleEnded due (some v))) := by
  have delivered := sampleDelivered_unadvised v hp
  have stored := delivered.sampleStored v
  have still := wakeCause_activity (p := sampleStored v (sampleDelivered v s.part)) (by rw [stored.sa]; exact hr)
    (by rw [stored.sa]; exact hw) .pickup
  have bl : (activity (sampleStored v (sampleDelivered v s.part))).bl = (sampleDelivered v s.part).bl := by
    simp [sampleStored]
  refine activityTaken_of (s := s.on (sampleStored v)) stored hr ?_
  rw [State.on_part, sampleEnded_unfresh due v hf, lidSampleTold_eq (by rwa [delivered.sa]), delivered.sl, if_pos hm, still,
    ite_self]
  exact .settle (by rw [Overdue, bl]; exact sampleDelivered_overdue v ho)

/-- Lid motion in WATCHING is the cause of a wake, where that is on and the posture is one of a pickup (R147). -/
theorem sample_wakes (hm : movedBeyond s.part.sl.inForce.pickupThreshold v before = true)
    (hn : s.part.sa.hostState ≠ .running) (hw : s.part.sa.advisor = .watching) :
    if s.part.sl.inForce.pickupWake = true ∧ s.part.sa.posture ∈ [.tablet, .flat, .detached]
    then WakeAdvised 32#16 s.part.sa.posture s (s.on (sampleEnded due (some v)))
    else (sampleEnded due (some v) s.part).nu.classes.get .advice = s.part.nu.classes.get .advice := by
  have delivered := sampleDelivered_unadvised v hp
  have stored := delivered.sampleStored v
  have told : sampleEnded due (some v) s.part =
      settle (if s.part.sl.inForce.pickupWake = true ∧ pickupPosture s.part.sa.posture = true then
        wakeCause .pickup (sampleStored v (sampleDelivered v s.part))
        else sampleStored v (sampleDelivered v s.part)) := by
    rw [sampleEnded_unfresh due v hf, lidSampleTold_eq (by rwa [delivered.sa]), delivered.sl, if_pos hm,
      activity_notRunning (by rw [stored.sa]; exact hn), stored.sa]
    rfl
  simp only [← pickupPosture_iff, told]
  split
  · next hc =>
    exact settle_wakeCause_advised (s := s.on (sampleStored v)) (c := .pickup) stored hn hw
      (sampleDelivered_link v s.part) (by rw [State.on_part, told, if_pos hc])
  · exact (stored.hushed.settle hn).2

end

/-! ### A key press forwarded (R92, R93, R142, R147) -/

/-- The press of a key that is not held, with room for it, is forwarded (R93). -/
theorem keyTransition_press {e : KeyEvent} (time : Word) (hf : e.flags.getLsbD 0 = false) (h0 : 0 < e.code.toNat)
    (hc : e.code.toNat < 128) (hh : e.code.toNat ∉ p.kt.held) (hl : p.kt.held.length < 16) (hs : p.kt.suppression = false)
    (hq : p.kt.queue.length < 16) : ∃ k, keyTransition time p e = keyTold { p with kt := k } := by
  refine ⟨{ { p.kt with held := insertCode e.code.toNat p.kt.held }.push e.code.toNat false false time with
    down := insertCode e.code.toNat p.kt.down }, ?_⟩
  simp only [keyTransition, validCode, h0, hc, decide_true, Bool.and_self, if_true, hf, Bool.false_eq_true, if_false, press,
    hh, Nat.not_le.mpr hl, hs, queuePress, hq]

theorem Unadvised.keysFrame_rest (gap : Bool) (e : KeyEvent) (n : Nat) (p : Part) :
    Unadvised (keyTransition (loWord p.tb) p e) (keysFrame gap [e] n p) := by
  have queued := Unadvised.offerIfQueued (p := keyTransition (loWord p.tb) p e) p.kt.queue.length
  exact ite (queued.trans ⟨rfl, rfl, rfl, rfl, rfl⟩) queued

/-- A KEYS frame of one press in ACTIVE is a key told to SA, and what touches neither SA nor its advice (R66, R92). -/
theorem receive_press {e : KeyEvent} (noise : NoiseCount) (seq : BitVec 4) (n : Nat) (hl : p.bl.link = .active)
    (hf : e.flags.getLsbD 0 = false) (h0 : 0 < e.code.toNat) (hc : e.code.toNat < 128) (hh : e.code.toNat ∉ p.kt.held)
    (hr : p.kt.held.length < 16) (hs : p.kt.suppression = false) (hq : p.kt.queue.length < 16) :
    ∃ q, Unadvised p q ∧ Unadvised (keyTold q) (receive noise (keysReception seq [e] n) p) := by
  let r := seqCheck seq (countNoise noise p)
  have link : r.bl.link = .active := by simpa [r, seqCheck_eq, countNoise_link] using hl
  have kt : r.kt = p.kt := by simp [r]
  have checked : Unadvised p r := by constructor <;> simp [r]
  obtain ⟨k, told⟩ := keyTransition_press (p := r) (e := e) (loWord r.tb) hf h0 hc (by rwa [kt]) (by rwa [kt]) (by rwa [kt])
    (by rwa [kt])
  let gap := decide (seqGap (countNoise noise p).bl seq ≠ 0)
  have received : receive noise (keysReception seq [e] n) p = settleWith true (keysFrame gap [e] n r) := by
    have listens : p.bl.link.listens = true := by rw [hl]; rfl
    have taken : keysReceived gap [e] n r = keysFrame gap [e] n r := by simp only [keysReceived, link]
    rw [receive, if_pos listens, keysReception, if_pos (by simp), ← taken]
  refine ⟨{ r with kt := k }, checked.trans ⟨rfl, rfl, rfl, rfl, rfl⟩, ?_⟩
  rw [received, ← told]
  exact (Unadvised.keysFrame_rest gap e n r).trans (.settleWith true (by simp [keysFrame_link, link]))

/-! ### The obligation -/

theorem keyTold_taken (hq : Unadvised s.part q) (ht : Unadvised (keyTold q) t.part) (hr : s.part.sa.hostState = .running)
    (hw : s.part.sa.advisor ≠ .watching) : ActivityTaken s t := by
  rw [keyTold, wakeCause_activity (by rwa [hq.sa]) (by rwa [hq.sa])] at ht
  exact activityTaken_of hq hr ht

theorem keyTold_wakes (hq : Unadvised s.part q) (ht : Unadvised (keyTold q) t.part) (hl : s.part.bl.link ≠ .hibernate)
    (hn : s.part.sa.hostState ≠ .running) (hw : s.part.sa.advisor = .watching) :
    WakeAdvised 4#16 s.part.sa.posture s t := by
  rw [keyTold, activity_notRunning (by rwa [hq.sa]), wakeCause_watching (by rwa [hq.sa])] at ht
  exact wakeAdvised_of (c := .key) hq hw ((adviseWake_hushed hq .key).unadvised ht) fun hh => absurd hh hl

theorem exec_orientationDwellExpiry (h : timerDue s.part.ot.dwell s.part.tb = true) :
    exec .orientationDwellExpiry s = .next (s.on rotationExpired) := by
  simp [exec, execOrientationDwellExpiry, h]

/-- Settles O39, event by event: each is an activity or the cause of a wake, with nothing around it that touches SA's answer. -/
theorem advisorTimers : Obligations.AdvisorTimers := by
  refine ⟨fun s hd => ⟨fun ha hk => ⟨_, exec_inactivityExpiry hd, inactivityExpired_dims (s := s) ha hk⟩, fun ho => ?_⟩,
    fun s hd => ⟨fun ha => ⟨_, exec_graceExpiry hd, graceExpired_advises (s := s) ha⟩, fun ha => ?_⟩,
    fun q s hd hc hr _ => ⟨_, exec_orientationDwellExpiry hd, rotationExpired_taken hc hr⟩,
    fun s hd ho => ⟨fun hr hw => ⟨_, exec_debounceExpiry (k := .penh) hd, debounceExpired_penh_taken ho hr hw⟩,
      fun hn hw => ⟨_, exec_debounceExpiry (k := .penh) hd, debounceExpired_penh_wakes hn hw⟩⟩,
    fun s hd hp ha hl => ?_,
    fun s hd ha hl _ => ⟨fun hr => ⟨_, exec_debounceExpiry (k := .bpres) hd, detach_taken ha hl hr⟩,
      fun hn _ => ⟨_, exec_debounceExpiry (k := .bpres) hd, detach_hushed ha hl hn⟩⟩,
    fun s hd hl _ hn hw => ⟨_, exec_debounceExpiry (k := .lidh) hd, debounceExpired_lidh_wakes hl hn hw⟩,
    fun noise seq code flags n s hl _ hf h0 hc hh hr hs hq => ?_,
    fun due v before a r s hf hv hp hb hu ho => ⟨_, exec_sampleArrival hf a r, ?_⟩⟩
  · rw [exec_inactivityExpiry hd, State.on, inactivityExpired_other ho]
  · rw [exec_graceExpiry hd, State.on, graceExpired_other ha]
  · have published : s.part.pc.published = .detached := (hp (by rw [hl]; rfl)).1
    exact ⟨fun hr hw => ⟨_, exec_debounceExpiry (k := .bpres) hd, attach_taken ha hl published hr hw⟩,
      fun hn hw => ⟨_, exec_debounceExpiry (k := .bpres) hd, attach_wakes ha hl published hn hw⟩⟩
  · obtain ⟨q, heard, told⟩ := receive_press (e := ⟨code, flags⟩) noise seq n.toNat hl hf h0 hc hh hr hs hq
    exact ⟨fun hr hw => ⟨_, rfl, keyTold_taken heard told hr hw⟩,
      fun hn hw => ⟨_, rfl, keyTold_wakes heard told (by simp [hl]) hn hw⟩⟩
  · rw [hv]
    refine ⟨(deliverSample_kept v _).1, ?_⟩
    simp only [← movedBeyond_iff]
    split
    · next hm => exact ⟨sample_taken due hu hp hb hm ho, sample_wakes due hu hp hb hm⟩
    · next hm => exact sample_still due hu hp hb (Bool.eq_false_iff.mpr hm) ho

end Sys2Proof.Machine
